-- ==== Sys2Proof/Word.lean ====
section
/-! DEFINITION. The words the machine is written in: bytes, and the sparse tables that hold its arrays. -/

namespace Sys2Proof

/-- One byte. -/
abbrev Byte := BitVec 8

/-- A 32-bit word, as BAR0 and the journal show it. -/
abbrev Word := BitVec 32

/-- A sparse table: (key, value) pairs with strictly rising keys; a key not listed holds the table's
default, and no entry equals that default. -/
abbrev Tab (α : Type) := List (Nat × α)

end Sys2Proof
end

