-- ==== Sys2Proof/Syntax.lean ====
section
/-! DEFINITION. The commands the device takes from outside, one constructor per row of the operation table.
A row that the device's own hardware or firmware steps through (a rim, a timer, a threshold) is a command too;
its operands are what comes from outside with it: samples, received bits, instants of grid time G (R339). -/

namespace Sys2Proof

/-- What comes with every host command at its execution: the ring pair that holds it, SEQ, TAG and FORCE of its
packet (R377), whether any of its reserved bits is set (R8), and the grid time of the execution. -/
structure CmdHdr where
  pair  : Nat
  seq   : Nat
  tag   : Nat
  force : Bool
  rsvd  : Bool
  time  : Nat
deriving DecidableEq, Repr

/-- The host output buffer of a command (R391): OUT_LEN, OUT_ADDR, and whether the writes to it complete. -/
structure OutBuf where
  len  : Nat
  addr : Nat
  ok   : Bool
deriving DecidableEq, Repr

/-- What the converters and balls give at a rim: for each converter the raw codes of the window that closes,
each with its sampling instant (R41), the levels at the trip inputs (1 = active) and trigger lines (1 = low), and
the highest junction temperature in 1/16 degree. -/
structure RimIn where
  conv  : List (List (Nat × Int))
  trips : Nat
  lines : Nat
  tj    : Int
deriving DecidableEq, Repr

/-- The sums of a channel's reference samples in a calibration (R56): 4,096 at zero, 16,384 at +2.0 V and
16,384 at −2.0 V. -/
structure CalSum where
  ch   : Nat
  zero : Int
  pos  : Int
  neg  : Int
deriving DecidableEq, Repr

/-- A ramp entry in the layout of R74. -/
structure RampArgs where
  group   : Nat
  mask    : Nat
  mode    : Nat
  blend   : Nat
  minDur  : Nat
  start   : Nat
  targets : List Int
deriving DecidableEq, Repr

/-- The parameters of CELL_BIND (R406). -/
structure BindArgs where
  entry  : Nat
  rod    : Nat
  lane   : Nat
  slot   : Nat
  kind   : Nat
  minInt : Nat
  cNom   : Nat
  cellId : Nat
deriving DecidableEq, Repr

/-- The parameters of TOUT_ARM (R356). -/
structure ToutArgs where
  output : Nat
  mode   : Nat
  ptp    : Bool
  epoch  : Nat
  width  : Nat
  period : Nat
  target : Nat
deriving DecidableEq, Repr

/-- How the receiver judges a burst's lock word (R216). -/
inductive Lock where
  | locked | inverted | fail
deriving DecidableEq, Repr

/-- An upstream burst as received on a lane: the tree slot it is taken for, the lock judgement, the blocks (sync
header, payload) of its content, the grid time of its last bit, the instant of its last lock-word bit in 1/16 ns,
and the sampling phase and threshold the receiver ended with (R217). -/
structure Burst where
  lane   : Nat
  slot   : Nat
  lock   : Lock
  blocks : List (Nat × BitVec 64)
  time   : Nat
  tLock  : Nat
  phase  : Nat
  thr    : Int
deriving DecidableEq, Repr

/-- The framing of a partner-link message (R316): the link, MSEQ, the sender's FN [15:0], whether CRC and header
checks hold, and the grid time of its header's arrival in 1/16 ns. -/
structure PHdr where
  link : Nat
  mseq : Nat
  fn   : Nat
  good : Bool
  time : Nat
deriving DecidableEq, Repr

/-- The content of HB (R318). -/
structure HbMsg where
  fn       : Nat
  role     : Nat
  devState : Nat
  sys      : Nat
  synced   : Bool
  hover    : Bool
  leaving  : Bool
  rxOfs    : Int
  hoverFn  : Nat
  execNo   : Nat
  tripSeq  : Nat
  release  : Nat
  tableCrc : Nat
  laser    : Nat
deriving DecidableEq, Repr

/-- One rod of a ROD message (R317): carry, sense and rest, partial entry with its sign and closing level, vc_last
and the release kind. -/
structure RodRec where
  carry   : Int
  sigma   : Int
  rest    : Bool
  partEnt : Option Nat
  partPos : Bool
  vcLast  : Option Nat
  release : Nat
deriving DecidableEq, Repr

/-- One changed entry of a CELL message (R317): the index and the changed 32-bit words of the entry, each with its
word number. -/
structure CellRec where
  entry : Nat
  words : List (Nat × BitVec 32)
deriving DecidableEq, Repr

/-- A normalised block floating point value (R90). -/
structure Bfp where
  m : Int
  e : Int
deriving DecidableEq, Repr

/-- The states of a second-order section (R95). -/
structure Sect where
  w1 : Int
  w2 : Int
  e  : Int
deriving DecidableEq, Repr

/-- One slot of a LOOP message (R317). -/
structure LoopRec where
  slot  : Nat
  out0  : Bfp
  out1  : Bfp
  count : Nat
  flags : Nat
  sects : List Sect
deriving DecidableEq, Repr

/-- A trend record of the observer (R152). -/
structure Trend where
  cLast  : Nat
  slope  : Int
  points : Nat
  age    : Nat
deriving DecidableEq, Repr

/-- One entry of an OBS message (R317). -/
structure ObsRec where
  entry : Nat
  v     : Int
  cEst  : Nat
  sqq   : Nat
  sqv   : Int
  nq    : Nat
  trend : Trend
deriving DecidableEq, Repr

/-- A management message (R250): MTYPE, SLOT, ARG, TAG. -/
structure Mgt where
  mtype : Nat
  slot  : Nat
  arg   : Nat
  tag   : Nat
deriving DecidableEq, Repr

/-- An edge entry of a downstream frame (R243). -/
structure EdgeEnt where
  test : Bool
  off  : Nat
  lv1  : Nat
  lv0  : Nat
  slot : Nat
deriving DecidableEq, Repr

/-- What a standby receives of the active device's frame on a monitor input (R239–R243): the header fields that it
uses, the management messages, the wire codes by slot and the edge entries. -/
structure MxFrame where
  plan    : Bool
  len     : Nat
  tx      : Nat
  tripSeq : Nat
  mgt     : List Mgt
  codes   : List Nat
  edges   : List EdgeEnt
deriving DecidableEq, Repr

/-- A duplicate-window record of an IMAGE (R332, R383): pair, SEQ, packet CRC, basis, and the final reply if complete:
opcode, TAG, status and data. -/
structure ImgWin where
  pair   : Nat
  seq    : Nat
  crc    : Nat
  basis  : Nat
  reply  : Option (Nat × Nat × Nat × List Byte)
deriving DecidableEq, Repr

/-- What an IMAGE message holds (R332, step 3): parameters, non-volatile parts, queued ramp entries, mirrored
commands without a reply (pair, generation, SEQ, packet), duplicate-window records, and NEXT of every pair. -/
structure ImageMsg where
  params  : List (Nat × Int)
  cells   : List (Nat × List Byte)
  ramps   : List RampArgs
  cmds    : List (Nat × Nat × Nat × List Byte)
  window  : List ImgWin
  next    : List Nat
  last    : Bool
deriving DecidableEq, Repr

/-- HELLO (R317): SYS, silicon revision letter, COMPAT_LEVEL, FCS generations in use, LAT_DEV of every lane. -/
structure HelloMsg where
  sys    : Nat
  rev    : Nat
  compat : Nat
  gens   : Nat
  latDev : List Int
deriving DecidableEq, Repr

/-- A Sync or Follow_Up (R345): port, domain, sequence number, two-step flag, originTimestamp and correction in ns,
the corrected-free raw ingress stamp in 1/16 ns of grid time, and the log of the sync interval. -/
structure SyncMsg where
  port    : Nat
  domain  : Nat
  seqId   : Nat
  twoStep : Bool
  origin  : Int
  corr    : Int
  rawG16  : Nat
  logInt  : Int
deriving DecidableEq, Repr

/-- The master data set of an Announce (R343), in the order of comparison of the BMCA. -/
structure MasterDs where
  prio1    : Nat
  cls      : Nat
  accuracy : Nat
  variance : Nat
  prio2    : Nat
  identity : Nat
  steps    : Nat
deriving DecidableEq, Repr

/-- A completed peer-delay exchange on a port: the four stamps of IEEE 1588 (t1 egress and t4 ingress raw on this
port in 1/16 ns of grid time, t2 and t3 as the peer gives them in ns). -/
structure PdelayMsg where
  port  : Nat
  t1G16 : Nat
  t2    : Int
  t3    : Int
  t4G16 : Nat
deriving DecidableEq, Repr

/-- What a step of the start-up sequence finds (R482): the ROM check, the flashes that answer with fitting tables,
whether the PLL band search of steps 2 and 5 gave this band, and the time the step ends, in µs after leaving reset. -/
structure StartIn where
  romOk   : Bool
  flash0  : Bool
  flash1  : Bool
  band    : Nat
  lockUs  : Nat
  timeUs  : Nat
deriving DecidableEq, Repr

/-- The commands. -/
inductive Instr where
  | rim (inp : RimIn)
  | frmGuard
  | frmOverrun2
  | fabricComplete (t : Nat) (stages : List Nat)
  | adcRodDisc (rod : Nat)
  | adcPlaus (tri : Nat)
  | adcCalComplete (t : Nat) (sums : List CalSum)
  | ctlFeReaction (slot : Nat)
  | suspectTimeout (entry : Nat)
  | suspectRecover (entry : Nat)
  | missedLimit (entry : Nat)
  | skipLimit (entry : Nat)
  | obsReseed (entry : Nat)
  | obsClBlock (entry : Nat)
  | trendPoint
  | tallyBatch
  | hostPortReset
  | pcieLinkDown
  | hifDbOpenLo (v : Nat)
  | hifDbOpenHi (v : Nat)
  | sessionOpenComplete (desc : Option (List Byte))
  | hifDbClose (v : Nat)
  | hifDbCmd (pair v : Nat)
  | hifDbRpl (pair v : Nat)
  | barWriteDiscarded (bar off v : Nat)
  | frmCountLoRead
  | packetIntake (pair : Nat) (bytes : List Byte) (t : Nat)
  | replyWrite (pair : Nat)
  | mirrorTimeout (pair seq : Nat)
  | sessionInfo (h : CmdHdr)
  | echo (h : CmdHdr) (v : Nat)
  | paramGet (h : CmdHdr) (id : Nat)
  | paramSet (h : CmdHdr) (id : Nat) (v : Int)
  | paramBlockSet (h : CmdHdr) (entries : List (Nat × Int))
  | paramBlockGet (h : CmdHdr) (first count : Nat) (buf : OutBuf)
  | convStatus (h : CmdHdr)
  | convArm (h : CmdHdr)
  | convDisarm (h : CmdHdr)
  | convRun (h : CmdHdr)
  | convBlock (h : CmdHdr)
  | convSafeStop (h : CmdHdr)
  | convSafeBlock (h : CmdHdr)
  | convRecover (h : CmdHdr)
  | convMaint (h : CmdHdr)
  | convMaintEnd (h : CmdHdr)
  | trpClear (h : CmdHdr) (inputs : Nat) (tg : Bool) (idle : List Nat)
  | trpTest (h : CmdHdr) (inputs : Nat)
  | refQueue (h : CmdHdr) (e : RampArgs)
  | refReplace (h : CmdHdr) (e : RampArgs)
  | refStop (h : CmdHdr) (group : Nat)
  | refPhaseLoad (h : CmdHdr) (nco frame phase : Nat)
  | cellBind (h : CmdHdr) (b : BindArgs)
  | cellUnbind (h : CmdHdr) (entry count : Nat)
  | cellBlock (h : CmdHdr) (entry count : Nat)
  | cellRelease (h : CmdHdr) (entry count : Nat)
  | cellBypass (h : CmdHdr) (entry count : Nat)
  | cellReplace (h : CmdHdr) (entry cellId : Nat)
  | cellSet (h : CmdHdr) (entry mask minInt cNom : Nat)
  | cellLoad (h : CmdHdr) (first : Nat) (parts : List (List Byte))
  | cellClear (h : CmdHdr) (entry count : Nat)
  | lnkRestart (h : CmdHdr) (mask : Nat)
  | trcArm (h : CmdHdr)
  | trcDisarm (h : CmdHdr)
  | trcTrigger (h : CmdHdr)
  | evrRecord (h : CmdHdr) (cause : Nat)
  | evrClearFirst (h : CmdHdr)
  | jnlSync (h : CmdHdr)
  | jnlCompact (h : CmdHdr)
  | jnlExport (h : CmdHdr) (flash off len : Nat) (buf : OutBuf)
  | toutArm (h : CmdHdr) (a : ToutArgs)
  | toutStop (h : CmdHdr) (output : Nat)
  | timeSelect (h : CmdHdr) (domain : Nat)
  | timeStepNow (h : CmdHdr)
  | pairSwitch (h : CmdHdr)
  | pairLeave (h : CmdHdr)
  | pairClaim (h : CmdHdr)
  | pairRejoin (h : CmdHdr)
  | fltClear (h : CmdHdr) (source kind : Nat)
  | fltDrain (h : CmdHdr) (clearLost : Bool) (buf : OutBuf)
  | pwrDomain (h : CmdHdr) (mask on : Nat)
  | devRestart (h : CmdHdr)
  | adcCal (h : CmdHdr)
  | statsClear (h : CmdHdr)
  | firTestEdge (h : CmdHdr) (entry code time : Nat)
  | firTestEnd (h : CmdHdr) (entry : Nat)
  | firTestHoldExpire (entry : Nat)
  | fcs1Ident (h : CmdHdr)
  | fcs1Nop (h : CmdHdr) (v : Nat)
  | fcs1GetParam (h : CmdHdr) (id : Nat)
  | fcs1SetParam (h : CmdHdr) (id : Nat) (v : Int)
  | fcs1LoadParams (h : CmdHdr) (entries : List (Nat × Int))
  | fcs1Enable (h : CmdHdr)
  | fcs1Disable (h : CmdHdr)
  | fcs1Start (h : CmdHdr)
  | fcs1Stop (h : CmdHdr)
  | fcs1Block (h : CmdHdr)
  | fcs1ResetBlock (h : CmdHdr)
  | fcs1Service (h : CmdHdr)
  | fcs1ServiceEnd (h : CmdHdr)
  | fcs1TripReset (h : CmdHdr) (inputs : Nat) (idle : List Nat)
  | fcs1Ramp (h : CmdHdr) (group mask dur : Nat) (targets : List Int)
  | fcs1RampStop (h : CmdHdr) (group : Nat)
  | fcs1CellAdd (h : CmdHdr) (b : BindArgs)
  | fcs1CellRemove (h : CmdHdr) (entry : Nat)
  | fcs1CellBlock (h : CmdHdr) (entry : Nat)
  | fcs1CellUnblock (h : CmdHdr) (entry : Nat)
  | fcs1CellBypass (h : CmdHdr) (entry : Nat)
  | fcs1CellSwap (h : CmdHdr) (entry cellId : Nat)
  | fcs1LinkReset (h : CmdHdr) (mask : Nat)
  | fcs1CaptureArm (h : CmdHdr)
  | fcs1CaptureForce (h : CmdHdr)
  | fcs1Save (h : CmdHdr)
  | fcs1Calibrate (h : CmdHdr)
  | fcs1ClearFaults (h : CmdHdr)
  | fcs1StatsReset (h : CmdHdr)
  | tripFilterPass (input t : Nat)
  | trpHoldEsc (rod : Nat)
  | trpPairDiff (input : Nat)
  | sbkEnv (rod : Nat)
  | safeStopComplete
  | telegramReceive (lan : Nat) (bytes : List Byte) (t : Nat)
  | sbkTgLoss (lan : Nat)
  | sbkTgSilence (t : Nat)
  | lnkLightDetect (lane : Nat)
  | lnkDetectFlag (lane : Nat)
  | lnkEqDwellEnd (lane w h clean : Nat) (dsErr : Bool)
  | lnkAlignLock (lane : Nat) (rxInv : Bool) (dsInv : List Bool)
  | lnkAlignTo (lane : Nat)
  | lnkCapsQuiet (lane : Nat)
  | lnkCapsTo (lane : Nat)
  | lnkDiscRoundEnd (lane : Nat)
  | lnkDiscTo (lane : Nat)
  | lnkRetryWaitEnd (lane : Nat)
  | lnkLos (lane : Nat)
  | reportBurst (b : Burst)
  | burstLockFail (lane slot : Nat)
  | phaseCacheStale (lane slot : Nat)
  | rangingBurst (b : Burst)
  | beacon (b : Burst)
  | announce (b : Burst)
  | c1Report (lane : Nat) (bytes : List Byte) (t : Nat)
  | c1RangingAnswer (lane : Nat) (bytes : List Byte) (tLock : Nat)
  | c1Capability (lane : Nat) (bytes : List Byte) (t : Nat)
  | partnerLinkLock (link : Nat)
  | hb (p : PHdr) (m : HbMsg)
  | rod (p : PHdr) (rods : List RodRec) (phases : List Nat)
  | cell (p : PHdr) (cells : List CellRec)
  | mirror (p : PHdr) (pair gen seq : Nat) (bytes : List Byte)
  | mirAck (p : PHdr) (pair seq : Nat) (t : Nat)
  | partnerExec (p : PHdr) (pair seq num : Nat)
  | execAck (p : PHdr) (num : Nat)
  | loop (p : PHdr) (recs : List LoopRec)
  | obs (p : PHdr) (recs : List ObsRec)
  | image (p : PHdr) (m : ImageMsg)
  | hello (p : PHdr) (m : HelloMsg)
  | hoverAck (p : PHdr) (fn : Nat)
  | mxFsDetect (lane fn sys t : Nat) (f : Option MxFrame)
  | pairSplit
  | heartbeatJudge
  | handoverJudge
  | handoverMonitorCheck
  | pairWaitEnd
  | joinStepDone
  | pairJoinSlow
  | syncedLoss
  | pairTableDiff
  | brdPresHigh
  | ptnrPresHigh
  | ptpSync (m : SyncMsg)
  | ptpFollowUp (m : SyncMsg)
  | timeStep
  | ptpAnnounce (port domain : Nat) (ds : MasterDs)
  | ptpAnnounceTimeout (port domain : Nat)
  | ptpSyncLoss (dom : Nat)
  | ptpPdelayReq (port seqId rawG16 : Nat)
  | ptpPdelayResp (m : PdelayMsg)
  | pdelayReqTimer
  | ethLinkChange (port : Nat) (up : Bool)
  | toutFire (output : Nat)
  | toutPulseEnd (output : Nat)
  | pllLock (band us : Nat)
  | syncInEdge (t count wrap g : Nat)
  | syncInTimeout
  | pllUnlock
  | eccError (region addr : Nat) (corrected : Bool)
  | fltSelf
  | supplyFail (domain : Nat)
  | tempCrit
  | fatalDark
  | tempHigh (tj : Int)
  | faultMessage (msg : BitVec 64)
  | trcPreFull
  | trcEdgeTrigger (t : Nat) (v : Int)
  | trcMaskViolation (slot t : Nat) (v : Int)
  | trcPostComplete
  | trigLineFire (t : Nat)
  | trigLineArm
  | evrTrigger (typ : Nat) (cause : BitVec 64) (t : Nat)
  | evrRecordWrite
  | jnlRecordCommit (jseq : Nat)
  | jnlFlashFail (flash addr : Nat)
  | jnlCompactionStart
  | blockEraseDone
  | taskEnqueue (cls source t : Nat)
  | coreFree (core t : Nat)
  | supWdog (core : Nat)
  | schLoadWindowEnd (busy : List Nat)
  | powerOn
  | boardReset
  | leaveReset (sys : Nat)
  | startUpStep (inp : StartIn)
  | domainSwitched
  | pwrFailAssert (done : List Nat)
  | pwrFailSequenceEnd (high : Bool)
  | fatalRestart (t : Nat)
  | devRestartExpire
  | partnerLinkDown (link : Nat)
  | monitorLost (lane : Nat)
  | powerLoss
deriving DecidableEq, Repr

end Sys2Proof
end

