-- ==== Sys2Proof/Decode.lean ====
section
/-! DEFINITION. The operation table of this block gives no row bits: no word spells a command. Commands arrive as
packets, messages, bursts and events, each with its operands. -/

namespace Sys2Proof

/-- The command that a word of `nbits` bits spells by the table's bits: none, since no row gives bits. (DESIGN CHOICE, log 10.) -/
def decodeTableWord (_nbits _w : Nat) : Option Instr := none

end Sys2Proof
end

