-- ==== Sys2Proof/Machine/Bits.lean ====
section
/-! DEFINITION. The helpers over numbers, bits, bytes, checksums, sparse tables and byte memories that every
meaning uses. -/

namespace Sys2Proof.Machine

open Sys2Proof

/-- 1 for true, 0 for false. -/
def b2n (b : Bool) : Nat := if b then 1 else 0

/-- A counter of `w` bits that saturates at its maximum (access code SAT). -/
def satAdd (w x n : Nat) : Nat := min (x + n) (2 ^ w - 1)

/-- An integer held to the range from `lo` to `hi`. -/
def clampI (lo hi x : Int) : Int := max lo (min hi x)

/-- An integer held to `w` bits in two's complement, saturating. -/
def satS (w : Nat) (x : Int) : Int := clampI (-(2 ^ (w - 1) : Int)) (2 ^ (w - 1) - 1) x

/-- An integer held to the unsigned range of `w` bits, saturating. -/
def satU (w : Nat) (x : Int) : Nat := (clampI 0 (2 ^ w - 1) x).toNat

/-- The two's complement of an integer in `w` bits. -/
def toBits (w : Nat) (x : Int) : Nat := (x % (2 ^ w : Int)).toNat

/-- The signed value of the low `w` bits of a number. -/
def sext (w x : Nat) : Int :=
  let y := x % 2 ^ w
  if 2 ^ (w - 1) ≤ y then (y : Int) - 2 ^ w else y

/-- Division rounding to the nearest integer, halves away from zero; 0 for a divisor of 0. -/
def rdiv (a : Int) (b : Nat) : Int :=
  if b = 0 then 0
  else if 0 ≤ a then (2 * a + b) / (2 * b) else -((2 * (-a) + b) / (2 * b))

/-- `a` divided by 2 to the `n`, rounded half away from zero. -/
def rshr (a : Int) (n : Nat) : Int := rdiv a (2 ^ n)

/-- Division towards minus infinity. -/
def fdiv (a : Int) (b : Nat) : Int := Int.fdiv a b

/-- Division towards zero. -/
def tdiv (a : Int) (b : Nat) : Int := Int.tdiv a b

/-- The division of natural numbers rounded up. -/
def cdiv (a b : Nat) : Nat := if b = 0 then 0 else (a + b - 1) / b

/-- The largest integer whose square is at most `x`, by digits, for `x` below 4 to the `fuel`. -/
def isqrtAux : Nat → Nat → Nat → Nat
  | 0, _, r => r
  | fuel + 1, x, r =>
    let c := r + 2 ^ fuel
    isqrtAux fuel x (if c * c ≤ x then c else r)

/-- The integer square root of a number of up to 128 bits. -/
def isqrt (x : Nat) : Nat := isqrtAux 64 x 0

/-- Bits `hi` to `lo` of a number. -/
def bits (hi lo x : Nat) : Nat := (x / 2 ^ lo) % 2 ^ (hi + 1 - lo)

/-- Bit `i` of a number. -/
def tb (x i : Nat) : Bool := Nat.testBit x i

/-- A number with bit `i` set or cleared. -/
def setB (x i : Nat) (b : Bool) : Nat :=
  if tb x i == b then x else if b then x + 2 ^ i else x - 2 ^ i

/-- The number of ones among the low `n` bits. -/
def popN (n x : Nat) : Nat := ((List.range n).filter (fun i => tb x i)).length

/-- The bit positions below `n` that are set. -/
def bitsOf (n x : Nat) : List Nat := (List.range n).filter (fun i => tb x i)

/-- The mask with the given bit positions set. -/
def maskOf (l : List Nat) : Nat := l.foldl (fun a i => setB a i true) 0

/-- The bitwise or. -/
def bor (a b : Nat) : Nat := a ||| b

/-- `a` without the bits of `b`. -/
def bdiff (a b : Nat) : Nat := a - (a &&& b)

/-- A register word from fields, each given by its lowest bit and its value. -/
def pack (fs : List (Nat × Nat)) : Nat := fs.foldl (fun a f => a + f.2 * 2 ^ f.1) 0

/-- The sum of a list of integers. -/
def sumI (l : List Int) : Int := l.foldl (· + ·) 0

/-- The sum of a list of naturals. -/
def sumN (l : List Nat) : Nat := l.foldl (· + ·) 0

/-- The list with element `i` replaced through `f`. -/
def modAt {α : Type} (l : List α) (i : Nat) (f : α → α) : List α := l.modify i f

/-- The largest of a list of naturals, 0 when empty. -/
def maxN (l : List Nat) : Nat := l.foldl max 0

/-- An element put into a sorted list, behind those that come before it or are level with it. -/
def insertBy {α : Type} (before : α → α → Bool) (x : α) : List α → List α
  | [] => [x]
  | y :: t => if before x y then x :: y :: t else y :: insertBy before x t

/-- A list sorted, elements that are level kept in order. -/
def sortBy {α : Type} (before : α → α → Bool) (l : List α) : List α := l.foldl (fun a x => insertBy before x a) []

/-! Bytes -/

/-- The `n` little-endian bytes of a number (R7). -/
def leBytes : Nat → Nat → List Byte
  | 0, _ => []
  | n + 1, x => BitVec.ofNat 8 x :: leBytes n (x / 256)

/-- The number that little-endian bytes spell (R7). -/
def leNat : List Byte → Nat
  | [] => 0
  | b :: bs => b.toNat + 256 * leNat bs

/-- The number that bytes spell with the first byte the most significant. -/
def beNat (l : List Byte) : Nat := l.foldl (fun a b => a * 256 + b.toNat) 0

/-- The `n` bytes of a number with the most significant first. -/
def beBytes (n x : Nat) : List Byte := (leBytes n x).reverse

/-- The `n` bytes from position `i`. -/
def slice (l : List Byte) (i n : Nat) : List Byte := (l.drop i).take n

/-- The little-endian number in the `n` bytes from position `i`. -/
def fld (l : List Byte) (i n : Nat) : Nat := leNat (slice l i n)

/-- Bytes padded with zeros, or cut, to `n`. -/
def padTo (n : Nat) (l : List Byte) : List Byte := (l ++ List.replicate n 0).take n

/-- The little-endian bytes of 64-bit words. -/
def bytesOfWords (l : List (BitVec 64)) : List Byte := l.flatMap (fun w => leBytes 8 w.toNat)

/-! Checksums -/

/-- One bit of a reflected CRC with polynomial `poly`. -/
def crcBit (poly c : Nat) : Nat := if c % 2 = 1 then (c / 2) ^^^ poly else c / 2

/-- One byte of a reflected CRC. -/
def crcByte (poly : Nat) (c : Nat) (b : Byte) : Nat :=
  let f := crcBit poly
  f (f (f (f (f (f (f (f (c ^^^ b.toNat))))))))

/-- The CRC-32C of bytes: reflected polynomial 0x82F63B78, initial value and final inversion of all ones (R114). -/
def crc32c (l : List Byte) : Nat := (l.foldl (crcByte 0x82F63B78) 0xFFFFFFFF) ^^^ 0xFFFFFFFF

/-- One bit of a non-reflected CRC of `w` bits, fed with bit `b`. -/
def crcMsbBit (w poly c : Nat) (b : Bool) : Nat :=
  let top := tb c (w - 1)
  let c' := (2 * c) % 2 ^ w
  if top != b then c' ^^^ poly else c'

/-- A non-reflected CRC of `w` bits over bits, in the order fed. -/
def crcMsb (w poly init : Nat) (l : List Bool) : Nat := l.foldl (crcMsbBit w poly) init

/-! Sparse tables -/

/-- The value at a key of a sparse table whose default is `d`. -/
def Tab.get {α : Type} (d : α) : Tab α → Nat → α
  | [], _ => d
  | (i, x) :: t, k => if i = k then x else Tab.get d t k

/-- A sparse table with a key written, in canonical form: keys rising, no entry equal to the default. -/
def Tab.set {α : Type} [DecidableEq α] (d : α) (k : Nat) (v : α) : Tab α → Tab α
  | [] => if v = d then [] else [(k, v)]
  | (i, x) :: t =>
    if k < i then (if v = d then (i, x) :: t else (k, v) :: (i, x) :: t)
    else if k = i then (if v = d then t else (k, v) :: t)
    else (i, x) :: Tab.set d k v t

/-- Whether a sparse table is in canonical form, all keys above `lo`. -/
def Tab.wfFrom {α : Type} [DecidableEq α] (d : α) : Nat → Tab α → Bool
  | _, [] => true
  | lo, (i, x) :: t => decide (lo ≤ i) && decide (x ≠ d) && Tab.wfFrom d (i + 1) t

/-- Whether a sparse table is in canonical form. -/
def Tab.wf {α : Type} [DecidableEq α] (d : α) (t : Tab α) : Bool := Tab.wfFrom d 0 t

/-- The value at a key, if listed. -/
def Tab.find {α : Type} (t : Tab α) (k : Nat) : Option α := (t.find? (fun e => e.1 == k)).map Prod.snd

/-! Byte memories (BAR1 and BAR2) -/

/-- A byte memory: (address, byte) pairs, addresses strictly rising, an unlisted address reading as 0. -/
abbrev Memory := List Host.Cell

/-- The byte at an address: 0 where nothing has been written. (DESIGN CHOICE, log 9.) -/
def Memory.read (m : Memory) (a : Nat) : Byte := Tab.get (0 : Byte) m a

/-- A memory with one byte written, in canonical form. (DESIGN CHOICE, log 9.) -/
def Memory.write (m : Memory) (a : Nat) (b : Byte) : Memory := Tab.set (0 : Byte) a b m

/-- A memory with bytes written from an address on. -/
def Memory.writeBytes (m : Memory) : Nat → List Byte → Memory
  | _, [] => m
  | a, b :: bs => Memory.writeBytes (Memory.write m a b) (a + 1) bs

/-- The bytes at consecutive addresses. -/
def Memory.readBytes (m : Memory) (a n : Nat) : List Byte := (List.range n).map (fun i => Memory.read m (a + i))

/-- The canonical form: addresses strictly rising and no entry equal to what an unlisted address reads as. -/
abbrev Memory.wf (m : Memory) : Prop := Tab.wf (0 : Byte) m = true

/-- The memory without the bytes of a range (which then read as 0). -/
def Memory.zero (m : Memory) (a n : Nat) : Memory := m.filter (fun c => decide (c.1 < a) || decide (a + n ≤ c.1))

end Sys2Proof.Machine
end

