-- ==== Sys2Proof/Machine/State.lean ====
section
/-! DEFINITION. The state of the device: every register, table, queue and mode the spec gives it, as plain data,
and its value right after a power-on reset. -/

namespace Sys2Proof.Machine

open Sys2Proof

/-- Why the device stops. No command ends in a fault: a command whose condition does not hold leaves the state
as it is, and every refusal of the manual is a reply. The constructor is raised by nobody (safe). -/
inductive Fault where
  /-- Raised by no command. -/
  | none
deriving DecidableEq, Repr

/-- Why a command has no meaning. -/
inductive Refusal where
  /-- Raised by the arms of exec not yet modelled (safe: the model stops). -/
  | notModelled (mnemonic : String)
deriving DecidableEq, Repr

/-- The device states, coded as DEVSTATE of R318. -/
inductive DevState where
  | off | starting | ready | blocked | running | safeStop | safeBlocked | maintenance
deriving DecidableEq, Repr

/-- The pair roles (R312). -/
inductive Role where
  | solo | active | joining | standby | detached
deriving DecidableEq, Repr

/-! ### FRM: frame engine (R12–R39) -/

/-- A frame's work that has not completed: its frame number, its guard instant, and the guard of the next frame
once that frame has begun (R22). -/
structure Work where
  n     : Nat
  guard : Nat
  next  : Option Nat
deriving DecidableEq, Repr

structure FrmBlock where
  /-- FRM_STATE.RUN. -/
  run       : Bool
  /-- FRM_PERIOD in force: P = 1.024 µs · 2^period (R12). -/
  period    : Nat
  /-- FRM_STATE.HOLD. -/
  hold      : Bool
  /-- FRM_STATE.OVR_FAULT. -/
  ovrFault  : Bool
  /-- FRM_STATE.BUDGET_OK. -/
  budgetOk  : Bool
  /-- FRM_STATE.STAGE_LATE. -/
  stageLate : Nat
  /-- Frame counter, 48 bits: the frame in progress (R14). -/
  count     : Nat
  /-- FRM_WRAP, 16 bits. -/
  wrap      : Nat
  /-- Grid time G of the last rim, ns (R339). -/
  g         : Nat
  /-- Rims since the first rim; 0 before it. -/
  rims      : Nat
  /-- Length of the frame in progress and of the next, ns (R16, R183). -/
  len       : Nat
  lenNext   : Nat
  /-- FRM_COUNT_HI as latched by the last read of FRM_COUNT_LO. -/
  hiLatch   : Nat
  /-- FRM_SLACK.SLACK_LAST and SLACK_MIN. -/
  slackLast : Int
  slackMin  : Int
  /-- FRM_OVERRUN, FRM_OVR_LAST. -/
  overruns  : Nat
  ovrLast   : Nat
  /-- FRM_BOUND. -/
  budget    : Nat
  bound     : Nat
  /-- FRM_STAGE0–6, LAST and MAX. -/
  stLast    : List Nat
  stMax     : List Nat
  /-- FRM_CFG_FRAME, FRM_SLACK_LOW. -/
  cfgFrame  : Nat
  slackLow  : Nat
  /-- Consecutive overruns, saturating at 2 (R33). -/
  consec    : Nat
  /-- The completion monitor's verdict on the frame in progress, once given: in time (R21). -/
  judged    : Option Bool
  /-- Works that have not completed, oldest first. -/
  work      : List Work
  /-- Completion time of the work of the frame in progress, once complete. -/
  done      : Option Nat
  /-- The consecutive count has reached two and the reaction of R34 is still to be raised. -/
  ovr2Due   : Bool
  /-- STATS_CLEARs that wait for the rim: header and opcode. -/
  stats     : List (CmdHdr × Nat)
  /-- The first rim may come: step 7 of the start-up has passed (R482). -/
  armed     : Bool
deriving DecidableEq, Repr

def FrmBlock.reset : FrmBlock :=
  { run := false, period := 1, hold := false, ovrFault := false, budgetOk := true, stageLate := 0, count := 0,
    wrap := 0, g := 0, rims := 0, len := 2048, lenNext := 2048, hiLatch := 0, slackLast := 0x7FFF, slackMin := 0x7FFF,
    overruns := 0, ovrLast := 0, budget := 1919, bound := 0, stLast := [60, 0, 0, 0, 0, 0, 0],
    stMax := [60, 0, 0, 0, 0, 0, 0], cfgFrame := 0, slackLow := 0, consec := 0, judged := none, work := [],
    done := none, ovr2Due := false, stats := [], armed := false }

/-! ### FLT: fault collector (R412–R425) -/

/-- A fault message (R412): SOURCE (block code and instance), KIND, SEVERITY, DETAIL, FRAME [11:0]. -/
structure FMsg where
  blk    : Nat
  inst   : Nat
  kind   : Nat
  sev    : Nat
  detail : Nat
  frame  : Nat
deriving DecidableEq, Repr

/-- An entry of the coalescing table (R419). -/
structure Coal where
  first      : FMsg
  count      : Nat
  firstFrame : Nat
  lastFrame  : Nat
  lastDetail : Nat
deriving DecidableEq, Repr

/-- A bit of the active set (R418), with the severity it was set at. -/
structure Active where
  blk  : Nat
  inst : Nat
  kind : Nat
  sev  : Nat
deriving DecidableEq, Repr

structure Flt where
  /-- The active set. -/
  active     : List Active
  /-- The queue, oldest first: message and full frame number. -/
  queue      : List (FMsg × Nat)
  /-- The coalescing table, in order of creation. -/
  table      : List Coal
  /-- FLT_LOST, FLT_TOTAL. -/
  lost       : Nat
  total      : Nat
  /-- FLT_LAST, the last message as its 64 bits. -/
  last       : Nat
  /-- FLT_FATAL: LINES, and the source and kind of the first line. -/
  lines      : Nat
  fatalSrc   : Nat
  fatalKind  : Nat
  /-- Fatal lines whose circuit still asserts, and the kind of the last line (R480). -/
  asserted   : Nat
  lastKind   : Nat
  /-- FLT_CLEARED. -/
  cleared    : Nat
  /-- Most severe action that waits for the next rim (R416): 0 none, 1 hand-over, 2 Safe Stop, 3 Safe Block. -/
  action     : Nat
  /-- Clears that wait for the next rim: header, opcode, SOURCE, KIND (R421). -/
  clears     : List (CmdHdr × Nat × Nat × Nat)
  /-- FAULT_N driven low. -/
  faultN     : Bool
deriving DecidableEq, Repr

def Flt.reset : Flt :=
  { active := [], queue := [], table := [], lost := 0, total := 0, last := 0, lines := 0, fatalSrc := 0,
    fatalKind := 0, asserted := 0, lastKind := 0, cleared := 0, action := 0, clears := [], faultN := true }

/-! ### EVR: event recorder (R444–R450) -/

/-- A queued trigger with everything its record takes from the trigger instant (R445, R448). -/
structure Trig where
  typ   : Nat
  list  : Nat
  cause : List Nat
  data  : List Nat
  g     : Nat
  t32   : Nat
  epoch : Nat
  dev   : Nat
  frame : Nat
deriving DecidableEq, Repr

structure Evr where
  /-- Queued triggers, in order (at most 64). -/
  queue     : List Trig
  /-- Triggers of TYPE 2 and 3 that their source holds (R446). -/
  held      : List Trig
  /-- FIRST_COUNT, FIRST_FULL. -/
  first     : Nat
  firstFull : Bool
  /-- NUM of the newest record; EVR_LOST; a run of drops goes on. -/
  num       : Nat
  lost      : Nat
  dropRun   : Bool
  /-- The event memory of BAR2. -/
  mem       : Memory
deriving DecidableEq, Repr

def Evr.reset : Evr :=
  { queue := [], held := [], first := 0, firstFull := false, num := 0, lost := 0, dropRun := false, mem := [] }

/-! ### JNL: flash journal (R451–R461) -/

/-- A reply (R378). -/
structure Reply where
  pair   : Nat
  seq    : Nat
  opcode : Nat
  status : Nat
  tag    : Nat
  dup    : Bool
  basis  : Nat
  final  : Bool
  data   : List Byte
deriving DecidableEq, Repr

/-- A sub-record of a COMPLETION (R454). -/
inductive JChange where
  | param (entries : List (Nat × Int))
  | cellNv (entry : Nat) (bytes : List Byte)
  | adcFact (words : List Nat)
deriving DecidableEq, Repr

/-- One entry of a BATCH record (R454): entry, C_EST, entry bytes 0x14–0x1B, trend record. -/
structure BatchEnt where
  entry : Nat
  cEst  : Nat
  tally : List Byte
  trend : Trend
deriving DecidableEq, Repr

/-- The payload of a journal record (R454). -/
inductive JPayload where
  | param (entries : List (Nat × Int))
  | cellNv (entry : Nat) (bytes : List Byte)
  | batch (num first : Nat) (ents : List BatchEnt)
  | adcFact (words : List Nat)
  | command (pair gen seq : Nat) (packet : List Byte)
  | completion (pair basis seq crc : Nat) (reply : Reply) (changes : List JChange)
  | event (bytes : List Byte)
  | evrClear
  | session (pair gen next : Nat)
  | boot (n rev compat : Nat)
  | shutdown (done : Bool)
  | ckptBegin
  | ckptEnd (begin : Nat)
deriving DecidableEq, Repr

/-- A journal record: JSEQ, FLAGS END and CKPT, BOOT, payload, the block that holds it, whether each flash holds
it committed, and whether it is void (R453). -/
structure JRec where
  jseq : Nat
  last : Bool
  ckpt : Bool
  boot : Nat
  pl   : JPayload
  blk  : Nat
  c0   : Bool
  c1   : Bool
  void : Bool
deriving DecidableEq, Repr

/-- A block in use: serial number, head (urgent), lowest and highest JSEQ, bytes filled (R452). -/
structure JBlk where
  id     : Nat
  urgent : Bool
  first  : Nat
  last   : Nat
  fill   : Nat
deriving DecidableEq, Repr

structure Jnl where
  /-- JSEQ of the next record. -/
  next      : Nat
  /-- BOOT, RESTORE_MS, RESTORED. -/
  boot      : Nat
  restoreMs : Nat
  restored  : Bool
  /-- F0_IN, F1_IN. -/
  f0        : Bool
  f1        : Bool
  /-- A flash that is written from the next checkpoint on (R459). -/
  behind0   : Bool
  behind1   : Bool
  /-- FULL, COMPACTING, JSEQ of the running checkpoint's CKPT_BEGIN and CKPT_END, JNL_CKPT. -/
  full      : Bool
  compact   : Bool
  ckBegin   : Nat
  ckEnd     : Nat
  ckpt      : Nat
  /-- Header of the JNL_COMPACT that waits for the running compaction. -/
  compHdr   : Option CmdHdr
  /-- The power-fail sequence: 0 none, 1 running, 2 run. -/
  pwrFail   : Nat
  /-- The records on the flashes, in JSEQ order. -/
  recs      : List JRec
  /-- The blocks in use, and the number of blocks freed and not yet erased. -/
  blocks    : List JBlk
  nextBlk   : Nat
  dirty     : Nat
  /-- JNL_JSEQ, the highest committed JSEQ. -/
  committed : Nat
  /-- JNL_ERRORS. -/
  err0      : Nat
  err1      : Nat
  /-- The last tally batch number, and whether the last start ended with a SHUTDOWN. -/
  batchNum  : Nat
  /-- JNL_SYNC commands with their opcode and the JSEQs they still wait for. -/
  syncs     : List (CmdHdr × Nat × List Nat)
  /-- EVR_CLEAR_FIRST commands with the JSEQ they wait for. -/
  evrClears : List (CmdHdr × Nat)
deriving DecidableEq, Repr

def Jnl.reset : Jnl :=
  { next := 1, boot := 0, restoreMs := 0, restored := false, f0 := false, f1 := false, behind0 := false,
    behind1 := false, full := false, compact := false, ckBegin := 0, ckEnd := 0, ckpt := 0, compHdr := none,
    pwrFail := 0, recs := [], blocks := [], nextBlk := 0, dirty := 0, committed := 0, err0 := 0, err1 := 0,
    batchNum := 0, syncs := [], evrClears := [] }

/-! ### HIF: host interface (R366–R411) -/

/-- An entry of a duplicate window (R383): the packet CRC, the acceptance basis and the final reply once complete. -/
structure WinE where
  seq   : Nat
  crc   : Nat
  basis : Nat
  reply : Option Reply
deriving DecidableEq, Repr

/-- A ring pair (R369–R376). -/
structure RPair where
  open_    : Bool
  gen      : Nat
  vector   : Nat
  openErr  : Nat
  next     : Nat
  cmdBase  : Nat
  rplBase  : Nat
  cmdUnits : Nat
  rplEnts  : Nat
  cmdProd  : Nat
  cmdCons  : Nat
  rplProd  : Nat
  rplCons  : Nat
  acc      : Nat
  dups     : Nat
  refs     : Nat
  badDb    : Nat
  window   : List WinE
  /-- Replies due to the ring, oldest first. -/
  replies  : List Reply
deriving DecidableEq, Repr

def RPair.reset : RPair :=
  { open_ := false, gen := 0, vector := 0, openErr := 0, next := 0, cmdBase := 0, rplBase := 0, cmdUnits := 0,
    rplEnts := 0, cmdProd := 0, cmdCons := 0, rplProd := 0, rplCons := 0, acc := 0, dups := 0, refs := 0,
    badDb := 0, window := [], replies := [] }

/-- A sequenced command taken in: its packet, its basis (0 while it still waits for one), what it waits for
(a MIR_ACK, or the commit of the COMMAND record with this JSEQ), whether it has executed, and whether it comes from
the restore (R385). -/
structure Fly where
  pair   : Nat
  gen    : Nat
  seq    : Nat
  crc    : Nat
  opcode : Nat
  tag    : Nat
  packet : List Byte
  basis  : Nat
  mirror : Bool
  jseq   : Nat
  since  : Nat
  exec   : Bool
  old    : Bool
deriving DecidableEq, Repr

/-- A session descriptor whose open waits for the journal or the mirror (R372). -/
structure OpenReq where
  pair     : Nat
  gen      : Nat
  vector   : Nat
  fresh    : Option Nat
  cmdBase  : Nat
  rplBase  : Nat
  cmdUnits : Nat
  rplEnts  : Nat
  jseq     : Nat
deriving DecidableEq, Repr

/-- What a final reply still waits for. -/
inductive Why where
  /-- The commit of the journal record with this JSEQ in both flashes. -/
  | commit (jseq : Nat)
deriving DecidableEq, Repr

/-- A final reply that waits. -/
structure Due where
  hdr    : CmdHdr
  opcode : Nat
  data   : List Byte
  jseq   : Nat
deriving DecidableEq, Repr

structure Hif where
  pairs    : List RPair
  /-- HIF_STATE: DOWNS, WIDTH, SPEED, LINK_UP. -/
  downs    : Nat
  width    : Nat
  speed    : Nat
  linkUp   : Bool
  /-- HIF_DB_OPEN_LO as last written; the descriptor address of a started open, held before READY (R485). -/
  openLo   : Nat
  opening  : Option Nat
  /-- A checked descriptor whose fresh start is being mirrored or journalled. -/
  openReq  : Option OpenReq
  /-- Commands taken in and not complete, in order of intake. -/
  fly      : List Fly
  /-- Commands held back by the serialisation of R393, with those that wait behind them in their pairs. -/
  held     : List Instr
  /-- Final replies that wait for a journal commit. -/
  due      : List Due
  /-- The converter-state change that waits for the next rim (R393, R395): header, opcode, target state, state
  before. -/
  conv     : Option (CmdHdr × Nat × DevState × DevState)
  /-- The round-robin position (R379). -/
  turn     : Nat
deriving DecidableEq, Repr

def Hif.reset : Hif :=
  { pairs := List.replicate 4 RPair.reset, downs := 0, width := 0, speed := 0, linkUp := false, openLo := 0,
    opening := none, openReq := none, fly := [], held := [], due := [], conv := none, turn := 0 }

/-! ### Parameters (R9, R10, R401–R404) -/

/-- When a written value comes into force: at the next rim, at the 16-frame boundary, or, from then on, at an
event (R403). -/
inductive PWhen where
  | rim | boundary | event
deriving DecidableEq, Repr

/-- A parameter write that waits for its rim: header and opcode of the command that replies, and its entries. -/
structure PWrite where
  hdr     : CmdHdr
  opcode  : Nat
  entries : List (Nat × Int)
  /-- PARAM_SET, whose reply shows the value. -/
  single  : Bool
  /-- FORCE starts Safe Stop with it (R390). -/
  forced  : Bool
  /-- The rim count at which it takes effect (R19, R184, R393, R403). -/
  rim     : Nat
deriving DecidableEq, Repr

structure Params where
  /-- Values in force that differ from the default. -/
  vals   : Tab (Option Int)
  /-- Values stored that wait for an event. -/
  event  : Tab (Option Int)
  /-- The writes that wait for their rims, in order. -/
  waits  : List PWrite
deriving DecidableEq, Repr

def Params.reset : Params := { vals := [], event := [], waits := [] }

/-! ### PAIR: redundant pair (R312–R338) -/

/-- Why a hand-over was announced (R328). -/
inductive HoverWhy where
  | switch (h : CmdHdr) | overrun | fault | removal
deriving DecidableEq, Repr

/-- What the pair measures on a lane (PAIR_LANEk): skew, slow monitor path, δ and the path; the δ samples of
R325, each with the rim count of its frame, in 1/1,600 ns; LAUNCH_k in 1/16 ns. -/
structure PLane where
  skew   : Bool
  mxSlow : Bool
  delta  : Int
  mxPath : Nat
  samples : List (Nat × Int)
  /-- Frame (rim count) in which an FS of the other SYS was last detected on CL_MXk; 0 none. -/
  mxSeen : Nat
  launch : Int
  /-- LAT_DEV of the partner's lane from HELLO. -/
  ptnrLat : Int
deriving DecidableEq, Repr

structure Pair where
  role      : Role
  /-- PTNR_ROLE, the partner's DEVSTATE and SYNCED of its last HB. -/
  ptnrRole  : Nat
  ptnrDev   : Nat
  ptnrSync  : Bool
  /-- PAIR_SEL, BRD_PRES_N low, PTNR_PRES_N low. -/
  sys       : Bool
  brdPres   : Bool
  ptnrPres  : Bool
  /-- Partner link locks; SYNCED; GRID_OK. -/
  links     : List Bool
  synced    : Bool
  gridOk    : Bool
  /-- HOVER, HOVER_FN, its cause, and whether acknowledged (active) or sent (standby). -/
  hover     : Bool
  hoverFn   : Nat
  hoverWhy  : Option HoverWhy
  hoverAck  : Bool
  /-- A hand-over to announce: its rim is at least two rims away from the request. -/
  hoverReq  : Option HoverWhy
  /-- PAIR_HB: LOSSES, MX_LAST, LINK_LAST, MISSED. -/
  losses    : Nat
  mxLast    : Bool
  linkLast  : Bool
  missed    : Nat
  /-- Heartbeat of the last rim seen so far, on a link and on a monitor input, inside its window. -/
  hbLink    : Bool
  hbMx      : Bool
  hbJudged  : Bool
  /-- PAIR_TAKEOVERS, PAIR_HANDOVERS, PAIR_LAST. -/
  takeovers : Nat
  handovers : Nat
  last      : Nat
  /-- RX_OFS measured here and by the partner, 1/16 ns. -/
  rxOwn     : Int
  rxPtnr    : Int
  /-- PAIR_GRID. -/
  offset    : Int
  cable     : Int
  /-- PAIR_MIRROR.T_LAST, PAIR_DIFF, PAIR_LINKS. -/
  mirT      : Nat
  diffTable : Nat
  diffRod   : Nat
  bad       : Nat
  downs     : Nat
  /-- PAIR_JOIN. -/
  step      : Nat
  progress  : Nat
  lanes     : List PLane
  /-- EXEC numbers: last sent or acknowledged; EXECs not yet acknowledged: number, pair, SEQ, acknowledged. -/
  execNo    : Nat
  execs     : List (Nat × Nat × Nat × Bool)
  /-- Message numbers sent, and seen on either link. -/
  mseqTx    : Nat
  mseqRx    : List Nat
  /-- Runs of frames: TABLE_CRC differing, no good HB, GRID_OK 0, no partner light, partner's FS seen. -/
  crcRun    : Nat
  hbRun     : Nat
  gridRun   : Nat
  darkRun   : Nat
  splitRun  : Nat
  /-- TABLE_CRC of the partner's last HB, and its RELEASE field. -/
  ptnrCrc   : Option Nat
  ptnrRel   : Nat
  ptnrTrip  : Nat
  /-- PAIR_LOST raised; the last HELLO failed step 1; a HELLO, an ACTIVE heartbeat, the other SYS heard in
  PAIR_WAIT. -/
  lostRaised : Bool
  helloBad  : Bool
  heardHello : Bool
  heardActive : Bool
  /-- Role changes asked by commands for the next rim: header, opcode, role. -/
  change    : List (CmdHdr × Nat × Role)
  /-- The acknowledged hand-over completes at its rim; the rim count at which PAIR_SWITCH has its reply. -/
  hoverGo   : Bool
  switchAt  : Option Nat
  /-- Entries with changed words that wait for a CELL message: entry and word mask. The partner that joins has been
  sent the image. -/
  cellTodo  : List (Nat × Nat)
  imageSent : Bool
  /-- Received content that acts at the next rim (R320). -/
  inRod     : Option (List RodRec × List Nat)
  inCell    : List CellRec
  inLoop    : List LoopRec
  inObs     : List ObsRec
  inDev     : Option Nat
  /-- Own values of the frame before, for R322: loop outputs and section states by slot, voltages by entry. -/
  ownLoop   : List LoopRec
  ownV      : List (Nat × Int)
  /-- The image received so far (R332) and whether it is complete. -/
  image     : List ImageMsg
  imageDone : Bool
  /-- Rotation records done; rim count at the join's step start; position of the rotations sent. -/
  rotation  : Nat
  rotLoop   : Nat
  rotObs    : Nat
  /-- Removal: the rim count by which lasers go off (R334). -/
  offAt     : Option Nat
  /-- Dark: every laser and partner transmission is off (R422). -/
  dark      : Bool
  /-- The partner carries the same name (R313); rim count at which the device became ACTIVE by a hand-over (R417). -/
  sameSys   : Bool
  hoverAt   : Option Nat
deriving DecidableEq, Repr

def PLane.reset : PLane :=
  { skew := false, mxSlow := false, delta := 0, mxPath := 0, samples := [], mxSeen := 0, launch := 768,
    ptnrLat := 0 }

def Pair.reset : Pair :=
  { role := .solo, ptnrRole := 0, ptnrDev := 0, ptnrSync := false, sys := false, brdPres := false,
    ptnrPres := false, links := [false, false], synced := false, gridOk := false, hover := false, hoverFn := 0,
    hoverWhy := none, hoverAck := false, hoverReq := none, losses := 0, mxLast := false, linkLast := false,
    missed := 0, hbLink := false, hbMx := false, hbJudged := false, takeovers := 0, handovers := 0, last := 0,
    rxOwn := 0, rxPtnr := 0, offset := 0, cable := 0, mirT := 0, diffTable := 0, diffRod := 0, bad := 0,
    downs := 0, step := 0, progress := 0, lanes := List.replicate 24 PLane.reset, execNo := 0, execs := [],
    mseqTx := 0, mseqRx := [], crcRun := 0, hbRun := 0, gridRun := 0, darkRun := 0, splitRun := 0,
    ptnrCrc := none, ptnrRel := 0, ptnrTrip := 0, lostRaised := false, helloBad := false, heardHello := false,
    heardActive := false, change := [], hoverGo := false, switchAt := none, cellTodo := [], imageSent := false, inRod := none, inCell := [], inLoop := [], inObs := [], inDev := none,
    ownLoop := [], ownV := [], image := [], imageDone := false, rotation := 0, rotLoop := 0, rotObs := 0,
    offAt := none, dark := false, sameSys := false, hoverAt := none }

/-! ### PWR, ID: power, reset, start-up (R475–R497) -/

/-- A PWR_DOMAIN in progress: its header, the direction, and the domains still to be switched, ascending. -/
structure Switching where
  hdr  : CmdHdr
  on   : Bool
  todo : List Nat
deriving DecidableEq, Repr

structure Pwr where
  /-- PWR_STATE: ON, MOVING, STEP. -/
  on        : Nat
  moving    : Nat
  step      : Nat
  /-- PWR_CAUSE: HALTED, ROM_BAD, FATAL_RUN, LAST. -/
  halted    : Bool
  romBad    : Bool
  fatalRun  : Nat
  lastCause : Nat
  /-- PWR_RESETS. -/
  fatals    : Nat
  resets    : Nat
  /-- PWR_SUPPLY: PWR_FAIL, RAILS_OK. -/
  pwrFail   : Bool
  rails     : Nat
  /-- PWR_TEMP, and whether TEMP_HIGH waits for Tj to fall. -/
  tj        : Int
  tjMax     : Int
  warned    : Bool
  /-- PWR_START. -/
  readyMs   : Nat
  rimMs     : Nat
  switching : Option Switching
  /-- DEV_RESTART has replied; the restart comes 1 ms later. -/
  restart   : Bool
  /-- The device is dark by a fatal line; dark follows at the next rim + 100 ns. -/
  dark      : Bool
  darkNext  : Bool
  /-- Time of the last fatal restart as its row gives it, s; kind of the last fatal line at a halt. -/
  fatalAt   : Nat
  limitKind : Option Nat
  /-- Held in reset. -/
  inReset   : Bool
  /-- The PLL_REF_MODE retained in AON. -/
  pllMode   : Nat
  /-- Role chosen in PAIR_WAIT (R314); the start-up is stopped by a power failure (R487). -/
  roleDone  : Bool
  stopped   : Bool
  /-- The step in progress when the start-up was stopped has ended; the time at which the last step ended, µs after
  leaving reset (R482). -/
  paused    : Bool
  lastUs    : Nat
  /-- COMPAT_LEVEL in force (ID_COMPAT.IN_FORCE). -/
  compat    : Nat
deriving DecidableEq, Repr

def Pwr.reset : Pwr :=
  { on := 0, moving := 0, step := 1, halted := false, romBad := false, fatalRun := 0, lastCause := 1, fatals := 0,
    resets := 0, pwrFail := false, rails := 0, tj := 0, tjMax := -0x8000, warned := false, readyMs := 0,
    rimMs := 0, switching := none, restart := false, dark := false, darkNext := false, fatalAt := 0,
    limitKind := none, inReset := true, pllMode := 0, roleDone := false, stopped := false, paused := false, lastUs := 0, compat := 0x4100 }

/-! ### ADC: analogue inputs (R40–R67) -/

/-- The correction factors of a channel (ADC_FACT) and whether they are calibrated (R46). -/
structure Fact where
  ofs  : Int
  gain : Nat
  cal  : Bool
deriving DecidableEq, Repr

def Fact.reset : Fact := { ofs := 0, gain := 0x8000, cal := false }

/-- A frame average (ADC_AVG, R47): the value and validity that consumers see, the channel's own value and
validity before R62 forces them, and the flags. -/
structure Avg where
  val   : Int
  valid : Bool
  ownV  : Int
  own   : Bool
  clip  : Bool
  sat   : Bool
  cal   : Bool
deriving DecidableEq, Repr

def Avg.reset : Avg := { val := 0, valid := false, ownV := 0, own := false, clip := false, sat := false, cal := false }

/-- A rod current (ADC_ROD) with the frames of difference and of agreement counted for R53. -/
structure RodI where
  cur   : Int
  valid : Bool
  src   : Bool
  disc  : Bool
  clip  : Bool
  up    : Nat
  down  : Nat
deriving DecidableEq, Repr

def RodI.reset : RodI :=
  { cur := 0, valid := false, src := false, disc := false, clip := false, up := 0, down := 0 }

/-- A triplet check (ADC_TRI). -/
structure Tri where
  m      : Nat
  count  : Nat
  armed  : Bool
  inside : Bool
  fault  : Bool
  valid  : Bool
deriving DecidableEq, Repr

def Tri.reset : Tri := { m := 0, count := 0, armed := false, inside := false, fault := false, valid := false }

structure Adc where
  fact      : Tab Fact
  avg       : Tab Avg
  rods      : List RodI
  tris      : List Tri
  /-- Slot pointer of each converter's sequence list (R43). -/
  ptr       : List Nat
  /-- Domain ADC-L and ADC-H on during the whole window so far (R47). -/
  whole     : List Bool
  /-- A calibration ran during part of the window. -/
  calSeen   : Bool
  /-- The running ADC_CAL: header, opcode, start instant, mask of its converters. -/
  cal       : Option (CmdHdr × Nat × Nat × Nat)
  /-- Factors of a completed calibration that apply from the next rim (R58). -/
  newFact   : List (Nat × Fact)
  /-- ADC_CAL_TIME, ADC_CLIPS, ADC_MEAS_FAULTS, ADC_CAL_FAIL. -/
  calTime   : Nat
  clips     : Nat
  measFaults : Nat
  calFail   : Nat
  plausAny  : Bool
  /-- Corrected samples of the window that closed at the last rim: channel, instant, value, clip, saturated
  (R50). -/
  feed      : List (Nat × Nat × Int × Bool × Bool)
  /-- A calibration that ended in the window: start, end, mask of its converters. -/
  calSpan   : Option (Nat × Nat × Nat)
deriving DecidableEq, Repr

def Adc.reset : Adc :=
  { fact := [], avg := [], rods := List.replicate 12 RodI.reset, tris := List.replicate 8 Tri.reset,
    ptr := List.replicate 12 0, whole := [false, false], calSeen := false, cal := none, newFact := [],
    calTime := 0, clips := 0, measFaults := 0, calFail := 0, plausAny := false, feed := [], calSpan := none }

/-! ### REF: reference generation (R68–R89) -/

/-- An NCO: PHASE, the outputs COS_A, SIN_A, COS_B, COS_C, TRIM_SAT. -/
structure Nco where
  phase   : Nat
  cosA    : Int
  sinA    : Int
  cosB    : Int
  cosC    : Int
  trimSat : Bool
deriving DecidableEq, Repr

def Nco.reset : Nco := { phase := 0, cosA := 0x7FFF, sinA := 0, cosB := -0x4000, cosC := -0x4000, trimSat := false }

/-- A queued ramp entry: the entry, SEQ of its command, rim count at its append. -/
structure QEnt where
  e    : RampArgs
  seq  : Nat
  at_  : Nat
deriving DecidableEq, Repr

/-- The segment before a blended joint (R81): start values, distances, duration, and Be. -/
structure Seg where
  v0 : List Int
  d  : List Int
  n  : Nat
  be : Nat
deriving DecidableEq, Repr

/-- The running entry of a group: duration D, steps taken, start values, distances to the targets, whether it
started late, the blend it comes from, and the blend fixed with its successor (Be, D2). -/
structure RunE where
  e    : RampArgs
  seq  : Nat
  dur  : Nat
  step : Nat
  v0   : List Int
  d    : List Int
  late : Bool
  prev : Option Seg
  next : Option (Nat × Nat)
deriving DecidableEq, Repr

/-- A set-point group: queue, running entry (kept through the frame of its last step), entry that waits for its
START_FRAME, whether a stop or replace ends the running entry in the next frame, whether the frame lies in a blend,
and DONE. -/
structure Grp where
  queue  : List QEnt
  run    : Option RunE
  wait   : Option QEnt
  flush  : Bool
  blend  : Bool
  done   : Nat
deriving DecidableEq, Repr

def Grp.reset : Grp := { queue := [], run := none, wait := none, flush := false, blend := false, done := 0 }

/-- A stop or replace whose frame has not begun (R83, R84): header, opcode, GROUP as given, entries discarded. -/
structure RefOp where
  hdr    : CmdHdr
  opcode : Nat
  group  : Nat
  cnt    : Nat
deriving DecidableEq, Repr

/-- A phase load that waits for its frame (R71). -/
structure Load where
  hdr   : CmdHdr
  nco   : Nat
  frame : Nat
  phase : Nat
  late  : Bool
deriving DecidableEq, Repr

structure Ref where
  ncos    : List Nco
  loads   : List Load
  sps     : List Int
  grps    : List Grp
  late    : Nat
  flushed : Nat
  /-- Stops and replaces for the next frame, and the replies due at the next rim. -/
  ops     : List RefOp
  due     : List Due
deriving DecidableEq, Repr

def Ref.reset : Ref :=
  { ncos := List.replicate 4 Nco.reset, loads := [], sps := List.replicate 64 0,
    grps := List.replicate 8 Grp.reset, late := 0, flushed := 0, ops := [], due := [] }

/-! ### CTL: control engine (R90–R110) -/

/-- The normalised zero (R90). -/
def bfpZero : Bfp := { m := 0, e := -128 }

/-- A cleared section at the default CTL_SEC_EMIN (R96). -/
def Sect.reset : Sect := { w1 := 0, w2 := 0, e := -64 }

/-- A loop slot: outputs, the eight sections' states, the flags of CTL_SLOTk_FLAGS, the following-error state of
CTL_SLOTk_FE, and the rods its BLOCK reaction latches (R106). -/
structure Slot where
  out0    : Bfp
  out1    : Bfp
  sects   : List Sect
  ovf     : Bool
  held    : Bool
  clampHi : Bool
  clampLo : Bool
  invalid : Bool
  aw      : Bool
  idle    : Bool
  en      : Bool
  count   : Nat
  raised  : Bool
  outside : Bool
  checking : Bool
  hold    : Bool
  block   : Nat
  /-- COUNT has reached CTL_FE_TIME in the frame, and the reaction is to be raised (R105). -/
  due     : Bool
deriving DecidableEq, Repr

def Slot.reset : Slot :=
  { out0 := bfpZero, out1 := bfpZero, sects := List.replicate 8 Sect.reset, ovf := false, held := false,
    clampHi := false, clampLo := false, invalid := false, aw := false, idle := false, en := false, count := 0,
    raised := false, outside := false, checking := false, hold := false, block := 0, due := false }

/-- A rod's outputs VREF and BAL, HELD, and the last valid products of its six taps (R100). -/
structure RodOut where
  vref  : Int
  bal   : Int
  held  : Bool
  prods : List Bfp
deriving DecidableEq, Repr

def RodOut.reset : RodOut := { vref := 0, bal := 0, held := false, prods := List.replicate 6 bfpZero }

structure Ctl where
  slots   : List Slot
  rods    : List RodOut
  applied : Bool
  /-- CTL_FE_EVENTS. -/
  events  : Nat
  /-- Reactions raised by the work of the frame in progress, for its rim: 2 SAFE_STOP, 3 SAFE_BLOCK (R107). -/
  stopDue  : Bool
  blockDue : Bool
deriving DecidableEq, Repr

def Ctl.reset : Ctl :=
  { slots := List.replicate 32 Slot.reset, rods := List.replicate 12 RodOut.reset, applied := false, events := 0,
    stopDue := false, blockDue := false }

/-! ### Cell table, ranking, firing (R111–R207) -/

/-- The order of a cell in a plan (R181): set code; level on [t0, t0 + e) and from t0 + e on (codes of R115); the
offset e if the frame carries an edge; whether it is the partial cell, a departing cell or a test edge; the sign of
the partial or departing duty. -/
structure Order where
  code : Nat
  lv0  : Nat
  lv1  : Nat
  e    : Option Nat
  part : Bool
  dep  : Bool
  test : Bool
  ps   : Nat
deriving DecidableEq, Repr

/-- An order of one set code for the whole frame. -/
def Order.flat (c : Nat) : Order :=
  { code := c, lv0 := c, lv1 := c, e := none, part := false, dep := false, test := false, ps := 0 }

/-- The trend record cleared (R152). -/
def Trend.zero : Trend := { cLast := 0, slope := 0, points := 0, age := 0 }

/-- What a cell reports of itself in discovery: identity, kind, generation, hardware generation. -/
structure Seen where
  id   : Nat
  fb   : Bool
  gen  : Nat
  hw   : Nat
  asym : Int
deriving DecidableEq, Repr

/-- An entry of the cell table (R113) with what the observer, selection and the link keep for the cell. -/
structure Entry where
  id      : Nat
  rod     : Nat
  fb      : Bool
  disp    : Nat
  hw      : Nat
  gen     : Nat
  minInt  : Nat
  slot    : Nat
  lane    : Nat
  wear    : Nat
  cNom    : Nat
  cEst    : Nat
  edges   : Nat
  hard    : Nat
  nvCrc   : Nat
  nvSeq   : Nat
  missed  : Nat
  cause   : Nat
  skips   : Nat
  part    : Bool
  code    : Nat
  st      : Nat
  refused : Nat
  delay   : Nat
  /-- The voltage estimate in 2^−32 V, and whether it is seeded (R137). -/
  v       : Int
  seeded  : Bool
  swCount : Nat
  rptFrame : Nat
  rptNs   : Nat
  lastEdge : Option Nat
  fbSkips : Nat
  /-- Learning sums (R149), whether a block was accepted since the last trend point, and the trend record. -/
  sqq     : Nat
  sqv     : Int
  nq      : Nat
  blkAcc  : Bool
  trend   : Trend
  /-- t_m of the last applied or seeded report; the report that may open a learning interval: t_m and V_rep. -/
  lastTm  : Option Int
  lrn     : Option (Int × Int)
  /-- Run of implausible reports: count, t_m and V_rep of the last (R146). -/
  run     : Nat
  runT    : Int
  runV    : Int
  /-- The rod lost its current and this entry has had no clean report since (R148). -/
  lost    : Bool
  /-- Run of good reports and rims since entry into SUSPECT (R117). -/
  good    : Nat
  susp    : Nat
  /-- Grid time of the rim at which the entry last became ACTIVE or BLOCKED from another state (R149). -/
  since   : Nat
  /-- A state change found by a rule, for the next rim: state and cause. -/
  nxt     : Option (Nat × Nat)
  /-- The cell's own data, whether ranged, whether its mismatch has been raised, CFG tag, whether echoed. -/
  seen    : Option Seen
  ranged  : Bool
  misRaised : Bool
  cfgTag  : Nat
  echoed  : Bool
  cfgDue  : Bool
  tries   : Nat
  /-- The order of the last released plan, and the levels of the last ten windows with the instants from which they
  hold (R140). -/
  ord     : Order
  lev     : List (Nat × Nat)
  /-- The last edge among the points that have left `lev`. -/
  lastOld : Option Nat
deriving DecidableEq, Repr

/-- An entry at its reset values (R113). -/
def Entry.reset : Entry :=
  { id := 0, rod := 15, fb := false, disp := 0, hw := 0, gen := 0, minInt := 0, slot := 0, lane := 0xFF, wear := 0,
    cNom := 0, cEst := 0, edges := 0, hard := 0, nvCrc := 0, nvSeq := 0, missed := 0, cause := 0, skips := 0,
    part := false, code := 4, st := 0, refused := 0, delay := 0, v := 0, seeded := false, swCount := 0,
    rptFrame := 0, rptNs := 0, lastEdge := none, fbSkips := 0, sqq := 0, sqv := 0, nq := 0, blkAcc := false,
    trend := Trend.zero, lastTm := none, lrn := none, run := 0, runT := 0, runV := 0, lost := false, good := 0,
    susp := 0, since := 0, nxt := none, seen := none, ranged := false, misRaised := false, cfgTag := 0, echoed := false,
    cfgDue := false, tries := 0, ord := Order.flat 4, lev := [], lastOld := none }

/-- A window of the frame grid that the observer keeps: its rims, and per rod the current and its validity (R140). -/
structure Win where
  t0    : Nat
  t1    : Nat
  cur   : List Int
  valid : List Bool
deriving DecidableEq, Repr

/-- A report taken in for the next frame's work (R142, R266). -/
structure Rpt where
  entry : Nat
  tm    : Int
  tRx   : Nat
  vrep  : Int
  legs  : Nat
  fault : Bool
  sb    : Bool
  hold  : Bool
deriving DecidableEq, Repr

/-- The observer's registers and state of a rod (R155, R156). -/
structure ObsRod where
  vsum    : Int
  energy  : Nat
  vmin    : Int
  vmax    : Int
  valid   : Bool
  lost    : Bool
  recov   : Bool
  innov   : Nat
  impl    : Nat
deriving DecidableEq, Repr

def ObsRod.reset : ObsRod :=
  { vsum := 0, energy := 0, vmin := 0, vmax := 0, valid := false, lost := false, recov := false, innov := 0,
    impl := 0 }

structure Obs where
  rods    : List ObsRod
  applied : Nat
  seededN : Nat
  implN   : Nat
  stale   : Nat
  reseeds : Nat
  clBlocks : Nat
  clRej   : Nat
  /-- The last ten windows, newest first. -/
  wins    : List Win
  /-- Reports received in the frame in progress, and (lane, slot) of expected reports found missing in it. -/
  intake  : List Rpt
  missing : List Nat
deriving DecidableEq, Repr

def Obs.reset : Obs :=
  { rods := List.replicate 12 ObsRod.reset, applied := 0, seededN := 0, implN := 0, stale := 0, reseeds := 0,
    clBlocks := 0, clRej := 0, wins := [], intake := [], missing := [] }

/-- A rod's sense, rest and selection result (R161–R178). -/
structure RnkRod where
  cur     : Int
  valid   : Bool
  rest    : Bool
  neg     : Bool
  np      : Nat
  nn      : Nat
  npA     : Nat
  nnA     : Nat
  ps      : Nat
  kept    : Bool
  part    : Option Nat
  swaps   : Nat
  edges   : Nat
  worst   : Option Nat
  best    : Option Nat
  ovr    : Bool
  short   : Bool
  limit   : Bool
  suspIn  : Bool
  rebuilt : Bool
  /-- Entries passed over in the frame (R167). -/
  passed  : List Nat
  swapsN  : Nat
  refusedN : Nat
  /-- In shortfall at the last rim that released the computed plan for the rod (R172). -/
  sfRun   : Bool
  /-- The partial cell and its sign in the last released plan (R160). -/
  prev    : Option (Nat × Nat)
  /-- Opening instants of the last released plans, newest first, and whether their edges count as hard (R130). -/
  hards   : List (Nat × Bool)
  /-- The last released plan gave the rod block, so its next selection builds every set from the start (R160, R173). -/
  blk     : Bool
deriving DecidableEq, Repr

def RnkRod.reset : RnkRod :=
  { cur := 0, valid := false, rest := true, neg := false, np := 0, nn := 0, npA := 0, nnA := 0, ps := 0,
    kept := false, part := none, swaps := 0, edges := 0, worst := none, best := none, ovr := false, short := false,
    limit := false, suspIn := false, rebuilt := false, passed := [], swapsN := 0, refusedN := 0, sfRun := false,
    prev := none, hards := [], blk := true }

/-- A rod's spare count, flags and voltage target (R124–R126). -/
structure Spare where
  bound  : Nat
  avail  : Nat
  fb     : Nat
  s      : Int
  sup    : Bool
  low    : Bool
  margin : Bool
  exh    : Bool
  short  : Bool
  vt     : Nat
  ceil   : Bool
  pend   : Bool
  passed : Option Nat
deriving DecidableEq, Repr

def Spare.reset : Spare :=
  { bound := 0, avail := 0, fb := 0, s := 0, sup := false, low := false, margin := false, exh := false,
    short := false, vt := 0, ceil := false, pend := false, passed := none }

/-- A command-driven change of the cell table (R133). -/
inductive CellOp where
  | bind (b : BindArgs)
  | unbind (first count : Nat)
  | block (first count : Nat)
  | release (first count : Nat)
  | bypass (first count : Nat)
  | replace (entry cellId : Nat)
  | set (entry mask minInt cNom : Nat)
  | load (first : Nat) (parts : List (List Byte))
  | clear (first count : Nat)
deriving DecidableEq, Repr

/-- A cell-table command that waits for its rim: whether it waits for a 16-frame boundary, and whether FORCE started
Safe Stop with it (R390). -/
structure PendCell where
  hdr    : CmdHdr
  opcode : Nat
  op     : CellOp
  bound16 : Bool
  forced : Bool
deriving DecidableEq, Repr

structure Rnk where
  rods     : List RnkRod
  spare    : List Spare
  swaps    : Nat
  refused  : Nat
  shorts   : Nat
  nvErr    : Nat
  chg      : Nat
  batchFrame : Nat
  pend     : List PendCell
  /-- Entries whose tally or C_EST changed since the last batch (R131). -/
  dirty    : List Nat
deriving DecidableEq, Repr

def Rnk.reset : Rnk :=
  { rods := List.replicate 12 RnkRod.reset, spare := List.replicate 12 Spare.reset, swaps := 0, refused := 0,
    shorts := 0, nvErr := 0, chg := 0, batchFrame := 0, pend := [], dirty := [] }

/-- A rod's modulation result (R186–R206) and its carry. -/
structure FirRod where
  vref   : Int
  vc     : Nat
  t      : Int
  carry  : Int
  vcLast : Option Nat
  carryNew : Int
  edge   : Bool
  rise   : Bool
  off    : Nat
  ps     : Nat
  part   : Option Nat
  w      : Nat
  depEdge : Bool
  depDel : Bool
  depOff : Nat
  dep    : Option Nat
  env    : Bool
  vcHeld : Bool
  short  : Bool
  limHi  : Bool
  limLo  : Bool
  cSat   : Bool
  supLo  : Bool
  supHi  : Bool
  delayed : Bool
  noPart : Bool
  nDel   : Nat
  ovr   : Bool
deriving DecidableEq, Repr

def FirRod.reset : FirRod :=
  { vref := 0, vc := 0, t := 0, carry := 0, vcLast := none, carryNew := 0, edge := false, rise := false, off := 0,
    ps := 0, part := none, w := 0, depEdge := false, depDel := false, depOff := 0, dep := none, env := false,
    vcHeld := false, short := false, limHi := false, limLo := false, cSat := false, supLo := false, supHi := false,
    delayed := false, noPart := false, nDel := 0, ovr := false }

/-- A pending test edge (R203). -/
structure TestEdge where
  hdr   : CmdHdr
  entry : Nat
  code  : Nat
  time  : Nat
  late  : Bool
  /-- The interval test has delayed it (R193). -/
  del   : Bool
deriving DecidableEq, Repr

/-- A cell under test: entry, present level, rim count of its last executed test edge (0 before the first), and whether
the test has ended (R204). -/
structure TestCell where
  entry : Nat
  level : Nat
  last  : Nat
  ended : Bool
deriving DecidableEq, Repr

/-- A test edge placed in the computed plan: the edge and its instant. -/
structure TestPlaced where
  te      : TestEdge
  exec    : Nat
deriving DecidableEq, Repr

/-- A computed plan: the frame whose work built it, its execution frame's opening and length, and each bound cell's
order. -/
structure Plan where
  n      : Nat
  t0     : Nat
  len    : Nat
  orders : List (Nat × Order)
  tests  : List TestPlaced
deriving DecidableEq, Repr

structure Fir where
  /-- FIR_TX in force, a new value with the boundary frame at which it takes effect (R184), FIR_TX_MIN. -/
  tx      : Nat
  txNew   : Option (Nat × Nat)
  txMin   : Nat
  rods    : List FirRod
  plan    : Option Plan
  clips   : Nat
  supp    : Nat
  delayed : Nat
  carrySats : Nat
  tests   : List TestEdge
  testLate : Nat
  cells   : List TestCell
deriving DecidableEq, Repr

def Fir.reset : Fir :=
  { tx := 1600, txNew := none, txMin := 0, rods := List.replicate 12 FirRod.reset, plan := none, clips := 0,
    supp := 0, delayed := 0, carrySats := 0, tests := [], testLate := 0, cells := [] }

/-! ### LNK, CEV: cell lanes (R208–R277) -/

/-- A phase-cache entry (R217). -/
structure PcE where
  phase : Nat
  thr   : Int
  valid : Bool
  miss  : Nat
deriving DecidableEq, Repr

def PcE.reset : PcE := { phase := 0, thr := 0, valid := false, miss := 0 }

/-- The measurement of an equalisation row (LNK_FOMk_j). -/
structure FomRow where
  measured : Bool
  dsErr    : Bool
  few      : Bool
  fom      : Nat
  w        : Nat
  h        : Nat
deriving DecidableEq, Repr

def FomRow.reset : FomRow := { measured := false, dsErr := false, few := false, fom := 0, w := 0, h := 0 }

structure LaneS where
  /-- State code of R225, CAUSE, GEN in force, RETRIES. -/
  st      : Nat
  cause   : Nat
  gen     : Nat
  retries : Nat
  noLight : Bool
  mxLock  : Bool
  txInv   : Bool
  rxInv   : Bool
  /-- CL_TXDISk driven low (R213); derived. -/
  laser   : Bool
  adopted : Bool
  row     : Nat
  fom     : Nat
  errs    : Nat
  pc      : Tab PcE
  foms    : List FomRow
  light   : Bool
  held    : Bool
  /-- Consecutive frames without a lock (R228), and whether a burst locked in the frame in progress. -/
  losRun  : Nat
  locked  : Bool
  /-- Candidate rows still to be measured in TRAIN, the one being measured first; whether a beacon of the dwell
  reported downstream errors (R222). -/
  rows    : List Nat
  dsErr   : Bool
  /-- Cells gathered since entry into CAPS, by rising identity, each with its port on Cevel-1, else 0 (R261). -/
  caps    : List (Nat × Seen)
  /-- A state to enter at the next rim (R229, R230, R231): state and cause. -/
  due     : Option (Nat × Nat)
  /-- The discovery round has ended: ACTIVE at the next rim (R225). -/
  roundOk : Bool
deriving DecidableEq, Repr

def LaneS.reset : LaneS :=
  { st := 0, cause := 0, gen := 3, retries := 0, noLight := false, mxLock := false, txInv := false, rxInv := false,
    laser := false, adopted := false, row := 0, fom := 0, errs := 0, pc := [], foms := List.replicate 8 FomRow.reset,
    light := false, held := false, losRun := 0, locked := false, rows := [], dsErr := false, caps := [],
    due := none, roundOk := false }

/-- A LNK_RESTART that waits for its rim (R231): header, opcode, lanes, whether FORCE starts Safe Stop with it. -/
structure Restart where
  hdr    : CmdHdr
  opcode : Nat
  mask   : Nat
  forced : Bool
deriving DecidableEq, Repr

structure Lnk where
  lanes : List LaneS
  downs : Nat
  restarts : List Restart
deriving DecidableEq, Repr

def Lnk.reset : Lnk := { lanes := List.replicate 24 LaneS.reset, downs := 0, restarts := [] }

/-- A weave schedule (R257): F_C, W_D, K, the epoch as a rim count, WTAG, the ranging window it was formed with. -/
structure Weave where
  fc    : Nat
  wd    : Nat
  k     : Nat
  epoch : Nat
  wtag  : Nat
  win   : Nat
deriving DecidableEq, Repr

/-- The ranging in progress on a lane (R262): the entry's slot (0xFF the concentrator), the identity, the rim count
of D, once reached its grid time, and the rim count at which the window ends. -/
structure Ranging where
  slot  : Nat
  id    : Nat
  dIdx  : Nat
  dAt   : Nat
  last  : Nat
deriving DecidableEq, Repr

structure CevLane where
  weave   : Option Weave
  next    : Option Weave
  wtag    : Nat
  latDev  : Int
  reports : Nat
  bad     : Nat
  skips   : Nat
  failed  : Nat
  done    : Nat
  /-- Slot next to be re-ranged, round robin. -/
  nextSlot : Option Nat
  ranging : Option Ranging
  /-- Rim count of the frame at which windows back to back began. -/
  winAt   : Nat
  /-- Waiting management messages. -/
  mgt     : List Mgt
  unknown : List Nat
  /-- Trip insertions in the frame in progress, and whether it was ended without FE (R248). -/
  inserts : Nat
  abandoned : Bool
  /-- Blocks or code groups of the frame in progress from its FS on, insertions included, and the end of the last
  copy of a trip block set, in 1/100 ns. -/
  nblk    : Nat
  busy    : Nat
  /-- Slots judged or received and not yet passed by a rim; on Cevel-1 ports reported in the round. -/
  seen    : List Nat
  /-- Expected slots of the frame before whose bursts may arrive after its last rim. -/
  late    : List Nat
  /-- The concentrator of a Cevel-1 lane: its own data, ranging attempts, and DELAY once ranged (R269). -/
  conc    : Option Seen
  concTries : Nat
  concDelay : Option Nat
deriving DecidableEq, Repr

def CevLane.reset : CevLane :=
  { weave := none, next := none, wtag := 0, latDev := 0, reports := 0, bad := 0, skips := 0, failed := 0, done := 0,
    nextSlot := none, ranging := none, winAt := 0, mgt := [], unknown := [], inserts := 0,
    abandoned := false, nblk := 0, busy := 0, seen := [], late := [], conc := none, concTries := 0, concDelay := none }

structure Cev where
  lanes     : List CevLane
  unknown   : Nat
  tripSets  : Nat
  abandoned : Nat
  /-- CEV_STATE.DISCWIN: lanes whose frame that the last rim ended lay in a discovery window. -/
  discWin   : Nat
deriving DecidableEq, Repr

def Cev.reset : Cev := { lanes := List.replicate 24 CevLane.reset, unknown := 0, tripSets := 0, abandoned := 0, discWin := 0 }

/-! ### TRP, SBK: trips, Safe Stop, Safe Block (R278–R311) -/

/-- The configuration in force of a trip input (R281): filter, polarity, action, mask, escalation. -/
structure TripCfg where
  filt : Nat
  pol  : Nat
  act  : Nat
  mask : Nat
  esc  : Bool
deriving DecidableEq, Repr

/-- The configuration from a power-on to the restore (R281). -/
def TripCfg.reset : TripCfg := { filt := 125, pol := 0, act := 0, mask := 0xFFF, esc := false }

/-- TRPi_T and TRPi_INFO, and the entries that a bypass-fire latch covered when it was set (R290). -/
structure TripIn where
  t      : Nat
  seq    : Nat
  noset  : Bool
  cover  : List Nat
deriving DecidableEq, Repr

def TripIn.reset : TripIn := { t := 0, seq := 0, noset := false, cover := [] }

/-- A TRP_CLEAR that waits for its rim: header, opcode, inputs, TG, inputs that passed again since (R290). -/
structure TripClear where
  hdr    : CmdHdr
  opcode : Nat
  inputs : Nat
  tg     : Bool
  again  : Nat
deriving DecidableEq, Repr

structure Trp where
  /-- TRP_STATE. -/
  latch    : Nat
  level    : Nat
  cfg      : List TripCfg
  ins      : List TripIn
  events   : Nat
  refused  : Nat
  /-- SEQ of the last event; A_r of each rod, coded as in HDR2. -/
  seq      : Nat
  act      : List Nat
  tgMask   : Nat
  tgLatch  : Bool
  sbLatch  : Bool
  /-- Consecutive rims at hold and the escalation of each rod (R286). -/
  holdRun  : List Nat
  holdEsc  : Nat
  clears   : List TripClear
deriving DecidableEq, Repr

def Trp.reset : Trp :=
  { latch := 0, level := 0, cfg := List.replicate 16 TripCfg.reset, ins := List.replicate 16 TripIn.reset,
    events := 0, refused := 0, seq := 0, act := List.replicate 12 0, tgMask := 0, tgLatch := false,
    sbLatch := false, holdRun := List.replicate 12 0, holdEsc := 0, clears := [] }

/-- A rod under Safe Stop (R296–R300): I0 in 1/64 A, Vrest in 1/16 V and whether it was ever valid, consecutive
steps outside, consecutive steps below SBK_I_END, and the published bound, current and half-width. -/
structure SbkRod where
  i0    : Nat
  vrest : Int
  ever  : Bool
  out   : Nat
  quiet : Nat
  bound : Nat
  cur   : Nat
  h     : Nat
deriving DecidableEq, Repr

def SbkRod.reset : SbkRod := { i0 := 0, vrest := 0, ever := false, out := 0, quiet := 0, bound := 0, cur := 0, h := 0 }

/-- A new copy of a telegram request that waits for its match (R306): LAN, rim count of its frame, SEQ, the bytes
from VERSION to the reserved bytes. -/
structure TgCopy where
  lan   : Nat
  frame : Nat
  seq   : Nat
  body  : List Byte
deriving DecidableEq, Repr

structure Sbk where
  step      : Nat
  vrestHeld : Bool
  tail      : Bool
  viol      : Bool
  stopCause : Nat
  blockCause : Nat
  detail    : Nat
  entry     : Nat
  rods      : List SbkRod
  /-- Safe Stop due at the next rim, with its cause (R295); Safe Block by the rim path due, with its cause;
  SAFE_BLOCKED due at the next rim by the injected path, with cause and detail (R301). -/
  stopDue   : Option Nat
  blockDue  : Option Nat
  injDue    : Option (Nat × Nat)
  /-- Telegram supervision. -/
  armed     : Bool
  silent    : List Bool
  gotValid  : List Bool
  lastValid : List Nat
  anySeq    : Bool
  lastSeq   : Nat
  matched   : Nat
  bad       : Nat
  loss      : Nat
  lane      : Nat
  dis       : Nat
  silentN   : Nat
  copies    : List TgCopy
  /-- A matched SAFE_STOP telegram that the next frame's work takes in (R308). -/
  tgStop    : Bool
deriving DecidableEq, Repr

def Sbk.reset : Sbk :=
  { step := 0, vrestHeld := false, tail := false, viol := false, stopCause := 0, blockCause := 0, detail := 0,
    entry := 0, rods := List.replicate 12 SbkRod.reset, stopDue := none, blockDue := none, injDue := none,
    armed := false, silent := [false, false], gotValid := [false, false], lastValid := [0, 0], anySeq := true,
    lastSeq := 0, matched := 0, bad := 0, loss := 0, lane := 0, dis := 0, silentN := 0, copies := [], tgStop := false }

/-! ### TIME, TOUT, PLL: network time, timed outputs, clocks (R339–R365) -/

/-- A domain's slave (R343, R345, R346): its port, the latest offset, consecutive offsets at or above the threshold and
the last eight of them, the last Syncs (t1 + cf, G at t2) newest first, the grid time by which the next Sync is due, a
Sync that waits for its Follow_Up on each port, and the masters heard on each port. -/
structure TDom where
  port   : Nat
  theta  : Option Int
  ovr   : Nat
  offs   : List Int
  syncs  : List (Int × Nat)
  valid  : Bool
  pend   : List (Option SyncMsg)
  master : List (Option MasterDs)
deriving DecidableEq, Repr

def TDom.reset : TDom :=
  { port := 0, theta := none, ovr := 0, offs := [], syncs := [], valid := false, pend := [none, none],
    master := [none, none] }

/-- A station LAN port: link up, SGMII in force, the last eight peer delays, newest first (R342, R345). -/
structure TPort where
  up    : Bool
  sgmii : Bool
  pd    : List Int
deriving DecidableEq, Repr

def TPort.reset : TPort := { up := false, sgmii := false, pd := [] }

structure Tim where
  /-- Δ, E, y in force and the servo's target for it (R340, R345, R359). -/
  delta    : Int
  epoch    : Nat
  y        : Int
  yGoal    : Int
  freqLim  : Bool
  inUse    : Nat
  doms     : List TDom
  ports    : List TPort
  /-- STEP_HELD with its M, HOLDOVER. -/
  held     : Option Int
  holdover : Bool
  /-- The remaining slew of Δ, and rim counts of the last adjustment of Δ and the last frame step. -/
  slew     : Int
  slewAt   : Nat
  stepAt   : Nat
  /-- The step of the frame in progress and of the next, eps, m. -/
  s0       : Int
  s1       : Int
  eps      : Int
  m        : Nat
  steps    : Nat
  switches : Nat
  /-- TIME_STEP_OLD and TIME_STEP_NEW: T32 and W. -/
  old      : Nat × Nat
  new      : Nat × Nat
  discard  : Nat
  /-- A step and a change of domain for the next rim, with the command that waits for each, and rim-time replies. -/
  stepDue  : Option Int
  selDue   : Option Nat
  stepHdr  : Option CmdHdr
  selHdr   : Option CmdHdr
  /-- Sequence number of the next Pdelay_Req. -/
  pdSeq    : Nat
deriving DecidableEq, Repr

def Tim.reset : Tim :=
  { delta := 0, epoch := 0, y := 0, yGoal := 0, freqLim := false, inUse := 0, doms := [TDom.reset, TDom.reset],
    ports := [TPort.reset, TPort.reset], held := none, holdover := false, slew := 0, slewAt := 0, stepAt := 0,
    s0 := 0, s1 := 0, eps := 0, m := 5, steps := 0, switches := 0, old := (0, 0), new := (0, 0), discard := 0,
    stepDue := none, selDue := none, stepHdr := none, selHdr := none, pdSeq := 0 }

/-- A timed output (R350–R355): what it was armed with, the grid time at which a running pulse ends and at which the
last one ended, a pulse due on the elapsed time across a step, the polarity in force. -/
structure TOut where
  armed  : Bool
  mode   : Nat
  ptp    : Bool
  target : Nat
  width  : Nat
  period : Nat
  fired  : Bool
  late   : Bool
  pulses : Nat
  lates  : Nat
  last   : Nat
  ends   : Option Nat
  idleAt : Nat
  due    : Option Nat
  pol    : Nat
  /-- The next pulse is late (R352, R353), and the tick before which it may not rise. -/
  lateNext : Bool
  first  : Nat
deriving DecidableEq, Repr

def TOut.reset : TOut :=
  { armed := false, mode := 0, ptp := false, target := 0, width := 0, period := 0, fired := false, late := false,
    pulses := 0, lates := 0, last := 0, ends := none, idleAt := 0, due := none, pol := 0,
    lateNext := false, first := 0 }

structure Pll where
  lock     : Bool
  band     : Nat
  refMode  : Nat
  syncMiss : Bool
  syncDone : Bool
  armed    : Bool
  /-- Outputs running: bit 0 edge timer, 1 ADC clock, 2 lane reference, 3 Cevel-1 reference, 4 Ethernet reference. -/
  outs     : Nat
  unlocks  : Nat
  locks    : Nat
  lockUs   : Nat
  ignored  : Nat
deriving DecidableEq, Repr

def Pll.reset : Pll :=
  { lock := false, band := 0, refMode := 0, syncMiss := false, syncDone := false, armed := false, outs := 0,
    unlocks := 0, locks := 0, lockUs := 0, ignored := 0 }

/-! ### TRC: transient recorder (R426–R443) -/

/-- A sample slot's block in progress: samples, their sum, their flags CLIP, SAT, CAL (R426, R427). -/
structure TBlk where
  n     : Nat
  sum   : Int
  flags : Nat
deriving DecidableEq, Repr

structure Trc where
  /-- State of R432; an arm that takes effect at the next rim; a follower's arm by line. -/
  st       : Nat
  armDue   : Bool
  seg      : Nat
  doneMap  : Nat
  src      : Nat
  missed   : Nat
  captures : Nat
  log2d    : Nat
  rate     : Nat
  written  : Nat
  maskViol : Nat
  trigG    : Nat
  armIgn   : Nat
  fires    : Nat
  level    : Nat
  /-- Ring index of the next word, words written since the arm of the segment (for PRE), post words written. -/
  pos      : Nat
  post     : Nat
  /-- The accepted trigger: source code, slot, instant, T32, E; ring index of its word, and the frame of its span. -/
  trigSlot : Nat
  trigT32  : Nat
  trigE    : Nat
  trigWord : Option Nat
  trigFrame : Nat
  /-- Header content of the segment: capture number, highest D, FLAGS, triggers missed during the arm, R_w. -/
  capture  : Nat
  topD     : Nat
  flags    : Nat
  missArm  : Nat
  rateArm  : Nat
  /-- Edge test: primed rising and falling, instant up to which values were tested (R437). -/
  up       : Bool
  dn       : Bool
  tested   : Nat
  /-- The first mask violation of the arm has been raised. -/
  violOnce : Bool
  /-- Slot by slot, the instant up to which stored words have had their mask test (R438); a violation that is the last
  word of a capture: instant and slot; the opening rims of the span whose words were stored last
  and of the one before. -/
  masked   : List Nat
  stopAt   : Option (Nat × Nat)
  opened   : Nat × Nat
  /-- The blocks of the sample slots. -/
  blocks   : List TBlk
  /-- The recorder memory of BAR1. -/
  mem      : Memory
deriving DecidableEq, Repr

def TBlk.reset : TBlk := { n := 0, sum := 0, flags := 0 }

def Trc.reset : Trc :=
  { st := 0, armDue := false, seg := 0, doneMap := 0, src := 0xF, missed := 0, captures := 0, log2d := 0, rate := 0,
    written := 0, maskViol := 0, trigG := 0, armIgn := 0, fires := 0, level := 0, pos := 0, post := 0,
    trigSlot := 0xFF, trigT32 := 0, trigE := 0, trigWord := none, trigFrame := 0, capture := 0, topD := 0, flags := 0,
    missArm := 0, rateArm := 0, up := false, dn := false, tested := 0, violOnce := false, masked := List.replicate 16 0, stopAt := none, opened := (0, 0),
    blocks := List.replicate 16 TBlk.reset, mem := [] }

/-! ### SCH: supervisor cores (R463–R474) -/

/-- A task descriptor: class, source, instant of its enqueue, whether it has been dispatched before, the running time it
has used, ns. -/
structure Task where
  cls  : Nat
  src  : Nat
  enq  : Nat
  seen : Bool
  used : Nat
deriving DecidableEq, Repr

/-- A core: the running task and the instant of its dispatch, tasks preempted, LAST and MAX of its load. -/
structure Core where
  task  : Option Task
  since : Nat
  preempts : Nat
  load  : Nat
  loadMax : Nat
deriving DecidableEq, Repr

/-- A level: its ready list and spill queue in order, highest depth, LAST and MAX of the waits, stalls under
back-pressure since the last rim, and whether the rim before saw any. -/
structure Lvl where
  ready : List Task
  spill : List Task
  depthMax : Nat
  wait  : Nat
  waitMax : Nat
  stalls : Nat
  bp    : Bool
deriving DecidableEq, Repr

structure Sch where
  lvls     : List Lvl
  cores    : List Core
  spillMax : Nat
  stalls   : Nat
  wdogCore : Nat
  wdogTime : Nat
  /-- SCH_LOAD_WIN and SCH_LOAD_WARN of the running window (R473). -/
  loadWin  : Nat
  loadWarn : Nat
deriving DecidableEq, Repr

def Core.reset : Core := { task := none, since := 0, preempts := 0, load := 0, loadMax := 0 }
def Lvl.reset : Lvl := { ready := [], spill := [], depthMax := 0, wait := 0, waitMax := 0, stalls := 0, bp := false }
def Sch.reset : Sch :=
  { lvls := List.replicate 8 Lvl.reset, cores := List.replicate 4 Core.reset, spillMax := 0, stalls := 0,
    wdogCore := 0, wdogTime := 0, loadWin := 100, loadWarn := 800 }

/-! ### What the device emits -/

/-- A downstream frame (R239–R244, R269): the header fields, management messages, wire codes by slot, edge entries. (DESIGN CHOICE, log 57.) -/
structure DownFrame where
  fn      : Nat
  gen     : Nat
  test    : Bool
  sys     : Bool
  plan    : Bool
  wtag    : Nat
  hold    : Nat
  len     : Nat
  tx      : Nat
  tripSeq : Nat
  act     : Nat
  mgt     : List Mgt
  codes   : List Nat
  edges   : List EdgeEnt
deriving DecidableEq, Repr

/-- A partner-link message sent (R317). -/
inductive PMsg where
  | hb (m : HbMsg)
  | rod (rods : List RodRec) (phases : List Nat)
  | cell (cells : List CellRec)
  | mirror (pair gen seq : Nat) (bytes : List Byte)
  | mirAck (pair seq : Nat)
  | exec (pair seq num : Nat)
  | execAck (num : Nat)
  | loop (recs : List LoopRec)
  | obs (recs : List ObsRec)
  | image (m : ImageMsg)
  | hello (m : HelloMsg)
  | hoverAck (fn : Nat)
deriving DecidableEq, Repr

/-- What leaves the device during a command. (DESIGN CHOICE, log 49.) -/
inductive Output where
  /-- A frame down a lane. -/
  | frame (lane : Nat) (f : DownFrame)
  /-- Three copies of a trip block set down a lane (R248): action, mask, SEQ. -/
  | trip (lane action mask seq : Nat)
  /-- A message on both partner links, with its MSEQ and FN. -/
  | partner (mseq fn : Nat) (m : PMsg)
  /-- A write of bytes to host memory. -/
  | host (addr : Nat) (bytes : List Byte)
  /-- An MSI-X message. -/
  | msi (vector : Nat)
  /-- A trigger line driven low. -/
  | trig (line : Nat)
  /-- A PTP message sent on a port: kind (0 Pdelay_Req, 1 two-step Pdelay_Resp), sequence number, and of a response the
  corrected time of receipt in ns. -/
  | ptp (port kind seqId : Nat) (stamp : Int)
deriving DecidableEq, Repr

/-! ### The whole -/

/-- Every block of the device. -/
structure Dev where
  st     : DevState
  frm    : FrmBlock
  flt    : Flt
  evr    : Evr
  jnl    : Jnl
  hif    : Hif
  params : Params
  pair   : Pair
  pwr    : Pwr
  adc    : Adc
  ref    : Ref
  ctl    : Ctl
  cells  : Tab Entry
  obs    : Obs
  rnk    : Rnk
  fir    : Fir
  lnk    : Lnk
  cev    : Cev
  trp    : Trp
  sbk    : Sbk
  time   : Tim
  tout   : List TOut
  pll    : Pll
  trc    : Trc
  sch    : Sch
  /-- The model's own: the counter that the free values are drawn with (DESIGN CHOICE, log 2), and the grid time of the latest
  event. -/
  free   : Nat
  now    : Nat
deriving DecidableEq, Repr

/-- The state: the blocks, what was emitted during the last command, the copy of the blocks published at the last rim
(R29), and the commands that wait. -/
structure State extends Dev where
  out     : List Output
  pub     : Dev
  pending : List Instr
deriving DecidableEq, Repr

def Dev.reset : Dev :=
  { st := .off, frm := FrmBlock.reset, flt := Flt.reset, evr := Evr.reset, jnl := Jnl.reset, hif := Hif.reset,
    params := Params.reset, pair := Pair.reset, pwr := Pwr.reset, adc := Adc.reset, ref := Ref.reset,
    ctl := Ctl.reset, cells := [], obs := Obs.reset, rnk := Rnk.reset, fir := Fir.reset, lnk := Lnk.reset,
    cev := Cev.reset, trp := Trp.reset, sbk := Sbk.reset, time := Tim.reset, tout := List.replicate 8 TOut.reset, pll := Pll.reset,
    trc := Trc.reset, sch := Sch.reset, 
    free := 0, now := 0 }

/-- The device right after a power-on, held in reset (R479, R481). (DESIGN CHOICE, log 8.) (DEDUCED, log 35.) -/
def State.reset : State := { toDev := Dev.reset, out := [], pub := Dev.reset, pending := [] }

end Sys2Proof.Machine
end

