-- ==== Sys2Proof/Machine/Bfp.lean ====
section
/-! DEFINITION. The control engine's number format (R90) and its second-order section (R95). -/

namespace Sys2Proof.Machine

open Sys2Proof

/-- The largest mantissa. -/
def bfpTop : Int := 2 ^ 23 - 1

/-- `m` times 2 to the `k`, for a natural `k`. -/
def shl (m : Int) (k : Nat) : Int := m * 2 ^ k

/-- The normalised value nearest to `m` times 2 to the `e`, and whether it saturated (R90). -/
def bfpNorm (m e : Int) : Bfp × Bool :=
  if m = 0 then (bfpZero, false)
  else
    let b := Nat.log2 m.natAbs + 1
    let m1 := if 23 < b then rshr m (b - 23) else shl m (23 - b)
    let e1 := e + (b : Int) - 23
    let m2 := if m1.natAbs = 2 ^ 23 then tdiv m1 2 else m1
    let e2 := if m1.natAbs = 2 ^ 23 then e1 + 1 else e1
    if 127 < e2 then ({ m := if 0 < m then bfpTop else -bfpTop, e := 127 }, true)
    else if e2 < -128 then ({ m := rshr m (-128 - e).toNat, e := -128 }, false)
    else ({ m := m2, e := e2 }, false)

/-- The signed mantissa and exponent of a BFP32 word, normalised (R90). -/
def bfpOfWord (w : Int) : Bfp :=
  let x := toBits 32 w
  (bfpNorm (sext 24 (x / 256)) (sext 8 x)).1

/-- The exact sum of values as a mantissa at their least exponent, rounded (R92). -/
def bfpSum (l : List Bfp) : Bfp × Bool :=
  let e := l.foldl (fun a b => min a b.e) 127
  bfpNorm (sumI (l.map (fun b => shl b.m (b.e - e).toNat))) e

/-- The product of three values, exact and then rounded (R92). -/
def bfpMul3 (a b c : Bfp) : Bfp × Bool := bfpNorm (a.m * b.m * c.m) (a.e + b.e + c.e)

/-- Whether `a` is less than `b`, exactly. -/
def bfpLt (a b : Bfp) : Bool :=
  let e := min a.e b.e
  decide (shl a.m (a.e - e).toNat < shl b.m (b.e - e).toNat)

/-- The magnitude. -/
def bfpAbs (a : Bfp) : Bfp := { a with m := a.m.natAbs }

/-- A value times 2 to the `k`, rounded half away from zero to an integer. -/
def bfpToInt (a : Bfp) (k : Nat) : Int :=
  let e := a.e + k
  if 0 ≤ e then shl a.m e.toNat else rshr a.m (-e).toNat

/-- The least shift that brings every mantissa below 2^23 (R95). -/
def leastShift (l : List Int) : Nat :=
  ((List.range 16).find? (fun s => l.all (fun q => decide ((rshr q s).natAbs < 2 ^ 23)))).getD 16

/-- One second-order section: the new states, the output, and whether it saturated (R95). `c` holds b0, b1, b2, a1
and a2 with 30 fractional bits; `emin` is CTL_SEC_EMIN. -/
def section_ (c : List Int) (emin : Int) (st : Sect) (x : Bfp) : Sect × Bfp × Bool :=
  let b0 := c.getD 0 0
  let b1 := c.getD 1 0
  let b2 := c.getD 2 0
  let a1 := c.getD 3 0
  let a2 := c.getD 4 0
  let ew := max st.e x.e
  let w1 := rshr st.w1 (ew - st.e).toNat
  let w2 := rshr st.w2 (ew - st.e).toNat
  let xm := rshr x.m (ew - x.e).toNat
  let ym := rshr (b0 * xm + shl w1 30) 30
  let v1 := rshr (b1 * xm - a1 * ym + shl w2 30) 30
  let v2 := rshr (b2 * xm - a2 * ym) 30
  let sh := leastShift [ym, v1, v2]
  let small := fun q : Int => decide (q.natAbs < 2 ^ 21)
  if 127 < ew + sh then
    let f := fun q : Int => clampI (-bfpTop) bfpTop (rshr q (127 - ew).toNat)
    ({ w1 := f v1, w2 := f v2, e := 127 }, (bfpNorm (f ym) 127).1, true)
  else if sh = 0 ∧ (small ym && small v1 && small v2) = true ∧ emin < ew then
    ({ w1 := 2 * v1, w2 := 2 * v2, e := ew - 1 }, (bfpNorm (2 * ym) (ew - 1)).1, false)
  else
    ({ w1 := rshr v1 sh, w2 := rshr v2 sh, e := ew + sh }, (bfpNorm (rshr ym sh) (ew + sh)).1, false)

end Sys2Proof.Machine
end

