-- ==== Sys2Proof/Config.lean ====
section
/-! DEFINITION. What the manual leaves to the part or leaves open: opaque constants, with no value that a proof
could use. Log entries 2 and 3 name each of them. -/

namespace Sys2Proof

/-- The n-th free value where the spec gives a result no value (DESIGN CHOICE, log 2). The number is a counter in the state. -/
opaque Config.freeNat : Nat → Nat

/-- The rounding direction of a quotient whose rounding the spec does not state: by site, dividend, divisor (DESIGN CHOICE, log 3). -/
opaque Config.roundUp : Nat → Int → Nat → Bool

/-- A value for which the spec states no result: by site and operand (DESIGN CHOICE, log 2). -/
opaque Config.openVal : Nat → Nat → Int

/-- The error of an NCO output within its tolerance of 1 LSB (R68), by output and angle (DESIGN CHOICE, log 4). -/
opaque Config.ncoErr : Nat → Nat → Int

/-- The raw bytes of a journal flash (R408, JNL_EXPORT): the place of a record is not in the spec (DESIGN CHOICE, log 5). -/
opaque Config.flashByte : Nat → Nat → BitVec 8

/-- Fused and fixed values (R493): variant, firmware version, device identity, MAC address. (DESIGN CHOICE, log 7.) -/
opaque Config.variant : Nat
opaque Config.firmware : Nat
opaque Config.uid : Nat
opaque Config.mac : Nat

end Sys2Proof
end

