-- ==== Sys2Proof/Machine/Params.lean ====
section
/-! DEFINITION. The parameters: ranges, defaults, when each takes effect and in which states it may be written, from
the parameter tables of the chapters; the fault kinds with their severities and clear classes (R414, R462, R496). -/

namespace Sys2Proof.Machine

open Sys2Proof

/-! ### Fault kinds -/

/-- Severity of a kind: information, warning, error, fatal, or by its own rule with error as a kind (R414). -/
inductive Sev where
  | i | w | e | f | byRule
deriving DecidableEq, Repr

/-- Clear class of a kind (R421): none of its own, E, C, or fatal. -/
inductive Clr where
  | none | e | c | f
deriving DecidableEq, Repr

/-- The kinds of each block in code order, from 0x01 (0x10 on for the second list of TRP/SBK) (R414, R443, R462,
R474, R496). -/
def kindInfo (blk kind : Nat) : Option (Sev × Clr) :=
  let at_ := fun (l : List (Sev × Clr)) => if kind = 0 then Option.none else l[kind - 1]?
  match blk with
  | 0x01 => at_ [(.w, .none), (.e, .e), (.i, .none)]
  | 0x02 => at_ [(.w, .none), (.e, .c), (.w, .none), (.w, .none), (.e, .c)]
  | 0x03 => at_ [(.i, .none)]
  | 0x04 => at_ [(.e, .c), (.i, .none), (.byRule, .e)]
  | 0x05 => at_ [(.w, .none), (.i, .none), (.i, .none), (.w, .none), (.w, .none)]
  | 0x06 => at_ [(.w, .none), (.w, .none), (.w, .none), (.e, .c), (.e, .c), (.w, .none), (.w, .none), (.e, .e)]
  | 0x08 => at_ [(.w, .none), (.e, .c), (.e, .e), (.w, .none)]
  | 0x09 => at_ [(.i, .none), (.w, .none), (.w, .none)]
  | 0x0A =>
    if 0x10 ≤ kind then
      [((Sev.e, Clr.e)), (.e, .e), (.w, .none), (.e, .e), (.e, .e), (.e, .c), (.e, .c)][kind - 0x10]?
    else at_ [(.byRule, .c), (.w, .none), (.w, .none)]
  | 0x0B => at_ [(.w, .none), (.i, .none), (.e, .c), (.e, .c), (.e, .e), (.w, .none), (.w, .none), (.w, .none),
      (.e, .c), (.w, .none), (.e, .e), (.i, .none), (.w, .none)]
  | 0x0C => at_ [(.i, .none), (.w, .none), (.i, .none), (.w, .none), (.w, .none), (.w, .none), (.i, .none)]
  | 0x0D => at_ [(.w, .none), (.f, .f)]
  | 0x0E => at_ [(.i, .none), (.byRule, .e), (.f, .f)]
  | 0x0F => at_ [(.i, .none), (.w, .none), (.i, .none)]
  | 0x10 => at_ [(.w, .none), (.i, .none)]
  | 0x11 => at_ [(.e, .c), (.e, .c), (.w, .none), (.w, .none), (.e, .c), (.i, .none), (.w, .none)]
  | 0x12 => at_ [(.f, .f), (.w, .none), (.w, .none), (.e, .c), (.w, .none)]
  | 0x13 => at_ [(.f, .f), (.f, .f), (.w, .none), (.w, .none), (.e, .e)]
  | 0x14 => at_ [(.e, .c)]
  | _ => Option.none

/-! ### Parameter specifications -/

/-- How a value is checked beyond its range: plain; source code of R91; BFP32 word; EVR_LIST offset; equalisation
row; telegram reaction code 1, 4 or 5; power of two; recorder source of R426; class word with LATCH. -/
inductive PKind where
  | plain | source | bfp | bar | eqRow | react | pow2 | trcSrc | latch
deriving DecidableEq, Repr

/-- A parameter: range, default, whether 0xFFFF for none is allowed, when it takes effect, whether it may be written
only in READY, BLOCKED and MAINTENANCE, and the kind of check. -/
structure PSpec where
  lo   : Int
  hi   : Int
  dflt : Int
  none : Bool := false
  wait : PWhen := .rim
  calm : Bool := false
  kind : PKind := .plain
deriving DecidableEq, Repr

/-- Whether an ID lies in a run of `n` IDs from `base`. -/
def inRun (id base n : Nat) : Bool := decide (base ≤ id) && decide (id < base + n)

/-- BFP32 word of mantissa and exponent. -/
def bfpW (m e : Int) : Int := toBits 24 m * 256 + toBits 8 e

/-- A signed 32-bit parameter. -/
def ps32 (d : Int) : PSpec := { lo := -0x80000000, hi := 0x7FFFFFFF, dflt := d }

/-- HIF, EVR, JNL, SCH, PWR, ID (R387, R461, R473, R495, R497). -/
def pspec0 (id : Nat) : Option PSpec :=
  if id = 0x0000 then some { lo := 0, hi := 1, dflt := 1 }
  else if inRun id 0x0100 192 then some { lo := 0, hi := 0xFFFFFFFF, dflt := 0xFFFFFFFF, kind := .bar }
  else if inRun id 0x01C0 21 then some { lo := 0, hi := 3, dflt := 0 }
  else if id = 0x01E0 then some { lo := 0, hi := 3, dflt := 0 }
  else if id = 0x0200 then some { lo := 50, hi := 90, dflt := 75 }
  else if inRun id 0x0300 8 then some { lo := 0, hi := 1, dflt := if id < 0x0305 then 1 else 0 }
  else if id = 0x0308 then some { lo := 100, hi := 10000, dflt := 1000 }
  else if id = 0x0309 then some { lo := 1, hi := 1000, dflt := 100 }
  else if id = 0x030A then some { lo := 100, hi := 1000, dflt := 800 }
  else if id = 0x0400 then some { lo := 10, hi := 60000, dflt := 1000, wait := .event }
  else if id = 0x0401 then some { lo := 1, hi := 40, dflt := 10 }
  else if id = 0x0500 then some { lo := 0x4100, hi := 0x4100, dflt := 0x4100, wait := .event }
  else none

/-- FRM (R38). -/
def pspec1 (id : Nat) : Option PSpec :=
  if id = 0x1000 then some { lo := 0, hi := 3, dflt := 1, wait := .boundary, calm := true }
  else if id = 0x1001 then some { lo := 0, hi := 1024, dflt := 32 }
  else none

/-- ADC (R65). -/
def pspec2 (id : Nat) : Option PSpec :=
  if inRun id 0x2000 12 then some { lo := 1, hi := 16, dflt := 16, wait := .boundary, calm := true }
  else if inRun id 0x2100 192 then
    some { lo := 0, hi := 15, dflt := (id % 16 : Nat), wait := .boundary, calm := true }
  else if inRun id 0x2300 12 then
    some { lo := 0, hi := 191, dflt := 0xFFFF, none := true, wait := .boundary, calm := true }
  else if inRun id 0x2310 12 then
    some { lo := 0, hi := 191, dflt := 0xFFFF, none := true, wait := .boundary, calm := true }
  else if inRun id 0x2320 12 then some { ps32 0 with wait := .boundary, calm := true }
  else if id = 0x2330 then some { lo := 1, hi := 65535, dflt := 200 }
  else if inRun id 0x2400 32 then
    if id % 4 = 3 then some { lo := 0, hi := 2, dflt := 0 }
    else some { lo := 0, hi := 191, dflt := 0xFFFF, none := true }
  else if inRun id 0x2440 8 then some { lo := 1, hi := 32767, dflt := 21404 }
  else if id = 0x2450 then some { lo := 0, hi := 65535, dflt := 13271 }
  else if id = 0x2451 then some { lo := 1, hi := 65535, dflt := 19825 }
  else if id = 0x2452 then some { lo := 1, hi := 255, dflt := 4 }
  else none

/-- REF (R89). -/
def pspec3 (id : Nat) : Option PSpec :=
  if inRun id 0x3000 16 then
    match id % 4 with
    | 0 => some { lo := -(2 ^ 40), hi := 2 ^ 40, dflt := 0 }
    | 1 => some { lo := 0, hi := 65535, dflt := 0 }
    | 2 => some { lo := 0, hi := 1, dflt := 0 }
    | _ => some { lo := 0, hi := 31, dflt := 0xFFFF, none := true }
  else if inRun id 0x3100 64 then some { lo := 0, hi := 2 ^ 32 - 1, dflt := 0 }
  else if inRun id 0x3140 64 then some { ps32 0 with wait := .event }
  else if inRun id 0x3180 64 then some (ps32 (-0x80000000))
  else if inRun id 0x31C0 64 then some (ps32 0x7FFFFFFF)
  else none

/-- A tap's three parameters, A, B and W (R110). -/
def pspecTap (j : Nat) : PSpec :=
  if j = 2 then { lo := 0, hi := 0xFFFFFFFF, dflt := 0x80, kind := .bfp }
  else { lo := 0, hi := 0xFFFF, dflt := 0, kind := .source }

/-- CTL (R110). -/
def pspec4 (id : Nat) : Option PSpec :=
  if inRun id 0x4000 1024 then
    let j := id % 32
    if j = 0 then some { lo := 0, hi := 1, dflt := 0, wait := .boundary, calm := true }
    else if j = 1 then some { lo := 0, hi := 8, dflt := 1, wait := .boundary, calm := true }
    else if j = 2 then some { lo := 0, hi := 2, dflt := 2 }
    else if j = 3 then some { lo := 0, hi := 7, dflt := 0xFFFF, none := true }
    else if j = 4 then some { lo := 0, hi := 0xFFFFFFFF, dflt := bfpW (-8388607) 127, kind := .bfp }
    else if j = 5 then some { lo := 0, hi := 0xFFFFFFFF, dflt := bfpW 8388607 127, kind := .bfp }
    else if j = 6 then some { lo := 0, hi := 0x7FFFFFFF, dflt := 0, kind := .bfp }
    else if j = 7 then some { lo := 1, hi := 65535, dflt := 1 }
    else if j = 8 then some { lo := 0, hi := 5, dflt := 1 }
    else if j = 9 then some { lo := 0, hi := 0xFFF, dflt := 0 }
    else if j = 10 then some { lo := -128, hi := 127, dflt := -64 }
    else if inRun j 16 12 then some (pspecTap ((j - 16) % 3))
    else none
  else if inRun id 0x4400 384 then
    let j := id % 32
    if j < 18 then some (pspecTap (j % 3))
    else if j = 0x12 then some (ps32 (-0x80000000))
    else if j = 0x13 then some (ps32 0x7FFFFFFF)
    else if j = 0x14 then some { lo := 0, hi := 0x7FFFFFFF, dflt := 0x7FFFFFFF }
    else none
  else if inRun id 0x4800 2048 then
    if id % 64 < 40 then some (ps32 0) else none
  else none

/-- OBS (R157). -/
def pspec5 (id : Nat) : Option PSpec :=
  if inRun id 0x5000 12 then some { lo := 1, hi := 65535, dflt := 16384 }
  else if inRun id 0x5010 12 then some { lo := 1, hi := 65535, dflt := 640 }
  else if inRun id 0x5020 12 then some { lo := 0, hi := 65535, dflt := 0 }
  else if inRun id 0x5030 12 then some { lo := 0, hi := 65535, dflt := 500 }
  else match id with
  | 0x5040 => some { lo := 1, hi := 255, dflt := 3 }
  | 0x5041 => some { lo := 1, hi := 8, dflt := 8 }
  | 0x5042 => some { lo := 0, hi := 15, dflt := 3 }
  | 0x5043 => some { lo := 1, hi := 65535, dflt := 2000 }
  | 0x5044 => some { lo := 1, hi := 8, dflt := 8 }
  | 0x5045 => some { lo := 16, hi := 1024, dflt := 256 }
  | 0x5046 => some { lo := 0, hi := 8, dflt := 3 }
  | 0x5047 => some { lo := 1, hi := 32767, dflt := 8192 }
  | 0x5048 => some { lo := 1, hi := 32767, dflt := 20480 }
  | 0x5049 => some { lo := 1, hi := 16384, dflt := 15892 }
  | 0x504A => some { lo := 1, hi := 16384, dflt := 14746 }
  | 0x504B => some { lo := 1, hi := 3650, dflt := 180 }
  | 0x504C => some { lo := 1, hi := 168, dflt := 24 }
  | 0x504D => some { lo := 2, hi := 255, dflt := 14 }
  | _ => none

/-- RNK (R136, R179). -/
def pspec6 (id : Nat) : Option PSpec :=
  if inRun id 0x6000 12 then some { lo := 0, hi := 65535, dflt := 50 }
  else if inRun id 0x6010 12 then some { lo := 0, hi := 255, dflt := 1 }
  else if inRun id 0x6020 12 then some { lo := 0, hi := 65535, dflt := 80 }
  else if inRun id 0x6030 12 then some { lo := 0, hi := 64, dflt := 2 }
  else if inRun id 0x6800 12 then some { lo := 0, hi := 1024, dflt := 0 }
  else if inRun id 0x6810 12 then some { lo := 0, hi := 1024, dflt := 0 }
  else if inRun id 0x6820 12 then some { lo := 0, hi := 255, dflt := 8 }
  else if inRun id 0x6830 12 then some { lo := 0, hi := 255, dflt := 4 }
  else if inRun id 0x6840 12 then some { lo := 0, hi := 255, dflt := 0 }
  else if inRun id 0x6850 12 then some { lo := 0, hi := 20000000, dflt := 0 }
  else if inRun id 0x6860 12 then some { lo := 0, hi := 20000000, dflt := 0 }
  else if inRun id 0x6870 12 then some { lo := 0, hi := 63, dflt := 0xFFFF, none := true }
  else if id = 0x6880 then some { lo := 0, hi := 65535, dflt := 2000 }
  else if id = 0x6881 then some { lo := 60, hi := 86400, dflt := 3600 }
  else if id = 0x6882 then some { lo := 1, hi := 1024, dflt := 64 }
  else if id = 0x6883 then some { lo := 1, hi := 2 ^ 24, dflt := 2 ^ 20 }
  else none

/-- FIR (R207). -/
def pspec7 (id : Nat) : Option PSpec :=
  if id = 0x7000 then some { lo := 500, hi := 4096, dflt := 1600, wait := .boundary, calm := true }
  else if id = 0x7001 then some { lo := 0, hi := 1, dflt := 1, wait := .boundary }
  else if id = 0x7002 then some { lo := 1, hi := 65535, dflt := 4096 }
  else if inRun id 0x7010 12 then some { lo := 1, hi := 2048, dflt := 150 }
  else if inRun id 0x7020 12 then some { lo := 0, hi := 1024, dflt := 100 }
  else if inRun id 0x7030 12 then some { lo := 0, hi := 2000000000, dflt := 10000000 }
  else if inRun id 0x7040 12 then some { lo := 1, hi := 320000, dflt := 35200 }
  else none

/-- LNK (R234). -/
def pspec8 (id : Nat) : Option PSpec :=
  if inRun id 0x8000 192 then
    some { lo := 0, hi := 0xFFFFFFFF, dflt := if id % 8 = 0 then 0x8840C000 else 0, wait := .event, kind := .eqRow }
  else if inRun id 0x8100 24 then some { lo := 1, hi := 3, dflt := 3, calm := true }
  else if inRun id 0x8120 24 then some { lo := 0, hi := 1, dflt := 0 }
  else match id with
  | 0x8200 => some { lo := 5, hi := 200, dflt := 20, wait := .event }
  | 0x8201 => some { lo := 0, hi := 4032, dflt := 400, wait := .event }
  | 0x8202 => some { lo := 1, hi := 1000, dflt := 20, wait := .event }
  | 0x8203 => some { lo := 1, hi := 100, dflt := 5, wait := .event }
  | 0x8204 => some { lo := 2, hi := 1000, dflt := 20, wait := .event }
  | 0x8205 => some { lo := 10, hi := 10000, dflt := 100, wait := .event }
  | 0x8206 => some { lo := 0, hi := 15, dflt := 3, wait := .event }
  | 0x8207 => some { lo := 2, hi := 255, dflt := 8 }
  | 0x8208 => some { lo := 1, hi := 7, dflt := 2 }
  | 0x8209 => some { lo := 1, hi := 60000, dflt := 1000, wait := .event }
  | _ => none

/-- CEV (R277). -/
def pspec9 (id : Nat) : Option PSpec :=
  if inRun id 0x9000 24 then some { lo := 256, hi := 4095, dflt := 1100, wait := .event }
  else match id with
  | 0x9020 => some { lo := 1, hi := 127, dflt := 64, wait := .event }
  | 0x9021 => some { lo := 1, hi := 15, dflt := 3 }
  | 0x9022 => some { lo := 1, hi := 1000, dflt := 50, wait := .event }
  | 0x9023 => some { lo := 1, hi := 1023, dflt := 32 }
  | 0x9024 => some { lo := 16, hi := 255, dflt := 32, wait := .event }
  | 0x9025 => some { lo := 0, hi := 1, dflt := 1 }
  | _ => none

/-- TRP, SBK (R311). -/
def pspecA (id : Nat) : Option PSpec :=
  if inRun id 0xA000 16 then some { lo := 0, hi := 125, dflt := 2 }
  else if inRun id 0xA010 16 then some { lo := 0, hi := 1, dflt := 0 }
  else if inRun id 0xA020 16 then some { lo := 0, hi := 3, dflt := 0 }
  else if inRun id 0xA030 16 then some { lo := 0, hi := 0xFFF, dflt := 0xFFF }
  else if inRun id 0xA040 16 then some { lo := 0, hi := 1, dflt := 0 }
  else if inRun id 0xA110 12 then some { lo := 0, hi := 0xFFFF, dflt := 0, kind := .source, wait := .event }
  else if inRun id 0xA120 12 then
    some { lo := 0, hi := 0xFFFFFFFF, dflt := 0x80, kind := .bfp, wait := .event }
  else if inRun id 0xA130 12 then some { lo := 0, hi := 0x7FFFFFFF, dflt := 0, wait := .event }
  else if inRun id 0xA140 12 then some { lo := 1, hi := 65535, dflt := 300, wait := .event }
  else if inRun id 0xA150 12 then some { lo := 1, hi := 65535, dflt := 50, wait := .event }
  else match id with
  | 0xA050 => some { lo := 1, hi := 65535, dflt := 4096 }
  | 0xA100 => some { lo := 16, hi := 524287, dflt := 4096, wait := .event }
  | 0xA101 => some { lo := 0, hi := 524287, dflt := 2048, wait := .event }
  | 0xA102 => some { lo := 1, hi := 255, dflt := 16, wait := .event }
  | 0xA103 => some { lo := 1, hi := 16, dflt := 2, wait := .event }
  | 0xA200 => some { lo := 0, hi := 1, dflt := 0 }
  | 0xA201 => some { lo := 0x0600, hi := 0xFFFF, dflt := 0x88B5 }
  | 0xA202 => some { lo := 0, hi := 65535, dflt := 0 }
  | 0xA203 => some { lo := 0, hi := 65535, dflt := 0 }
  | 0xA204 => some { lo := 1, hi := 1000, dflt := 10 }
  | 0xA205 => some { lo := 1, hi := 5, dflt := 5, kind := .react }
  | 0xA206 => some { lo := 1, hi := 5, dflt := 4, kind := .react }
  | 0xA207 => some { lo := 1, hi := 5, dflt := 4, kind := .react }
  | 0xA208 => some { lo := 1, hi := 5, dflt := 1, kind := .react }
  | _ => none

/-- PAIR (R338). -/
def pspecB (id : Nat) : Option PSpec :=
  match id with
  | 0xB000 => some { lo := 0, hi := 1, dflt := 0, wait := .event }
  | 0xB001 => some { lo := 2, hi := 8, dflt := 4 }
  | 0xB002 => some { lo := 50, hi := 5000, dflt := 200, wait := .event }
  | 0xB003 => some { lo := 1, hi := 255, dflt := 8 }
  | 0xB004 => some { lo := 20, hi := 1000, dflt := 50 }
  | _ => none

/-- FLT (R425): a class word for every block and kind code. No value is in range for a fatal kind or an unused code;
LATCH and EVR default to 1 for error kinds, and LATCH is 1 for a kind that is always an error. CTL_FE defaults to LATCH 0
and EVR 1. -/
def pspecE (id : Nat) : Option PSpec :=
  if inRun id 0xE000 672 then
    let blk := (id - 0xE000) / 32
    let k := id % 32
    match kindInfo blk k with
    | none | some (.f, _) => some { lo := 1, hi := 0, dflt := 0 }
    | some (s, _) =>
      some { lo := 0, hi := 15,
             dflt := if blk = 0x04 ∧ k = 3 then 8 else if s = .e ∨ s = .byRule then 12 else 0,
             kind := if s = .e then .latch else .plain }
  else if id = 0xE400 then some { lo := 0, hi := 3600, dflt := 10 }
  else none

/-- TIME, PLL (R365). -/
def pspecC (id : Nat) : Option PSpec :=
  if inRun id 0xC010 2 then some { lo := 0, hi := 1, dflt := 0 }
  else if inRun id 0xC012 4 then some { lo := -32768, hi := 32767, dflt := 0 }
  else if inRun id 0xC020 8 then some { lo := 0, hi := 1, dflt := 0 }
  else match id with
  | 0xC000 => some { lo := 0, hi := 127, dflt := 0 }
  | 0xC001 => some { lo := 0, hi := 127, dflt := 0xFFFF, none := true }
  | 0xC002 => some { lo := 1000, hi := 1000000000, dflt := 10000 }
  | 0xC003 => some { lo := 100, hi := 1000000, dflt := 1000 }
  | 0xC004 => some { lo := 0, hi := 1, dflt := 0 }
  | 0xC005 => some { lo := 1, hi := 200, dflt := 100 }
  | 0xC006 => some { lo := 0, hi := 1, dflt := 1 }
  | 0xC007 => some { lo := 0, hi := 8191, dflt := 0 }
  | 0xC008 => some { lo := 2, hi := 16, dflt := 3 }
  | 0xC009 => some { lo := 1, hi := 10000, dflt := 800 }
  | 0xC00A => some { lo := 1, hi := 64, dflt := 8 }
  | _ => none

/-- PLL (R365). -/
def pspecD (id : Nat) : Option PSpec :=
  match id with
  | 0xD000 => some { lo := 0, hi := 2, dflt := 0, wait := .event }
  | 0xD001 => some { lo := 0, hi := 1, dflt := 0, wait := .event }
  | 0xD002 => some { lo := 0, hi := 65535, dflt := 0, wait := .event }
  | 0xD003 => some { lo := 1, hi := 1000, dflt := 10, wait := .event }
  | _ => none

/-- TRC (R442). -/
def pspecF (id : Nat) : Option PSpec :=
  if inRun id 0xF000 16 then some { lo := 0, hi := 0x71B, dflt := 0, wait := .event, kind := .trcSrc }
  else if inRun id 0xF020 16 then some { lo := 0, hi := 2, dflt := 0, wait := .event }
  else if inRun id 0xF030 16 then some { ps32 (-0x80000000) with wait := .event }
  else if inRun id 0xF040 16 then some { ps32 0x7FFFFFFF with wait := .event }
  else match id with
  | 0xF010 => some { lo := 1, hi := 256, dflt := 1, wait := .event, kind := .pow2 }
  | 0xF011 => some { lo := 1, hi := 16, dflt := 1, wait := .event, kind := .pow2 }
  | 0xF012 => some { lo := 0, hi := 1, dflt := 0, wait := .event }
  | 0xF013 => some { lo := 0, hi := 2097136, dflt := 262144, wait := .event }
  | 0xF014 => some { lo := 1, hi := 2147483647, dflt := 1048576, wait := .event }
  | 0xF015 => some { lo := 0, hi := 15, dflt := 1, wait := .event }
  | 0xF016 => some { lo := 0, hi := 15, dflt := 0, wait := .event }
  | 0xF017 => some { lo := 0, hi := 2, dflt := 0, wait := .event }
  | 0xF018 => some { ps32 0 with wait := .event }
  | 0xF019 => some { lo := 0, hi := 1073741824, dflt := 0, wait := .event }
  | 0xF01A => some { lo := 0, hi := 0xFFFF, dflt := 0, wait := .event }
  | 0xF050 => some { lo := 0, hi := 2, dflt := 0, wait := .event }
  | 0xF051 => some { lo := 0, hi := 3, dflt := 0xFFFF, none := true }
  | 0xF052 => some { lo := 0, hi := 3, dflt := 0xFFFF, none := true }
  | 0xF053 => some { lo := 0, hi := 1, dflt := 0, wait := .event }
  | 0xF054 => some { lo := 0, hi := 1000, dflt := 0, wait := .event }
  | _ => none

/-- The specification of a parameter; none for an ID that names no parameter (R10). -/
def pspec (id : Nat) : Option PSpec :=
  match id / 0x1000 with
  | 0x0 => pspec0 id
  | 0x1 => pspec1 id
  | 0x2 => pspec2 id
  | 0x3 => pspec3 id
  | 0x4 => pspec4 id
  | 0x5 => pspec5 id
  | 0x6 => pspec6 id
  | 0x7 => pspec7 id
  | 0x8 => pspec8 id
  | 0x9 => pspec9 id
  | 0xA => pspecA id
  | 0xB => pspecB id
  | 0xC => pspecC id
  | 0xD => pspecD id
  | 0xF => pspecF id
  | 0xE => pspecE id
  | _ => none

/-- The default of a parameter. -/
def pdflt (id : Nat) : Int := ((pspec id).map PSpec.dflt).getD 0

/-- The value of a parameter in force. -/
def pvI (s : Dev) (id : Nat) : Int := (Tab.get none s.params.vals id).getD (pdflt id)

/-- The value of a parameter in force, as a natural. -/
def pv (s : Dev) (id : Nat) : Nat := (pvI s id).toNat

/-- A parameter that names something, or 0xFFFF for none. -/
def pvOpt (s : Dev) (id : Nat) : Option Nat := if pv s id = 0xFFFF then none else some (pv s id)

/-- The stored value of a parameter that still waits for its event (R403), the value in force otherwise. -/
def pvStored (s : Dev) (id : Nat) : Int := (Tab.get none s.params.event id).getD (pvI s id)

/-- The parameters with a value in force written; a value equal to the default is not listed. -/
def Params.put (p : Params) (id : Nat) (v : Int) : Params :=
  { p with vals := Tab.set none id (if v = pdflt id then none else some v) p.vals }

/-- The event values that a predicate selects, brought into force (R403). -/
def Params.fire (p : Params) (sel : Nat → Bool) : Params :=
  let q := (p.event.filter (fun e => sel e.1)).foldl
    (fun a e => match e.2 with | some v => a.put e.1 v | none => a) p
  { q with event := p.event.filter (fun e => !sel e.1) }

/-- The frame period P in ns (R12). -/
def perNs (j : Nat) : Nat := 1024 * 2 ^ j

/-- P in force. -/
def periodNs (s : Dev) : Nat := perNs s.frm.period

end Sys2Proof.Machine
end

