-- ==== Sys2Proof/Machine/Flags.lean ====
section
/-! DEFINITION. The registers that the host reads: every word of BAR0 as a view of the blocks, and the bytes of BAR1
and BAR2. A host write to any of them but a doorbell is discarded, so the views are computed and not stored. -/

namespace Sys2Proof.Machine

open Sys2Proof

/-! ### Codes and small quantities that registers show -/

/-- The device states as registers and messages code them (R318). -/
def devCode : DevState → Nat
  | .off => 0 | .starting => 1 | .ready => 2 | .blocked => 3 | .running => 4 | .safeStop => 5
  | .safeBlocked => 6 | .maintenance => 7

/-- The pair roles as registers and messages code them (R312). -/
def roleCode : Role → Nat
  | .solo => 0 | .active => 1 | .joining => 2 | .standby => 3 | .detached => 4

/-- A quotient whose rounding the spec does not state: one of its two neighbours (DESIGN CHOICE, log 3). -/
def openDiv (site : Nat) (a : Int) (b : Nat) : Int :=
  if b = 0 then 0
  else if a % (b : Int) = 0 then fdiv a b
  else fdiv a b + (if Config.roundUp site a b then 1 else 0)

/-- PTP time at a grid time (R340). -/
def ptpT (d : Dev) (g : Nat) : Int := g + d.time.delta

/-- T32 and W at a grid time (R340). -/
def ptpPair (d : Dev) (g : Nat) : Nat × Nat := (toBits 32 (ptpT d g), toBits 32 (fdiv (ptpT d g) (2 ^ 32)))

/-- The stamp of an instant in PTP time: T32, 0 while E = 0, and E (R340, R448). -/
def ptpStamp (d : Dev) (g : Nat) : Nat × Nat := (if d.time.epoch = 0 then 0 else (ptpPair d g).1, d.time.epoch)

/-- The plan-ready offset of a generation, in ns (R245). -/
def planReady (gen : Nat) : Nat := match gen with | 1 => 1168 | 2 => 363 | _ => 226

/-- Erased blocks that are free (R456). -/
def jnlFree (j : Jnl) : Nat := 2048 - j.blocks.length - j.dirty

/-- The journal is healthy (R456). -/
def jnlHealthy (s : Dev) : Bool :=
  s.jnl.f0 && s.jnl.f1 && s.jnl.restored && decide (8 ≤ jnlFree s.jnl) && decide (s.jnl.pwrFail ≠ 1)

/-- Level, affinity and home core of the classes, in the order of R463. -/
def classTab : List (Nat × List Nat) :=
  [(7, [2]), (7, [0, 3]), (6, [1]), (5, [0]), (4, [0]), (3, [2]), (2, [2, 3]), (1, [3]), (0, [0, 1, 2, 3])]

/-- The level of a class. -/
def classLevel (c : Nat) : Nat := ((classTab[c]?).map Prod.fst).getD 0

/-- The cores that may run a class. -/
def classCores (c : Nat) : List Nat := ((classTab[c]?).map Prod.snd).getD []

/-- The part of a bit map for which a predicate holds. -/
def mapOf (n : Nat) (f : Nat → Bool) : Nat := maskOf ((List.range n).filter f)

/-- A BFP32 word (R90). -/
def bfpWord (x : Bfp) : Nat := toBits 24 x.m * 256 + toBits 8 x.e

/-- The code of an absent entry in a 13-bit field. -/
def entNo (o : Option Nat) : Nat := o.getD 0x1FFF

/-! ### Pages -/

/-- HIF page (R386). -/
def hifReg (d : Dev) (off : Nat) : Nat :=
  let acc := d.hif.fly.filter (fun f => decide (f.basis ≠ 0))
  let by_ := fun b => (acc.filter (fun f => f.basis == b)).length
  if off = 0x000 then
    pack [(16, d.hif.downs), (8, b2n (decide (64 ≤ d.hif.fly.length))), (4, d.hif.width), (1, d.hif.speed),
          (0, b2n d.hif.linkUp)]
  else if off = 0x004 then pack [(16, by_ 3), (8, by_ 2), (0, acc.length)]
  else if 0x100 ≤ off ∧ off < 0x180 then
    let p := d.hif.pairs.getD ((off - 0x100) / 32) RPair.reset
    match off % 32 with
    | 0x08 => pack [(8, p.openErr), (4, p.gen), (1, p.vector), (0, b2n p.open_)]
    | 0x0C => p.next
    | 0x10 => pack [(16, p.rplProd), (0, p.cmdCons)]
    | 0x14 => p.acc
    | 0x18 => p.dups
    | 0x1C => pack [(24, p.badDb), (0, p.refs)]
    | _ => 0
  else 0

/-- FRM page (R37). -/
def frmReg (d : Dev) (off : Nat) : Nat :=
  let f := d.frm
  if 0x020 ≤ off ∧ off ≤ 0x038 then
    let i := (off - 0x020) / 4
    pack [(16, min 0xFFFF (f.stMax.getD i 0)), (0, min 0xFFFF (f.stLast.getD i 0))]
  else match off with
  | 0x000 => pack [(12, f.stageLate), (8, f.period), (3, b2n f.hold), (2, b2n f.ovrFault), (1, b2n f.budgetOk),
                   (0, b2n f.run)]
  | 0x008 => f.count % 2 ^ 32
  | 0x00C => f.hiLatch
  | 0x010 => pack [(16, toBits 16 f.slackMin), (0, toBits 16 f.slackLast)]
  | 0x014 => f.overruns
  | 0x018 => f.ovrLast
  | 0x01C => pack [(16, f.budget), (0, f.bound)]
  | 0x040 => f.cfgFrame
  | 0x044 => f.slackLow
  | _ => 0

/-- The word of ADC_RODr (R64). -/
def adcRodWord (d : Dev) (r : Nat) : Nat :=
  let x := d.adc.rods.getD r RodI.reset
  pack [(8, toBits 24 x.cur), (7, b2n x.valid), (6, b2n x.src), (5, b2n x.disc), (4, b2n x.clip)]

/-- ADC page (R64). -/
def adcReg (d : Dev) (off : Nat) : Nat :=
  let a := d.adc
  let fact := fun ch => Tab.get Fact.reset a.fact ch
  if off = 0x000 then
    pack [(8, mapOf 12 (fun k => tb d.pwr.on (if k < 6 then 5 else 6) && d.frm.armed)), (3, b2n a.plausAny),
          (2, b2n ((List.range 192).all (fun ch => (fact ch).cal))), (1, b2n (decide (a.calFail ≠ 0))),
          (0, b2n a.cal.isSome)]
  else if off = 0x004 then min a.calTime 0xFFFFFFFF
  else if off = 0x008 then a.clips
  else if off = 0x00C then a.measFaults
  else if 0x010 ≤ off ∧ off < 0x028 then bits (8 * (off - 0x010) + 31) (8 * (off - 0x010)) a.calFail
  else if 0x100 ≤ off ∧ off < 0x400 then
    let ch := (off - 0x100) / 4
    let x := Tab.get Avg.reset a.avg ch
    pack [(8, toBits 24 x.val), (7, b2n x.valid), (6, b2n x.clip), (5, b2n x.sat), (4, b2n x.cal),
          (3, b2n (fact ch).cal)]
  else if 0x400 ≤ off ∧ off < 0x700 then
    let f := fact ((off - 0x400) / 4)
    pack [(16, f.gain), (0, toBits 16 f.ofs)]
  else if 0x800 ≤ off ∧ off < 0x830 then adcRodWord d ((off - 0x800) / 4)
  else if 0x840 ≤ off ∧ off < 0x860 then
    let t := a.tris.getD ((off - 0x840) / 4) Tri.reset
    pack [(16, min t.m 0xFFFF), (8, min t.count 255), (7, b2n t.armed), (6, b2n t.inside), (5, b2n t.fault),
          (4, b2n t.valid)]
  else 0

/-- REF page (R88). -/
def refReg (d : Dev) (off : Nat) : Nat :=
  let going := fun (g : Grp) => match g.run with | some r => decide (r.step < r.dur) | none => false
  if off = 0x000 then
    pack [(8, mapOf 4 (fun k => decide (pv d (0x3002 + 4 * k) = 1))),
          (0, mapOf 8 (fun g => let x := d.ref.grps.getD g Grp.reset; going x || x.wait.isSome))]
  else if off = 0x004 then d.ref.late
  else if off = 0x008 then d.ref.flushed
  else if 0x010 ≤ off ∧ off < 0x050 then
    let n := d.ref.ncos.getD ((off - 0x010) / 16) Nco.reset
    match off % 16 with
    | 0 => n.phase % 2 ^ 32
    | 4 => pack [(16, b2n n.trimSat), (0, n.phase / 2 ^ 32)]
    | 8 => pack [(16, toBits 16 n.cosA), (0, toBits 16 n.sinA)]
    | _ => pack [(16, toBits 16 n.cosB), (0, toBits 16 n.cosC)]
  else if 0x100 ≤ off ∧ off < 0x180 then
    let g := d.ref.grps.getD ((off - 0x100) / 16) Grp.reset
    match off % 16, g.run with
    | 0, some r =>
      if going g then pack [(16, r.e.mask), (8, g.queue.length), (3, b2n r.late), (2, b2n g.blend), (0, 1)]
      else pack [(8, g.queue.length), (1, 1)]
    | 0, none =>
      match g.wait with
      | some q => pack [(16, q.e.mask), (8, g.queue.length), (4, 1)]
      | none => pack [(8, g.queue.length), (1, 1)]
    | 4, some r => min (r.dur - r.step) 0xFFFFFFFF
    | 8, some r => if going g then r.seq else 0
    | 8, none => (g.wait.map QEnt.seq).getD 0
    | 12, _ => g.done
    | _, _ => 0
  else if 0x200 ≤ off ∧ off < 0x300 then toBits 32 (d.ref.sps.getD ((off - 0x200) / 4) 0)
  else 0

/-- CTL page (R109). -/
def ctlReg (d : Dev) (off : Nat) : Nat :=
  let sl := fun k => d.ctl.slots.getD k Slot.reset
  let any := fun (f : Slot → Bool) => d.ctl.slots.any f
  if off = 0x000 then
    pack [(8, sumN ((List.range 32).map (fun k => if (sl k).en then pv d (0x4001 + 32 * k) else 0))),
          (4, b2n (d.ctl.rods.any RodOut.held)), (3, b2n d.ctl.applied), (2, b2n (any Slot.ovf)),
          (1, b2n (any Slot.held)), (0, b2n (any Slot.raised))]
  else if off = 0x004 then mapOf 32 (fun k => (sl k).en)
  else if off = 0x008 then mapOf 32 (fun k => (sl k).outside)
  else if off = 0x00C then mapOf 32 (fun k => (sl k).raised)
  else if off = 0x010 then mapOf 32 (fun k => (sl k).held)
  else if off = 0x014 then mapOf 32 (fun k => (sl k).clampHi || (sl k).clampLo)
  else if off = 0x018 then d.ctl.events
  else if 0x100 ≤ off ∧ off < 0x500 then
    let k := (off - 0x100) / 32
    let x := sl k
    let e := fun j => toBits 8 (x.sects.getD j Sect.reset).e
    match off % 32 with
    | 0x00 => bfpWord x.out1
    | 0x04 => bfpWord x.out0
    | 0x08 => pack [(16, min x.count 0xFFFF), (4, pv d (0x4008 + 32 * k)), (3, b2n x.raised), (2, b2n x.outside),
                    (1, b2n x.checking)]
    | 0x0C => pack [(7, b2n x.ovf), (6, b2n x.held), (5, b2n x.clampHi), (4, b2n x.clampLo), (3, b2n x.invalid),
                    (2, b2n x.aw), (1, b2n x.idle), (0, b2n x.en)]
    | 0x10 => pack [(24, e 3), (16, e 2), (8, e 1), (0, e 0)]
    | 0x14 => pack [(24, e 7), (16, e 6), (8, e 5), (0, e 4)]
    | _ => 0
  else if 0x800 ≤ off ∧ off < 0x860 then
    let r := d.ctl.rods.getD ((off - 0x800) / 8) RodOut.reset
    toBits 32 (if off % 8 = 0 then r.vref else r.bal)
  else 0

/-- The bound entries that a predicate selects, counted. -/
def cntBound (d : Dev) (f : Entry → Bool) : Nat :=
  (d.cells.filter (fun e => decide (e.2.rod < 12) && decide (e.2.lane < 24) && f e.2)).length

/-- OBS page (R156). -/
def obsReg (d : Dev) (off : Nat) : Nat :=
  let ro := fun r => d.obs.rods.getD r ObsRod.reset
  if 0x100 ≤ off ∧ off < 0x280 then
    let r := (off - 0x100) / 32
    let x := ro r
    match off % 32 with
    | 0x00 => toBits 32 x.vsum
    | 0x04 => x.energy
    | 0x08 => toBits 32 x.vmin
    | 0x0C => toBits 32 x.vmax
    | 0x10 => pack [(3, b2n (decide (pv d (0x5020 + r) ≠ 0) && !x.lost)), (2, b2n x.recov), (1, b2n x.lost),
                    (0, b2n x.valid)]
    | 0x14 => min x.innov 0xFFFFFFFF
    | 0x18 => x.impl
    | _ => pack [(16, cntBound d (fun e => e.rod == r && decide (1 ≤ e.st) && decide (e.st ≤ 4) && !e.seeded)),
                 (0, cntBound d (fun e => e.rod == r && decide (0 < e.missed)))]
  else match off with
  | 0x000 => pack [(12, mapOf 12 (fun r => (ro r).lost || (ro r).recov)), (0, mapOf 12 (fun r => (ro r).valid))]
  | 0x004 => d.obs.applied
  | 0x008 => d.obs.seededN
  | 0x00C => d.obs.implN
  | 0x010 => d.obs.stale
  | 0x014 => d.obs.reseeds
  | 0x018 => d.obs.clBlocks
  | 0x01C => d.obs.clRej
  | 0x020 => pack [(16, cntBound d (fun e => e.wear == 2)), (0, cntBound d (fun e => e.wear == 1))]
  | _ => 0

/-- RNK page, with the summary of the cell table (R135, R178). -/
def rnkReg (d : Dev) (off : Nat) : Nat :=
  let ro := fun r => d.rnk.rods.getD r RnkRod.reset
  let inSt := fun n => cntBound d (fun e => e.st == n)
  if 0x100 ≤ off ∧ off < 0x400 then
    let x := ro ((off - 0x100) / 64)
    match off % 64 with
    | 0x00 => pack [(8, toBits 24 x.cur), (2, b2n x.valid), (1, b2n x.rest), (0, b2n x.neg)]
    | 0x04 => pack [(16, x.np), (0, x.nn)]
    | 0x08 => pack [(16, x.npA), (0, x.nnA)]
    | 0x0C => pack [(16, x.ps), (15, b2n x.kept), (0, entNo x.part)]
    | 0x10 => pack [(16, x.swaps), (0, x.edges)]
    | 0x14 => pack [(16, entNo x.worst), (0, entNo x.best)]
    | 0x18 => x.swapsN
    | 0x1C => x.refusedN
    | 0x20 => pack [(4, b2n x.ovr), (3, b2n x.short), (2, b2n x.limit), (1, b2n x.suspIn), (0, b2n x.rebuilt)]
    | _ => 0
  else if 0x840 ≤ off ∧ off < 0x900 then
    let x := d.rnk.spare.getD ((off - 0x840) / 16) Spare.reset
    match off % 16 with
    | 0 => pack [(16, x.bound), (0, x.avail)]
    | 4 => pack [(16, toBits 16 x.s), (7, b2n x.pend), (6, b2n x.ceil), (5, b2n x.short), (4, b2n x.exh),
                 (3, b2n x.margin), (2, b2n x.low), (1, b2n x.sup)]
    | 8 => x.vt
    | _ => pack [(16, x.fb), (0, x.avail - x.fb)]
  else match off with
  | 0x000 => pack [(12, mapOf 12 (fun r => (ro r).rest)), (0, mapOf 12 (fun r => (ro r).neg))]
  | 0x004 => d.rnk.swaps
  | 0x008 => d.rnk.refused
  | 0x00C => d.rnk.shorts
  | 0x800 => pack [(16, inSt 2), (0, cntBound d (fun _ => true))]
  | 0x804 => pack [(16, inSt 3), (0, inSt 1)]
  | 0x808 => pack [(16, inSt 6), (0, inSt 5)]
  | 0x80C => pack [(16, inSt 4), (0, inSt 0)]
  | 0x810 => d.rnk.nvErr
  | 0x814 => d.rnk.chg
  | 0x818 => d.rnk.batchFrame
  | _ => 0

/-- The number of the frame that the last rim ended. -/
def lastFrame (d : Dev) : Nat := if d.frm.rims ≤ 1 then 0 else (d.frm.count + 2 ^ 48 - 1) % 2 ^ 48

/-- FIR page (R206). -/
def firReg (d : Dev) (off : Nat) : Nat :=
  let ro := fun r => d.fir.rods.getD r FirRod.reset
  if 0x100 ≤ off ∧ off < 0x280 then
    let x := ro ((off - 0x100) / 32)
    match off % 32 with
    | 0x00 => toBits 32 x.vref
    | 0x04 => x.vc % 2 ^ 24
    | 0x08 => toBits 32 x.t
    | 0x0C => toBits 32 (satS 32 (rdiv x.carry 16))
    | 0x10 => pack [(31, b2n x.edge), (30, b2n x.rise), (16, x.off % 2 ^ 14), (14, x.ps), (0, entNo x.part)]
    | 0x14 => x.w % 2 ^ 18
    | 0x18 => pack [(31, b2n x.depEdge), (30, b2n x.depDel), (16, x.depOff % 2 ^ 14), (0, entNo x.dep)]
    | _ => pack [(9, b2n x.env), (8, b2n x.vcHeld), (7, b2n x.short), (6, b2n x.limHi), (5, b2n x.limLo),
                 (4, b2n x.cSat), (3, b2n x.supLo), (2, b2n x.supHi), (1, b2n x.delayed), (0, b2n x.noPart)]
  else match off with
  | 0x000 => pack [(16, mapOf 12 (fun r => (ro r).ovr)), (12, lastFrame d % 16),
                   (0, mapOf 12 (fun r => (ro r).limHi || (ro r).limLo))]
  | 0x004 => pack [(16, min d.fir.txMin 0xFFFF), (0, d.fir.tx)]
  | 0x008 => d.fir.clips
  | 0x00C => d.fir.supp
  | 0x010 => d.fir.delayed
  | 0x014 => d.fir.carrySats
  | 0x018 => pack [(1, d.fir.tests.length), (0, b2n (!d.fir.cells.isEmpty))]
  | 0x01C => d.fir.testLate
  | _ => 0

/-- LNK page (R233). -/
def lnkReg (d : Dev) (off : Nat) : Nat :=
  let ln := fun k => d.lnk.lanes.getD k LaneS.reset
  if 0x100 ≤ off ∧ off < 0x280 then
    let l := ln ((off - 0x100) / 16)
    match off % 16 with
    | 0 => pack [(24, l.cause), (16, l.gen), (12, b2n l.noLight), (11, b2n l.mxLock), (10, b2n l.txInv),
                 (9, b2n l.rxInv), (8, b2n l.laser), (4, min l.retries 15), (0, l.st)]
    | 4 => if l.adopted then pack [(16, l.fom), (3, 1), (0, l.row)] else 0
    | 8 => l.errs
    | _ => pack [(16, (l.pc.filter (fun e => e.2.valid && decide (0 < e.2.miss))).length),
                 (0, (l.pc.filter (fun e => e.2.valid)).length)]
  else if 0x400 ≤ off ∧ off < 0x700 then
    let m := (ln ((off - 0x400) / 32)).foms.getD (off % 32 / 4) FomRow.reset
    pack [(31, b2n m.measured), (30, b2n m.dsErr), (29, b2n m.few), (16, m.fom), (8, m.w), (0, m.h)]
  else match off with
  | 0x000 => mapOf 24 (fun k => decide ((ln k).st = 6) || decide ((ln k).st = 7))
  | 0x004 => mapOf 24 (fun k => decide ((ln k).st = 8) && (ln k).held)
  | 0x008 => mapOf 24 (fun k => (ln k).light)
  | 0x00C => d.lnk.downs
  | _ => 0

/-- CEV page (R276). -/
def cevReg (d : Dev) (off : Nat) : Nat :=
  if 0x100 ≤ off ∧ off < 0x400 then
    let k := (off - 0x100) / 32
    let c := d.cev.lanes.getD k CevLane.reset
    match off % 32 with
    | 0x00 =>
      match c.weave with
      | some w => pack [(28, w.wtag), (24, w.wd), (16, w.k), (8, w.fc), (0, w.fc + w.wd)]
      | none => 0
    | 0x04 => pack [(16, planReady (d.lnk.lanes.getD k LaneS.reset).gen), (0, pv d (0x9000 + k))]
    | 0x08 => toBits 16 c.latDev
    | 0x0C => c.reports
    | 0x10 => c.bad
    | 0x14 => c.skips
    | 0x18 => pack [(16, c.failed), (0, c.done)]
    | _ => pack [(16, cntBound d (fun e => e.lane == k && e.seen.isSome && !e.ranged)), (0, c.nextSlot.getD 0xFFFF)]
  else match off with
  | 0x000 => d.cev.discWin
  | 0x004 => d.cev.unknown
  | 0x008 => d.cev.tripSets
  | 0x00C => d.cev.abandoned
  | _ => 0

/-- TRP/SBK page (R310). -/
def trpReg (d : Dev) (off : Nat) : Nat :=
  let t := d.trp
  let b := d.sbk
  if 0x040 ≤ off ∧ off < 0x0C0 then
    let i := (off - 0x040) / 8
    let x := t.ins.getD i TripIn.reset
    let c := t.cfg.getD i TripCfg.reset
    if off % 8 = 0 then x.t % 2 ^ 32
    else pack [(24, x.seq), (3, b2n x.noset), (2, b2n c.esc), (0, c.act)]
  else if 0x100 ≤ off ∧ off < 0x160 then
    let x := b.rods.getD ((off - 0x100) / 8) SbkRod.reset
    if off % 8 = 0 then pack [(16, min x.bound 0xFFFF), (0, min x.cur 0xFFFF)] else min x.h 0xFFFFFFFF
  else match off with
  | 0x000 => pack [(16, t.latch), (0, t.level)]
  | 0x004 => pack [(24, t.seq), (0, pack ((List.range 12).map (fun r => (2 * r, t.act.getD r 0))))]
  | 0x008 => t.events
  | 0x00C => t.refused
  | 0x010 => pack [(12, b.step), (5, b2n b.vrestHeld), (4, b2n b.tail), (3, b2n b.viol), (2, b2n t.tgLatch),
                   (1, b2n t.sbLatch), (0, b2n (decide (d.st = .safeStop)))]
  | 0x014 => pack [(16, b.detail % 256), (8, b.stopCause), (0, b.blockCause)]
  | 0x018 => b.entry % 2 ^ 32
  | 0x01C => pack [(16, b.lastSeq), (4, t.tgMask), (3, b2n b.armed), (2, b2n (b.silent.getD 1 false)),
                   (1, b2n (b.silent.getD 0 false)), (0, pv d 0xA200)]
  | 0x020 => pack [(16, b.matched), (0, b.bad)]
  | 0x024 => pack [(24, b.loss), (16, b.lane), (8, b.dis), (0, b.silentN)]
  | _ => 0

/-- PAIR page (R337). -/
def pairReg (d : Dev) (off : Nat) : Nat :=
  let p := d.pair
  if 0x100 ≤ off ∧ off < 0x160 then
    let l := p.lanes.getD ((off - 0x100) / 4) PLane.reset
    pack [(31, b2n l.skew), (30, b2n l.mxSlow), (12, toBits 12 l.delta), (0, min l.mxPath 0xFFF)]
  else match off with
  | 0x000 => pack [(15, b2n p.gridOk), (14, b2n p.ptnrPres), (13, b2n p.brdPres),
                   (12, b2n (decide (p.role = .active) && decide (p.ptnrRole = 3) && p.ptnrSync && p.links.any id)),
                   (11, b2n (p.links.getD 1 false)), (10, b2n (p.links.getD 0 false)), (9, b2n p.hover),
                   (8, b2n p.synced), (5, p.ptnrRole), (4, b2n p.sys), (0, roleCode p.role)]
  | 0x004 => pack [(16, p.losses), (3, b2n p.mxLast), (2, b2n p.linkLast), (0, min p.missed 2)]
  | 0x008 => p.takeovers
  | 0x00C => p.handovers
  | 0x010 => p.last % 2 ^ 32
  | 0x014 => pack [(16, toBits 16 (satS 16 p.offset)), (0, toBits 16 (satS 16 p.cable))]
  | 0x018 => pack [(16, min (d.hif.fly.filter (fun f => f.mirror)).length 64), (0, p.mirT)]
  | 0x01C => pack [(16, p.diffTable), (0, p.diffRod)]
  | 0x020 => pack [(16, p.bad), (0, p.downs)]
  | 0x024 => pack [(8, min p.progress 0xFFFFFF), (0, p.step)]
  | _ => 0

/-- The master that a domain follows. -/
def TDom.gm (t : TDom) : Option MasterDs := t.master.getD t.port none

/-- The mean of a port's last peer delays (R345); its rounding is open (DESIGN CHOICE, log 3). -/
def pdMean (p : TPort) : Option Int := match p.pd with | [] => none | l => some (openDiv 5 (sumI l) l.length)

/-- A mean peer delay as TIME_DOMd_PDELAY shows it. -/
def pdField (d : Dev) (p : Nat) : Nat :=
  match pdMean (d.time.ports.getD p TPort.reset) with | some x => satU 16 x | none => 0xFFFF

/-- TIME page (R364). -/
def timeReg (d : Dev) (off : Nat) : Nat :=
  let t := d.time
  let dom := fun k => t.doms.getD k TDom.reset
  let port := fun k => t.ports.getD k TPort.reset
  let acting := decide (d.pair.role = .solo) || decide (d.pair.role = .active)
  if 0x040 ≤ off ∧ off < 0x060 then
    let k := (off - 0x040) / 16
    let x := dom k
    let num := pv d (0xC000 + k)
    match off % 16 with
    | 0 => pack [(24, if num = 0xFFFF then 0xFF else num), (16, (x.gm.map MasterDs.cls).getD 0xFF),
                 (8, min x.ovr 255), (3, x.port),
                 (2, match (dom 0).theta, (dom 1).theta with
                     | some a, some b => b2n (decide ((a - b).natAbs ≤ pv d 0xC003))
                     | _, _ => 0),
                 (1, b2n x.valid), (0, b2n (decide (num ≠ 0xFFFF)))]
    | 4 => toBits 32 (satS 32 (x.theta.getD 0))
    | 8 => pack [(16, pdField d 1), (0, pdField d 0)]
    | _ => (x.gm.map MasterDs.identity).getD 0 % 2 ^ 32
  else if 0x080 ≤ off ∧ off < 0x0C0 then
    let i := (off - 0x080) / 8
    let o := d.tout.getD i TOut.reset
    if off % 8 = 0 then
      pack [(16, o.pulses), (8, o.lates), (7, b2n o.late), (6, b2n o.ends.isSome),
            (5, b2n (decide (i = 7) && decide (pv d 0xB000 = 1))), (4, b2n o.ptp), (2, o.mode), (1, b2n o.armed),
            (0, b2n o.fired)]
    else o.last
  else match off with
  | 0x000 => pack [(24, t.epoch), (15, b2n (decide (t.eps = 0))), (14, b2n (decide (t.s1 ≠ 0))),
                   (13, b2n (decide (t.slew ≠ 0))), (12, b2n t.held.isSome), (11, b2n t.holdover),
                   (10, b2n (decide (t.epoch ≠ 0))), (7, b2n (dom 1).valid), (6, b2n (dom 0).valid), (3, t.inUse),
                   (2, b2n (!acting)), (1, b2n t.freqLim)]
  | 0x004 => (ptpPair d d.frm.g).1
  | 0x008 => (ptpPair d d.frm.g).2
  | 0x00C => d.frm.g % 2 ^ 32
  | 0x010 => d.frm.g / 2 ^ 32 % 2 ^ 32
  | 0x014 => pack [(16, toBits 16 t.eps), (8, min t.m 255)]
  | 0x018 => toBits 32 t.y
  | 0x01C => pack [(16, t.steps), (0, t.switches)]
  | 0x020 => t.old.1
  | 0x024 => t.old.2
  | 0x028 => t.new.1
  | 0x02C => t.new.2
  | 0x030 => pack [(16, t.discard), (3, b2n (port 1).sgmii), (2, b2n (port 0).sgmii), (1, b2n (port 1).up),
                   (0, b2n (port 0).up)]
  | _ => 0

/-- PLL page (R364). -/
def pllReg (d : Dev) (off : Nat) : Nat :=
  let p := d.pll
  match off with
  | 0x000 => pack [(18, p.band), (16, p.refMode), (11, b2n p.syncMiss), (10, b2n p.syncDone), (9, b2n p.armed),
                   (3, p.outs), (0, b2n p.lock)]
  | 0x004 => pack [(16, p.unlocks), (0, p.locks)]
  | 0x008 => pack [(16, p.lockUs), (0, p.ignored)]
  | _ => 0

/-- FLT page (R424). -/
def fltReg (d : Dev) (off : Nat) : Nat :=
  let f := d.flt
  if 0x100 ≤ off ∧ off < 0x154 then
    let b := (off - 0x100) / 4
    mapOf 32 (fun k => f.active.any (fun a => a.blk == b && a.kind == k))
  else match off with
  | 0x000 => pack [(16, min f.active.length 0xFFFF), (6, b2n (decide (f.lines ≠ 0))),
                   (5, b2n (decide (64 ≤ f.table.length))), (4, b2n (decide (256 ≤ f.queue.length))),
                   (3, b2n f.faultN), (0, maxN (f.active.map Active.sev))]
  | 0x004 => pack [(16, f.queue.length), (0, f.table.length)]
  | 0x008 => f.lost
  | 0x00C => f.total
  | 0x010 => f.last % 2 ^ 32
  | 0x014 => f.last / 2 ^ 32
  | 0x018 => pack [(22, f.fatalSrc), (14, f.fatalKind), (0, f.lines)]
  | 0x01C => f.cleared
  | _ => 0

/-- TRC page (R441). -/
def trcReg (d : Dev) (off : Nat) : Nat :=
  let t := d.trc
  match off with
  | 0x000 => pack [(16, t.doneMap), (12, t.seg), (8, t.src), (7, b2n (tb t.flags 0)), (0, t.st)]
  | 0x004 => t.missed
  | 0x008 => t.captures
  | 0x00C => pack [(29, b2n (decide (pv d 0xF010 < 2 ^ t.log2d))), (25, t.log2d), (0, t.rate % 2 ^ 25)]
  | 0x010 => t.written
  | 0x014 => t.maskViol
  | 0x018 => t.trigG % 2 ^ 32
  | 0x01C => t.trigG / 2 ^ 32
  | 0x020 => pack [(16, t.armIgn), (8, t.fires), (0, t.level)]
  | _ => 0

/-- EVR page (R460). -/
def evrReg (d : Dev) (off : Nat) : Nat :=
  match off with
  | 0x000 => pack [(17, d.evr.queue.length), (16, b2n d.evr.firstFull), (0, d.evr.first)]
  | 0x004 => d.evr.num
  | 0x008 => d.evr.lost
  | _ => 0

/-- JNL page (R460). The rounding of FILL is open (DESIGN CHOICE, log 3). -/
def jnlReg (d : Dev) (off : Nat) : Nat :=
  let j := d.jnl
  match off with
  | 0x000 => pack [(24, (openDiv 11 (100 * j.blocks.length) 2048).toNat), (7, b2n (jnlHealthy d)),
                   (6, b2n (decide (j.pwrFail ≠ 0))), (5, b2n j.compact), (4, b2n j.full), (3, b2n j.f1), (2, b2n j.f0),
                   (1, b2n j.restored)]
  | 0x004 => j.committed
  | 0x008 => j.ckpt
  | 0x00C => pack [(16, min j.restoreMs 0xFFFF), (0, j.boot)]
  | 0x010 => pack [(16, j.err1), (0, j.err0)]
  | _ => 0

/-- SCH page (R472). -/
def schReg (d : Dev) (off : Nat) : Nat :=
  let lv := fun l => d.sch.lvls.getD l Lvl.reset
  if 0x010 ≤ off ∧ off < 0x030 then
    let c := d.sch.cores.getD ((off - 0x010) / 8) Core.reset
    if off % 8 = 0 then
      match c.task with
      | some t => pack [(16, c.preempts), (8, t.cls), (5, classLevel t.cls), (0, 1)]
      | none => pack [(16, c.preempts), (8, 0xFF)]
    else pack [(16, c.loadMax), (0, c.load)]
  else if 0x040 ≤ off ∧ off < 0x080 then
    let l := lv ((off - 0x040) / 8)
    if off % 8 = 0 then pack [(16, l.depthMax), (0, l.ready.length + l.spill.length)]
    else pack [(16, l.waitMax), (0, l.wait)]
  else match off with
  | 0x000 => pack [(12, sumN (d.sch.lvls.map (fun l => l.ready.length))), (0, mapOf 8 (fun l => (lv l).bp))]
  | 0x004 => pack [(16, d.sch.spillMax), (0, sumN (d.sch.lvls.map (fun l => l.spill.length)))]
  | 0x008 => d.sch.stalls
  | 0x00C => pack [(16, d.sch.wdogCore), (0, d.sch.wdogTime)]
  | _ => 0

/-- PWR page (R493). -/
def pwrReg (d : Dev) (off : Nat) : Nat :=
  let p := d.pwr
  match off with
  | 0x000 => pack [(16, p.on), (4, p.moving), (0, p.step)]
  | 0x004 => pack [(17, b2n p.halted), (16, b2n p.romBad), (8, p.fatalRun % 256), (0, p.lastCause)]
  | 0x008 => pack [(16, p.fatals), (0, p.resets)]
  | 0x00C => pack [(9, b2n d.pair.brdPres), (8, b2n p.pwrFail), (0, p.rails)]
  | 0x010 => pack [(16, toBits 16 p.tjMax), (0, toBits 16 p.tj)]
  | 0x014 => pack [(16, min p.readyMs 0xFFFF), (0, min p.rimMs 0xFFFF)]
  | _ => 0

/-- The silicon revision of this manual and its native level (R488). -/
def revLetter : Nat := 0x41
def nativeLevel : Nat := 0x4100

/-- ID page (R493). -/
def idReg (d : Dev) (off : Nat) : Nat :=
  match off with
  | 0x000 => 0x61441F3B
  | 0x004 => pack [(24, revLetter), (16, Config.variant % 256), (0, Config.firmware % 2 ^ 16)]
  | 0x008 => pack [(16, nativeLevel), (0, d.pwr.compat)]
  | 0x00C => Config.uid % 2 ^ 32
  | 0x010 => Config.uid / 2 ^ 32 % 2 ^ 32
  | 0x014 => Config.uid / 2 ^ 64 % 2 ^ 32
  | 0x018 => Config.mac % 2 ^ 32
  | 0x01C => Config.mac / 2 ^ 32 % 2 ^ 16
  | _ => 0

/-- Word `w` of the mirror of an entry (R113). -/
def cellWord (e : Entry) (w : Nat) : Nat :=
  match w with
  | 0 => e.id % 2 ^ 32
  | 1 => pack [(28, e.rod), (27, b2n e.fb), (24, e.disp), (20, e.hw), (16, e.gen), (0, e.id / 2 ^ 32)]
  | 2 => pack [(16, e.minInt), (8, e.slot), (0, e.lane)]
  | 3 => pack [(22, e.wear), (0, e.cNom)]
  | 4 => e.cEst
  | 5 => e.edges % 2 ^ 32
  | 6 => pack [(8, e.hard), (0, e.edges / 2 ^ 32)]
  | 7 => e.nvCrc
  | 8 => pack [(24, min e.missed 255), (16, e.cause), (8, e.skips), (7, b2n e.part), (4, e.code), (0, e.st)]
  | 9 => pack [(16, min e.refused 0xFFFF), (0, e.delay)]
  | 10 => if e.seeded then toBits 32 (satS 32 (rshr e.v 16)) else 0
  | 11 => e.swCount
  | 12 => e.rptFrame % 2 ^ 32
  | 13 => pack [(16, e.rptNs), (0, e.rptFrame / 2 ^ 32)]
  | 14 => (e.lastEdge.getD 0) % 2 ^ 32
  | _ => pack [(16, e.nvSeq), (0, e.fbSkips)]

/-- The word at a BAR0 offset; a doorbell, a reserved offset and an offset outside every page read as 0. (DEDUCED, log 48.) -/
def bar0 (d : Dev) (off : Nat) : Nat :=
  if 0x40000 ≤ off ∧ off < 0xA0000 then
    cellWord (Tab.get Entry.reset d.cells ((off - 0x40000) / 64)) (off % 64 / 4)
  else
    let o := off % 0x1000
    match off / 0x1000 with
    | 0x00 => hifReg d o
    | 0x01 => frmReg d o
    | 0x02 => adcReg d o
    | 0x03 => refReg d o
    | 0x04 => ctlReg d o
    | 0x05 => obsReg d o
    | 0x06 => rnkReg d o
    | 0x07 => firReg d o
    | 0x08 => lnkReg d o
    | 0x09 => cevReg d o
    | 0x0A => trpReg d o
    | 0x0B => pairReg d o
    | 0x0C => timeReg d o
    | 0x0D => pllReg d o
    | 0x0E => fltReg d o
    | 0x0F => trcReg d o
    | 0x10 => evrReg d o
    | 0x11 => jnlReg d o
    | 0x12 => schReg d o
    | 0x13 => pwrReg d o
    | 0x14 => idReg d o
    | _ => 0

/-- What the host reads at a BAR0 offset: the publication of the last rim, but for the ring indices and the ID page,
which follow at once (R386, R493). (DEDUCED, log 55.) -/
def State.bar0 (s : State) (off : Nat) : Nat :=
  if off / 0x1000 = 0x14 then idReg s.toDev (off % 0x1000)
  else if 0x100 ≤ off ∧ off < 0x180 ∧ off % 32 = 0x10 then hifReg s.toDev off
  else if off = 0x100C then s.frm.hiLatch
  else Machine.bar0 s.pub off

/-- A byte of BAR1, the recorder memory (R429). -/
def State.bar1 (s : State) (a : Nat) : Byte := Memory.read s.trc.mem a

/-- A byte of BAR2, the event memory (R447). -/
def State.bar2 (s : State) (a : Nat) : Byte := Memory.read s.evr.mem a

end Sys2Proof.Machine
end

