-- ==== Sys2Proof/Machine/Ops.lean ====
section
/-! DEFINITION. The named operations that the meanings share: parameters in force, entries of the cell table, fault
messages, event triggers, journal records, replies. -/

namespace Sys2Proof.Machine

open Sys2Proof

/-! ### Shorthands -/

/-- A parameter in force, as a natural. -/
def State.p (s : State) (id : Nat) : Nat := pv s.toDev id

/-- A parameter in force, as an integer. -/
def State.pI (s : State) (id : Nat) : Int := pvI s.toDev id

/-- A parameter that names something. -/
def State.pO (s : State) (id : Nat) : Option Nat := pvOpt s.toDev id

/-- ACTIVE or SOLO: the role that drives the converter and executes commands (R312). -/
def acts (s : State) : Bool := decide (s.pair.role = .solo) || decide (s.pair.role = .active)

/-- The partner is STANDBY with SYNCED = 1 (R324, R381). -/
def partnerSynced (s : State) : Bool :=
  decide (s.pair.role = .active) && decide (s.pair.ptnrRole = 3) && s.pair.ptnrSync && s.pair.links.any id

/-- A fresh free value: the counter advances, and the value of `Config.freeNat` at it is the open value (DESIGN CHOICE, log 2). -/
def State.draw (s : State) : State := { s with free := s.free + 1 }

/-- The free value that the present counter names. -/
def State.freeV (s : State) : Nat := Config.freeNat s.free

/-- Something leaves the device. (DESIGN CHOICE, log 49.) -/
def State.emit (o : Output) (s : State) : State := { s with out := s.out ++ [o] }

/-- A message on the partner links, under the next message number (R316). Nothing leaves a device that is dark or
without a lock on either link. -/
def State.tell (m : PMsg) (s : State) : State :=
  if s.pair.dark || s.pwr.dark || !s.pair.links.any id then s
  else { s with
    out := s.out ++ [.partner s.pair.mseqTx s.frm.count m]
    pair := { s.pair with mseqTx := (s.pair.mseqTx + 1) % 2 ^ 16 } }

/-- The model's latest instant of the grid. (DESIGN CHOICE, log 58.) -/
def State.at (t : Nat) (s : State) : State := { s with now := max s.now t }

/-! ### Entries of the cell table -/

/-- Entry `k`. -/
def State.ent (s : State) (k : Nat) : Entry := Tab.get Entry.reset s.cells k

/-- Entry `k` written. -/
def State.setEnt (k : Nat) (e : Entry) (s : State) : State := { s with cells := Tab.set Entry.reset k e s.cells }

/-- Entry `k` changed. -/
def State.modEnt (k : Nat) (f : Entry → Entry) (s : State) : State := s.setEnt k (f (s.ent k))

/-- Every listed entry changed; entries that become equal to the reset entry are not listed. -/
def mapCells (f : Nat → Entry → Entry) (t : Tab Entry) : Tab Entry :=
  (t.map (fun e => (e.1, f e.1 e.2))).filter (fun e => decide (e.2 ≠ Entry.reset))

/-- Bound (R122). -/
def Entry.bound (e : Entry) : Bool := decide (e.rod < 12) && decide (e.lane < 24)

/-- The bound entries. -/
def State.boundL (s : State) : List (Nat × Entry) := s.cells.filter (fun e => e.2.bound)

/-- The bound entries of a rod. -/
def State.rodL (s : State) (r : Nat) : List (Nat × Entry) := s.cells.filter (fun e => e.2.bound && e.2.rod == r)

/-- The bound entries of a lane. -/
def State.laneL (s : State) (k : Nat) : List (Nat × Entry) := s.cells.filter (fun e => e.2.bound && e.2.lane == k)

/-- The bound entry at (lane, slot). -/
def State.entAt (s : State) (lane slot : Nat) : Option (Nat × Entry) :=
  s.cells.find? (fun e => e.2.bound && e.2.lane == lane && e.2.slot == slot)

/-- Bytes 0x00–0x1B of an entry (R113). -/
def Entry.nvHead (e : Entry) : List Byte :=
  leBytes 4 (e.id % 2 ^ 32) ++
  leBytes 4 (pack [(28, e.rod), (27, b2n e.fb), (24, e.disp), (20, e.hw), (16, e.gen), (0, e.id / 2 ^ 32)]) ++
  leBytes 4 (pack [(16, e.minInt), (8, e.slot), (0, e.lane)]) ++
  leBytes 4 (pack [(22, e.wear), (0, e.cNom)]) ++
  leBytes 4 e.cEst ++ leBytes 4 (e.edges % 2 ^ 32) ++ leBytes 4 (pack [(8, e.hard), (0, e.edges / 2 ^ 32)])

/-- The non-volatile part, bytes 0x00–0x1F (R113). -/
def Entry.nvBytes (e : Entry) : List Byte := e.nvHead ++ leBytes 4 e.nvCrc

/-- The entry that a non-volatile part spells, the volatile part at its reset values (R113, R133). -/
def Entry.ofNv (b : List Byte) : Entry :=
  let w1 := fld b 4 4
  let w2 := fld b 8 4
  let w3 := fld b 12 4
  let w6 := fld b 24 4
  { Entry.reset with
    id := fld b 0 4 + 2 ^ 32 * bits 15 0 w1, rod := bits 31 28 w1, fb := tb w1 27, disp := bits 25 24 w1,
    hw := bits 23 20 w1, gen := bits 19 16 w1, minInt := bits 31 16 w2, slot := bits 15 8 w2, lane := bits 7 0 w2,
    wear := bits 23 22 w3, cNom := bits 15 0 w3, cEst := fld b 16 4,
    edges := fld b 20 4 + 2 ^ 32 * bits 7 0 w6, hard := bits 31 8 w6, nvCrc := fld b 28 4 }

/-- The checksum and NV_SEQ after a change of the non-volatile part (R112, R114). -/
def Entry.touch (e : Entry) : Entry := { e with nvCrc := crc32c e.nvHead, nvSeq := (e.nvSeq + 1) % 2 ^ 16 }

/-- The levels' code for block given by a cell's standing: bypass for BYPASSED and FAILED (R116). -/
def standCode (st : Nat) : Nat := if st = 5 ∨ st = 6 then 5 else 4

/-! ### Event triggers (R444–R446) -/

/-- The words that a snapshot list copies from the publication in force (R445). -/
def snapWords (s : State) (l : Nat) : List Nat :=
  let offs := (List.range 48).map (fun i => s.p (0x0100 + 48 * l + i))
  (offs.takeWhile (fun o => o ≠ 0xFFFFFFFF)).map (fun o => bar0 s.pub o)

/-- A trigger's record content, taken at the trigger (R448). -/
def mkTrig (s : State) (typ list : Nat) (cause data : List Nat) (t : Nat) : Trig :=
  let e := ptpStamp s.toDev t
  { typ := typ, list := list, cause := cause, data := data, g := t, t32 := e.1, epoch := e.2, dev := devCode s.st,
    frame := s.frm.count }

/-! ### Fault messages (R412–R421) -/

/-- SOURCE of a message: block code and instance. -/
def FMsg.src (m : FMsg) : Nat := m.blk * 32 + m.inst

/-- The 64 bits of a message (R412). -/
def FMsg.word (m : FMsg) : Nat :=
  pack [(54, m.src % 1024), (46, m.kind % 256), (44, m.sev % 4), (12, m.detail % 2 ^ 32), (0, m.frame % 4096)]

/-- The message that 64 bits spell (R412). -/
def FMsg.ofWord (w : Nat) : FMsg :=
  { blk := bits 63 59 w, inst := bits 58 54 w, kind := bits 53 46 w, sev := bits 45 44 w, detail := bits 43 12 w,
    frame := bits 11 0 w }

/-- Whether a message's key is in the active set. -/
def isActive (s : State) (blk inst kind : Nat) : Bool :=
  s.flt.active.any (fun a => a.blk == blk && a.inst == inst && a.kind == kind)

/-- The record path (R419). -/
def fltRecord (m : FMsg) (fr : Nat) (d : Flt) : Flt :=
  let key := fun c : Coal => c.first.blk == m.blk && c.first.inst == m.inst && c.first.kind == m.kind
  if d.queue.length < 256 then { d with queue := d.queue ++ [(m, fr)] }
  else if d.table.any key then
    { d with table := d.table.map (fun c =>
        if key c then { c with count := satAdd 32 c.count 1, lastFrame := fr, lastDetail := m.detail } else c) }
  else if d.table.length < 64 then
    { d with table := d.table ++ [{ first := m, count := 1, firstFrame := fr, lastFrame := fr,
                                    lastDetail := m.detail }] }
  else { d with lost := satAdd 32 d.lost 1 }

/-- What the collector does with a message but for the event record (R413, R416–R419), and whether the message makes
its fault active under EVR = 1. -/
def fltCore (m : FMsg) (fr : Nat) (s : State) : State × Bool :=
  let react := s.p (0xE000 + 32 * m.blk + m.kind)
  let latched := decide (2 ≤ m.sev) || tb react 2
  let was := isActive s m.blk m.inst m.kind
  let d := fltRecord m fr s.flt
  let d := { d with
    total := satAdd 32 d.total 1, last := m.word,
    active := if latched && !was then
        d.active ++ [{ blk := m.blk, inst := m.inst, kind := m.kind, sev := m.sev }] else d.active,
    action := if (!latched || !was) && acts s then max d.action (react % 4) else d.action }
  ({ s with flt := d }, latched && !was && tb react 3)

/-- The collector's own message of a dropped trigger (R446). -/
def lostMsg (s : State) : FMsg := { blk := 0x10, inst := 0, kind := 1, sev := 1, detail := 0, frame := s.frm.count % 4096 }

/-- A trigger queued; of TYPE 0 and 1 it is dropped and counted when the queue is full, of TYPE 2 and 3 its source
holds it (R446). -/
def evrPush (tr : Trig) (s : State) : State :=
  if s.evr.queue.length < 64 then
    { s with evr := { s.evr with queue := s.evr.queue ++ [tr], dropRun := false } }
  else if tr.typ = 2 ∨ tr.typ = 3 then { s with evr := { s.evr with held := s.evr.held ++ [tr] } }
  else
    let s1 := { s with evr := { s.evr with lost := satAdd 32 s.evr.lost 1, dropRun := true } }
    if s.evr.dropRun then s1
    else
      let r := fltCore (lostMsg s1) s1.frm.count s1
      if r.2 then { r.1 with evr := { r.1.evr with lost := satAdd 32 r.1.evr.lost 1 } } else r.1

/-- A fault message taken in by the collector (R413). -/
def fltTake (m : FMsg) (fr : Nat) (s : State) : State :=
  let r := fltCore m fr s
  if r.2 then
    let l := s.p (0x01C0 + m.blk)
    evrPush (mkTrig r.1 0 l [m.word % 2 ^ 32, m.word / 2 ^ 32] (snapWords r.1 l) r.1.now) r.1
  else r.1

/-- A block raises a fault of given severity (R412). -/
def raiseSev (blk inst kind sev detail : Nat) (s : State) : State :=
  fltTake { blk := blk, inst := inst, kind := kind, sev := sev, detail := detail, frame := s.frm.count % 4096 }
    s.frm.count s

/-- The severity code of a kind: its own, error where a rule decides (R414). -/
def sevCode (blk kind : Nat) : Nat :=
  match kindInfo blk kind with
  | some (.i, _) => 0
  | some (.w, _) => 1
  | some (.f, _) => 3
  | _ => 2

/-- A block raises a fault of its kind's severity. -/
def raise (blk inst kind detail : Nat) (s : State) : State := raiseSev blk inst kind (sevCode blk kind) detail s

/-- A raise under a condition. -/
def raiseIf (c : Bool) (blk inst kind detail : Nat) (s : State) : State :=
  if c then raise blk inst kind detail s else s

/-! ### Journal records (R452–R456) -/

/-- Payload bytes of a sub-record, its header included (R454). -/
def JChange.len : JChange → Nat
  | .param es => 8 + 8 + 16 * es.length
  | .cellNv _ _ => 8 + 40
  | .adcFact _ => 8 + 768

/-- Payload bytes of a record (R454). -/
def JPayload.len : JPayload → Nat
  | .param es => 8 + 16 * es.length
  | .cellNv _ _ => 40
  | .batch _ _ es => 8 + 32 * es.length
  | .adcFact _ => 768
  | .command _ _ _ p => 16 + p.length
  | .completion _ _ _ _ _ cs => 80 + sumN (cs.map JChange.len)
  | .event _ => 256
  | .evrClear => 0
  | .session _ _ _ => 8
  | .boot _ _ _ => 6
  | .shutdown _ => 1
  | .ckptBegin => 0
  | .ckptEnd _ => 4

/-- Records of the urgent head (R452). -/
def JPayload.urgent : JPayload → Bool
  | .command .. => true
  | .completion .. => true
  | .session .. => true
  | _ => false

/-- Bytes a record occupies: header, padded payload, trailer (R453). -/
def recSize (pl : JPayload) : Nat := 24 + 8 * cdiv pl.len 8

/-- A record can reach both flashes. -/
def jnlBoth (s : State) : Bool := s.jnl.f0 && s.jnl.f1 && s.jnl.restored && decide (s.jnl.pwrFail ≠ 1)

/-- The journal takes records (R456, R458). -/
def jnlTakes (s : State) : Bool := (s.jnl.f0 || s.jnl.f1) && s.jnl.restored && decide (s.jnl.pwrFail ≠ 1)

/-- A record started at its head: it is placed in the head's newest block or, where it does not fit, in a new one
(R452). -/
def jnlStart (pl : JPayload) (last ckpt : Bool) (j : Jnl) : Jnl :=
  let n := recSize pl
  let u := pl.urgent
  let cur := j.blocks.reverse.find? (fun b => b.urgent == u)
  let fits := match cur with | some b => decide (b.fill + n ≤ 65536) | none => false
  let id := match fits, cur with | true, some b => b.id | _, _ => j.nextBlk
  let blocks := if fits then
      j.blocks.map (fun b => if b.id = id then { b with fill := b.fill + n, last := j.next } else b)
    else j.blocks ++ [{ id := id, urgent := u, first := j.next, last := j.next, fill := 32 + n }]
  { j with
    blocks := blocks, nextBlk := if fits then j.nextBlk else j.nextBlk + 1,
    recs := j.recs ++ [{ jseq := j.next, last := last, ckpt := ckpt, boot := j.boot, pl := pl, blk := id, c0 := false,
                         c1 := false, void := false }],
    next := if j.next + 1 = 0xFFFFFFFF then 1 else j.next + 1 }

/-- FULL follows the number of free blocks (R456). -/
def jnlFullCheck (s : State) : State :=
  let f := decide (jnlFree s.jnl < 8) && s.jnl.restored
  raiseIf (f && !s.jnl.full) 0x11 0 2 0 { s with jnl := { s.jnl with full := f } }

/-- A record started where the journal takes records. -/
def jnlAdd (pl : JPayload) (s : State) : State :=
  if jnlTakes s then jnlFullCheck { s with jnl := jnlStart pl true false s.jnl } else s

/-- The JSEQ that the next record will get. -/
def jnlNext (s : State) : Nat := s.jnl.next

/-! ### Replies (R378, R392, R394, R410) -/

/-- What a meaning knows of its command: the header and the opcode; FCS-1 opcodes have bit 16 set. -/
structure Ctx where
  h  : CmdHdr
  op : Nat
deriving DecidableEq, Repr

/-- FCS-1 (R377). -/
def Ctx.g1 (c : Ctx) : Bool := decide (0x10000 ≤ c.op)

/-- The session and identity group, which stands outside the sequence (R384). -/
def isSession (op : Nat) : Bool := decide (op / 256 = 0) || decide (op = 0x10001) || decide (op = 0x10002)

/-- The pair group (R336). -/
def isPairOp (op : Nat) : Bool := decide (op / 256 = 0x09)

/-- FCS-1 status of an FCS-2 status (R410). -/
def fcs1Status (st : Nat) : Nat :=
  if st = 0 then 0 else if st = 1 then 1
  else match st / 256 with
  | 0x01 => 0x0010
  | 0x02 => if st = 0x0201 ∨ st = 0x0204 ∨ st = 0x0205 ∨ st = 0x0206 then 0x0021 else 0x0020
  | 0x03 => 0x0030
  | 0x04 => 0x0040
  | _ => 0x0080

/-- A final reply in the form of its generation (R378, R410). -/
def mkReply (c : Ctx) (status : Nat) (data : List Byte) : Reply :=
  { pair := c.h.pair, seq := c.h.seq, opcode := c.op % 0x10000,
    status := if c.g1 then fcs1Status status else status, tag := c.h.tag, dup := false, basis := 0, final := true,
    data := if c.g1 then padTo 46 data ++ leBytes 2 status else padTo 48 data }

/-- A reply due to its ring; a closed pair gets none (R368, R373). -/
def pushReply (r : Reply) (s : State) : State :=
  { s with hif := { s.hif with pairs := modAt s.hif.pairs r.pair (fun p =>
      if p.open_ then { p with replies := p.replies ++ [r] } else p) } }

/-- Whether a command is in the sequence of its pair, with a place in the window. -/
def sequenced (s : State) (op : Nat) : Bool :=
  !isSession op && !(isPairOp op && !acts s)

/-- The completion of a command: its entry of the window takes the final reply, and it is no longer in flight
(R379, R383). -/
def complete (r : Reply) (s : State) : State :=
  { s with
    pair := { s.pair with execs := s.pair.execs.filter (fun e => !(e.2.1 == r.pair && e.2.2.1 == r.seq && e.2.2.2)) }
    hif := { s.hif with
      fly := s.hif.fly.filter (fun f => !(f.pair == r.pair && f.seq == r.seq)),
      pairs := modAt s.hif.pairs r.pair (fun p => { p with window := p.window.map (fun w =>
        if w.seq = r.seq ∧ w.reply = none then { w with reply := some r } else w) }) } }

/-- CRC and basis of the command's packet, as its window entry holds them. -/
def packetOf (s : State) (pair seq : Nat) : Nat × Nat :=
  match ((s.hif.pairs[pair]?).map RPair.window).getD [] |>.find? (fun w => w.seq == seq) with
  | some w => (w.crc, w.basis)
  | none => (0, 0)

/-- The reply goes to the ring in a device that executes commands; the standby keeps it in its window (R330). -/
def deliver (op : Nat) (r : Reply) (s : State) : State :=
  if acts s || isSession op || isPairOp op then pushReply r s else s

/-- The final reply of a command without journalled changes (R392); its completion is journalled (R454). (DEDUCED, log 28.) -/
def finish (c : Ctx) (status : Nat) (data : List Byte) (s : State) : State :=
  let r := mkReply c status data
  if sequenced s c.op then
    let k := packetOf s c.h.pair c.h.seq
    deliver c.op r (complete r (jnlAdd (.completion c.h.pair k.2 c.h.seq k.1 r []) s))
  else deliver c.op r s

/-- The final reply of a command with journalled changes: DONE once its COMPLETION record has committed in both
flashes, 0x0405 where it cannot reach both (R134, R404, R455, R456). (DEDUCED, log 28.) -/
def finishCommit (c : Ctx) (data : List Byte) (chg : List JChange) (s : State) : State :=
  let r := mkReply c 0 data
  let k := packetOf s c.h.pair c.h.seq
  if jnlBoth s then
    let q := s.jnl.next
    let s1 := jnlAdd (.completion c.h.pair k.2 c.h.seq k.1 r chg) s
    { s1 with hif := { s1.hif with due := s1.hif.due ++ [{ hdr := c.h, opcode := c.op, data := data, jseq := q }] } }
  else
    let r := mkReply c 0x0405 []
    deliver c.op r (complete r (jnlAdd (.completion c.h.pair k.2 c.h.seq k.1 r chg) s))

/-- DONE with data, or with a refusal. -/
def done (c : Ctx) (data : List Byte) (s : State) : State := finish c 0 data s

/-- A refusal with its status and no data. -/
def refuse (c : Ctx) (status : Nat) (s : State) : State := finish c status [] s

end Sys2Proof.Machine
end

