-- ==== Sys2Proof/Machine/Gate.lean ====
section
/-! DEFINITION. The shape of every command: what a meaning does around its effect, the pins that follow the state,
the order of execution (R382, R393) and the checks that every host command meets (R388–R390). -/

namespace Sys2Proof.Machine

open Sys2Proof

/-! ### The outcome of a command -/

/-- FAULT_N is low while a fault is active, a fatal line stands, or the journal is not restored (R418). (DESIGN CHOICE, log 54.) -/
def faultLow (s : State) : Bool := !s.flt.active.isEmpty || decide (s.flt.lines ≠ 0) || !s.jnl.restored

/-- Power domain of lane `k`: SER-0 or SER-1 (R208). -/
def laneDom (k : Nat) : Nat := if k < 12 then 7 else 8

/-- CL_TXDISk is low: the lane's domain on, the lane in a state whose row in R225 shows the laser on, the device
active or solo, and not dark (R213, R422). -/
def laserOn (s : State) (k : Nat) (l : LaneS) : Bool :=
  tb s.pwr.on (laneDom k) && decide (2 ≤ l.st) && decide (l.st ≤ 6) && acts s && !s.pair.dark && !s.pwr.dark &&
    !s.pwr.inReset

/-- The lanes with their lasers as R213 gives them. -/
def settledLanes (s : State) : List LaneS :=
  s.lnk.lanes.mapIdx (fun k l => { l with laser := laserOn s k l })

/-- The pins that follow the state at every instant: FAULT_N and CL_TXDISk (R213, R418). (DESIGN CHOICE, log 54.) -/
def settle (s : State) : State :=
  { s with flt := { s.flt with faultN := faultLow s }, lnk := { s.lnk with lanes := settledLanes s } }

/-- The outcome of a command with effect `f`: what it emits starts empty, and the pins follow. (DESIGN CHOICE, log 49.) (DESIGN CHOICE, log 54.) -/
def State.run (f : State → State) (s : State) : Host.Outcome State Fault Refusal :=
  .next (settle (f { s with out := [] }))

/-! ### Order of execution (R382, R385, R393) -/

/-- What a host command finds when its execution comes up: it may execute, waits for its turn, waits for the
acknowledgement of its EXEC, or stands executed. -/
inductive Turn where
  | go | wait | ack | past
deriving DecidableEq, Repr

/-- The command's record of intake. -/
def flyOf (s : State) (pair seq : Nat) : Option Fly := s.hif.fly.find? (fun f => f.pair == pair && f.seq == seq)

/-- The window entry of a command. -/
def winOf (s : State) (pair seq : Nat) : Option WinE :=
  (((s.hif.pairs[pair]?).map RPair.window).getD []).find? (fun w => w.seq == seq)

/-- Whether a mirrored command waits for the acknowledgement of its EXEC (R330): in an active device whose partner
is synchronised, and in a device that follows. -/
def execOpen (s : State) (f : Fly) : Bool :=
  decide (f.basis = 1) && (partnerSynced s || !acts s) &&
    !(s.pair.execs.any (fun e => e.2.1 == f.pair && e.2.2.1 == f.seq && e.2.2.2))

/-- Earlier commands of the pair have not all executed (R382). -/
def behind (s : State) (f : Fly) : Bool :=
  (s.hif.fly.takeWhile (fun g => !(g.pair == f.pair && g.seq == f.seq))).any (fun g => g.pair == f.pair && !g.exec)

/-- The turn of a command (R382): its pair's earlier commands have executed, and it is accepted. A command without a
record of intake has its turn. (DEDUCED, log 27.) -/
def turnOf (c : Ctx) (s : State) : Turn :=
  if isSession c.op then .go
  else match flyOf s c.h.pair c.h.seq with
    | some f =>
      if f.exec then .past
      else if f.basis = 0 ∨ behind s f = true then .wait
      else if execOpen s f then .ack
      else .go
    | none => if (winOf s c.h.pair c.h.seq).isSome && acts s then .past else .go

/-- EXEC sent for a command that is to execute, once, and not while a hand-over stands announced (R328, R330). -/
def sendExec (acked : Bool) (c : Ctx) (s : State) : State :=
  if !acts s || s.pair.hover || s.pair.execs.any (fun e => e.2.1 == c.h.pair && e.2.2.1 == c.h.seq) then s
  else
    let n := (s.pair.execNo + 1) % 2 ^ 32
    ({ s with pair := { s.pair with execNo := n, execs := s.pair.execs ++ [(n, c.h.pair, c.h.seq, acked)] } }).tell
      (.exec c.h.pair c.h.seq n)

/-- The serialisation of R393 holds a converter-state command while a state change waits for its rim. -/
def serialHold (op : Nat) (s : State) : Bool :=
  decide (0x0200 ≤ op) && decide (op ≤ 0x0209) && s.hif.conv.isSome

/-- The FCS-2 opcode that an FCS-1 opcode is executed as (R409). -/
def asFcs2 (op : Nat) : Nat :=
  if op < 0x10000 then op
  else match op % 0x10000 with
  | 0x0001 => 0x0000 | 0x0002 => 0x0001 | 0x0010 => 0x0100 | 0x0011 => 0x0101 | 0x0012 => 0x0102
  | 0x0020 => 0x0201 | 0x0021 => 0x0202 | 0x0022 => 0x0203 | 0x0023 => 0x0205 | 0x0024 => 0x0206
  | 0x0025 => 0x0207 | 0x0026 => 0x0208 | 0x0027 => 0x0209 | 0x0028 => 0x0230 | 0x0030 => 0x0300
  | 0x0031 => 0x0302 | 0x0040 => 0x0400 | 0x0041 => 0x0401 | 0x0042 => 0x0402 | 0x0043 => 0x0403
  | 0x0044 => 0x0404 | 0x0045 => 0x0405 | 0x0050 => 0x0502 | 0x0060 => 0x0600 | 0x0061 => 0x0602
  | 0x0070 => 0x0700 | 0x0080 => 0x0C00 | 0x0090 => 0x0A00 | 0x00F0 => 0x0F00
  | _ => 0xFFFF

/-- The opcodes with FORCE (R390). -/
def forceOk (op : Nat) : Bool := [0x0401, 0x0402, 0x0404, 0x0502, 0x0101, 0x0102].contains op

/-- The command marked executed. -/
def markExec (c : Ctx) (s : State) : State :=
  { s with hif := { s.hif with fly := s.hif.fly.map (fun f =>
      if f.pair = c.h.pair ∧ f.seq = c.h.seq then { f with exec := true } else f) } }

/-- A command that waits for its turn (R393). -/
def holdCmd (i : Instr) (s : State) : State := { s with hif := { s.hif with held := s.hif.held ++ [i] } }

/-- NOT_ACTIVE, given at intake and outside the sequence (R384). -/
def notActive (c : Ctx) (s : State) : State := pushReply (mkReply c 0x0801 []) s

/-- The device's role allows execution: active or solo, a session or pair command in any role, or a mirrored command
in the standby (R330, R331, R384). -/
def roleAllows (c : Ctx) (s : State) : Bool :=
  acts s || isSession c.op || isPairOp c.op || (flyOf s c.h.pair c.h.seq).isSome

/-- The checks of R388 from order 3 on, and then the command's own. -/
def checked (c : Ctx) (states : DevState → Bool) (own : State → State) (s : State) : State :=
  if c.h.rsvd = true ∨ (c.h.force = true ∧ ¬ (c.op < 0x10000 ∧ forceOk c.op = true)) then refuse c 0x0201 s
  else if roleAllows c s = false then notActive c s
  else if states s.st = false then refuse c 0x0100 s
  else own s

/-- While the partner joins, it is told of each command that executes, and none waits for it (R332). (DEDUCED, log 40.) -/
def followJoin (c : Ctx) (s : State) : State :=
  if decide (s.pair.role = .active) && decide (s.pair.ptnrRole = 2) && (flyOf s c.h.pair c.h.seq).isSome then
    sendExec true c s
  else s

/-- A host command comes up for execution at its instant. In OFF nothing executes. (DEDUCED, log 27.) -/
def hostCmd (i : Instr) (c : Ctx) (states : DevState → Bool) (own : State → State) (s : State) : State :=
  if s.st = .off then s
  else
    let s1 := s.at c.h.time
    match turnOf c s1 with
    | .past => s1
    | .wait => holdCmd i s1
    | .ack => holdCmd i (if serialHold (asFcs2 c.op) s1 then s1 else sendExec false c s1)
    | .go => if serialHold (asFcs2 c.op) s1 then holdCmd i s1 else checked c states own (markExec c (followJoin c s1))

/-! ### State columns -/

/-- Every state but OFF. -/
def stAny : DevState → Bool := fun _ => true

/-- Every state but OFF and STARTING. -/
def stUp (d : DevState) : Bool := decide (d ≠ .starting)

/-- READY, BLOCKED and MAINTENANCE. -/
def stCalm (d : DevState) : Bool := decide (d = .ready) || decide (d = .blocked) || decide (d = .maintenance)

/-- READY, BLOCKED, SAFE_BLOCKED and MAINTENANCE. -/
def stStill (d : DevState) : Bool := stCalm d || decide (d = .safeBlocked)

/-- Every state but OFF, STARTING, SAFE_STOP and SAFE_BLOCKED (R76). -/
def stRef (d : DevState) : Bool := stCalm d || decide (d = .running)

end Sys2Proof.Machine
end

