-- ==== Sys2Proof/Machine/Ctl.lean ====
section
/-! DEFINITION. The control engine (R90–R108): stage 2 of a frame's work. -/

namespace Sys2Proof.Machine

open Sys2Proof

/-- The engine's outputs are applied: in RUNNING and SAFE_STOP (R103). -/
def applied (s : State) : Bool := decide (s.st = .running) || decide (s.st = .safeStop)

/-- An integer times 2 to the `e` as a normalised value. -/
def bfpOf (m : Int) (e : Int) : Bfp := (bfpNorm m e).1

/-- The value of a source in a frame, none where it is not valid (R91). `slots` holds the loop slots as far as they
have been evaluated; `second` tells a second factor, whose source none is 1. -/
def ctlSrc (s : State) (slots : List Slot) (second : Bool) (c : Nat) : Option Bfp :=
  if c = 0 then some (if second then bfpOf 1 0 else bfpZero)
  else if c = 1 then some (bfpOf 1 0)
  else if inRun c 0x0100 192 then
    let a := Tab.get Avg.reset s.adc.avg (c - 0x0100)
    if a.valid then some (bfpOf a.val (-8)) else none
  else if inRun c 0x0200 12 then
    let r := s.adc.rods.getD (c - 0x0200) RodI.reset
    if r.valid then some (bfpOf r.cur (-6)) else none
  else if inRun c 0x0300 64 then some (bfpOf (s.ref.sps.getD (c - 0x0300) 0) 0)
  else if inRun c 0x0400 16 then
    let o := s.ref.ncos.getD ((c - 0x0400) / 4) Nco.reset
    some (bfpOf (match c % 4 with | 0 => o.cosA | 1 => o.sinA | 2 => o.cosB | _ => o.cosC) (-15))
  else if inRun c 0x0500 64 then
    let sl := slots.getD ((c - 0x0500) / 2) Slot.reset
    some (if c % 2 = 0 then sl.out0 else sl.out1)
  else if inRun c 0x0600 12 then
    let o := s.obs.rods.getD (c - 0x0600) ObsRod.reset
    if o.valid then some (bfpOf o.vsum (-4)) else none
  else if inRun c 0x0610 12 then
    let o := s.obs.rods.getD (c - 0x0610) ObsRod.reset
    if o.valid then some (bfpOf o.energy 0) else none
  else none

/-- The product of a tap whose parameters begin at `id`, none where a source is not valid (R92). -/
def ctlTap (s : State) (slots : List Slot) (id : Nat) : Option (Bfp × Bool) :=
  match ctlSrc s slots false (s.p id), ctlSrc s slots true (s.p (id + 1)) with
  | some a, some b => some (bfpMul3 (bfpOfWord (s.pI (id + 2))) a b)
  | _, _ => none

/-- A cleared section of slot `k` (R96). -/
def sectClear (s : State) (k : Nat) : Sect := { w1 := 0, w2 := 0, e := s.pI (0x400A + 32 * k) }

/-- The coefficients of section `j` of slot `k`. -/
def ctlCoef (s : State) (k j : Nat) : List Int := (List.range 5).map (fun c => s.pI (0x4800 + 64 * k + 5 * j + c))

/-- The cascade of a slot: sections from `j` on, fed with `x`; the new states, the output, whether one saturated
(R92, R95). -/
def ctlCascade (s : State) (k : Nat) : Nat → List Sect → Bfp → List Sect × Bfp × Bool
  | _, [], x => ([], x, false)
  | j, st :: rest, x =>
    let r := section_ (ctlCoef s k j) (s.pI (0x400A + 32 * k)) st x
    let q := ctlCascade s k (j + 1) rest r.2.1
    (r.1 :: q.1, q.2.1, r.2.2 || q.2.2)

/-- Whether the state W1 of a section moved on in the direction of the clamp (R98). -/
def awFurther (hi : Bool) (old new : Sect) : Bool :=
  let o := bfpOf old.w1 old.e
  let n := bfpOf new.w1 new.e
  if hi then bfpLt o n else bfpLt n o

/-- The section that CTL_AW_SEC names in a cascade of `n` sections (R98). -/
def awSec (s : State) (k n : Nat) : Option Nat :=
  match s.pO (0x4003 + 32 * k) with
  | some j => if j < n then some j else none
  | none => none

/-- The following-error judgement of a slot that did not hold (R105). -/
def feJudge (s : State) (k : Nat) (sl : Slot) : Slot :=
  let lim := bfpOfWord (s.pI (0x4006 + 32 * k))
  let time := s.p (0x4007 + 32 * k)
  if s.st = .running ∧ lim.m ≠ 0 then
    let out := !bfpLt (bfpAbs sl.out1) lim
    let n := if out then satAdd 16 sl.count 1 else 0
    { sl with checking := true, outside := out, count := n,
              due := out && decide (time ≤ n) && (decide (sl.count < time) || !sl.raised) }
  else { sl with checking := false, outside := false, due := false }

/-- Slot `k` in stage 2 (R92–R99, R103, R106). -/
def ctlSlot (s : State) (slots : List Slot) (k : Nat) : Slot :=
  let old := slots.getD k Slot.reset
  let zero := List.replicate 8 (sectClear s k)
  if s.p (0x4000 + 32 * k) = 0 then
    { Slot.reset with sects := zero, count := old.count, raised := old.raised, hold := old.hold, block := old.block }
  else
    let idle := if applied s then 3 else s.p (0x4002 + 32 * k)
    let n := s.p (0x4001 + 32 * k)
    let sects := (old.sects.take n) ++ zero.drop n
    let taps := (List.range 4).map (fun t => ctlTap s slots (0x4010 + 32 * k + 3 * t))
    let base : Slot := { old with idle := !applied s, en := true, ovf := false, aw := false, due := false }
    if taps.any Option.isNone then
      let b := { base with held := true, invalid := true, sects := sects,
                           checking := decide (s.st = .running) && decide ((bfpOfWord (s.pI (0x4006 + 32 * k))).m ≠ 0) }
      if idle = 2 then { b with sects := zero, out0 := bfpZero, clampHi := false, clampLo := false } else b
    else
      let prods := taps.filterMap id
      let err := bfpSum (prods.map Prod.fst)
      let sat := prods.any Prod.snd || err.2
      let r := ctlCascade s k 0 (sects.take n) err.1
      let lo := bfpOfWord (s.pI (0x4004 + 32 * k))
      let hi := bfpOfWord (s.pI (0x4005 + 32 * k))
      let chi := bfpLt hi r.2.1
      let clo := bfpLt r.2.1 lo
      let aw := match awSec s k n with
        | some j => if (chi || clo) && awFurther chi (sects.getD j (sectClear s k)) (r.1.getD j (sectClear s k))
            then some j else none
        | none => none
      let new := match aw with
        | some j => r.1.set j (sects.getD j (sectClear s k))
        | none => r.1
      let b := { base with invalid := false, out1 := err.1, ovf := sat }
      feJudge s k (
        if idle = 2 then { b with held := false, sects := zero, out0 := bfpZero, clampHi := false, clampLo := false }
        else if idle = 1 ∨ old.hold = true then { b with held := true, sects := sects }
        else { b with held := false, sects := new ++ zero.drop n, ovf := sat || r.2.2, clampHi := chi, clampLo := clo,
                      aw := aw.isSome, out0 := if chi then hi else if clo then lo else r.2.1 })

/-- The slots in ascending order, from slot `k` on, `fuel` of them (R93). -/
def ctlSlots (s : State) : Nat → Nat → List Slot → List Slot
  | 0, _, l => l
  | fuel + 1, k, l => ctlSlots s fuel (k + 1) (l.set k (ctlSlot s l k))

/-- The outputs of rod `r` (R100). -/
def ctlRod (s : State) (slots : List Slot) (r : Nat) (old : RodOut) : RodOut :=
  let taps := (List.range 6).map (fun i => ctlTap s slots (0x4400 + 32 * r + 3 * i))
  let prods := (List.range 6).map (fun i =>
    match taps.getD i none with | some x => x.1 | none => old.prods.getD i bfpZero)
  let v := (bfpSum (prods.take 4)).1
  let b := (bfpSum (prods.drop 4)).1
  let lim := s.pI (0x4414 + 32 * r)
  { vref := clampI (s.pI (0x4412 + 32 * r)) (s.pI (0x4413 + 32 * r)) (satS 32 (bfpToInt v 4)),
    bal := clampI (-lim) lim (satS 32 (bfpToInt b 4)), held := taps.any Option.isNone, prods := prods }

/-- The reaction of slot `k`, when its count has reached CTL_FE_TIME (R105–R107). -/
def feReact (k : Nat) (s : State) : State :=
  let sl := s.ctl.slots.getD k Slot.reset
  let code := s.p (0x4008 + 32 * k)
  if sl.due then
    let sl1 := { sl with due := false }
    if code = 0 then { s with ctl := { s.ctl with slots := s.ctl.slots.set k sl1 } }
    else
      let sl2 := { sl1 with
        raised := true, hold := sl.hold || decide (code = 2),
        block := if code = 3 then s.p (0x4009 + 32 * k) else sl.block }
      raiseSev 0x04 k 3 (if code = 1 then 1 else 2) 0 { s with ctl := { s.ctl with
        slots := s.ctl.slots.set k sl2, events := satAdd 32 s.ctl.events 1,
        stopDue := s.ctl.stopDue || decide (code = 4), blockDue := s.ctl.blockDue || decide (code = 5) } }
  else s

/-- Stage 2 of a frame's work. -/
def ctlStage (s : State) : State :=
  let old := s.ctl.slots
  let slots := ctlSlots s 32 0 old
  let rods := s.ctl.rods.mapIdx (fun r o => ctlRod s slots r o)
  let s1 := { s with ctl := { s.ctl with slots := slots, rods := rods, applied := applied s } }
  let s2 := (List.range 32).foldl (fun a k =>
    raiseIf (slots.getD k Slot.reset).ovf 0x04 k 1 0
      (raiseIf ((slots.getD k Slot.reset).invalid && !(old.getD k Slot.reset).invalid) 0x04 k 2 0 a)) s1
  (List.range 32).foldl (fun a k => feReact k a) s2

/-- A transition out of RUNNING zeroes every following-error count (R103). -/
def feReset (s : State) : State :=
  { s with ctl := { s.ctl with slots := s.ctl.slots.map (fun x => { x with count := 0, due := false }) } }

/-- The clear of a slot's CTL_FE fault (R108). -/
def feClear (k : Nat) (s : State) : State :=
  { s with ctl := { s.ctl with slots := modAt s.ctl.slots k (fun x =>
      { x with raised := false, count := 0, hold := false, block := 0, due := false }) } }

/-- Rods that a BLOCK reaction has latched (R107). -/
def feBlocked (s : State) : Nat := s.ctl.slots.foldl (fun a x => bor a x.block) 0

end Sys2Proof.Machine
end

