-- ==== Sys2Proof/Machine/Ref.lean ====
section
/-! DEFINITION. Reference generation (R68–R89): the oscillators and set-point ramps of stage 1, and the commands of
the references group. -/

namespace Sys2Proof.Machine

open Sys2Proof

/-! ### Oscillators (R68–R71) -/

/-- A quarter turn in radians with 62 fractional bits. -/
def quarterTurn : Int := 7244019458077122842

/-- The Taylor terms of the cosine of an angle whose square is `a2` (62 fractional bits), from term `k` on. (DEDUCED, log 51.) -/
def cosTerms : Nat → Nat → Int → Int → Int
  | 0, _, _, _ => 0
  | fuel + 1, k, a2, t => t + cosTerms fuel (k + 1) a2 (-(fdiv (t * a2) (2 ^ 62 * ((2 * k + 1) * (2 * k + 2)))))

/-- The cosine of `r / den` quarter turns, `r` at most `den`, with 62 fractional bits. (DEDUCED, log 51.) -/
def cosQuarter (r den : Nat) : Int :=
  let a := fdiv (r * quarterTurn) den
  cosTerms 14 0 (fdiv (a * a) (2 ^ 62)) (2 ^ 62)

/-- The cosine of `num / den` turns with 62 fractional bits. (DESIGN CHOICE, log 4.) (DEDUCED, log 51.) -/
def cosTurn (num den : Nat) : Int :=
  let x := 4 * (num % den)
  let r := x % den
  match x / den with
  | 0 => cosQuarter r den
  | 1 => -cosQuarter (den - r) den
  | 2 => -cosQuarter r den
  | _ => cosQuarter (den - r) den

/-- An oscillator output: a 16-bit value within 1 LSB of the exact one (R68); which of them is left open (DESIGN CHOICE, log 4). -/
def ncoOut (site num den : Nat) : Int :=
  let y := cosTurn num den * 2 ^ 15
  let f := fdiv y (2 ^ 62)
  let c := if y % 2 ^ 62 = 0 then f else f + 1
  satS 16 (clampI (c - 1) (f + 1) (f + Config.ncoErr site num))

/-- The first output of the loop slot that REF_NCO_TRIM names, in the unit of the frequency word (R70, R102). -/
def ncoTrim (s : State) (k : Nat) : Int :=
  match s.pO (0x3003 + 4 * k) with
  | some sl => satS 48 (bfpToInt ((s.ctl.slots.getD sl Slot.reset).out0) 0)
  | none => 0

/-- One oscillator in stage 1 of frame `n` (R68, R71). -/
def ncoStep (s : State) (n k : Nat) (o : Nco) : Nco :=
  let loads := s.ref.loads.filter (fun l => l.nco == k && l.frame == n % 2 ^ 32)
  if s.p (0x3002 + 4 * k) = 0 then
    { o with phase := (loads.getLast?.map Load.phase).getD o.phase, trimSat := false }
  else
    let f := s.pI (0x3000 + 4 * k) + ncoTrim s k
    let fe := clampI (-(2 ^ 40)) (2 ^ 40) f
    let ph := match loads.getLast? with
      | some l => l.phase
      | none => toBits 48 (o.phase + fe * 2 ^ s.frm.period)
    let th := (ph + s.p (0x3001 + 4 * k) * 2 ^ 32) % 2 ^ 48
    let d := 3 * 2 ^ 48
    { phase := ph, cosA := ncoOut 0 th (2 ^ 48), sinA := ncoOut 1 (th + 3 * 2 ^ 46) (2 ^ 48),
      cosB := ncoOut 2 (3 * th + 2 * 2 ^ 48) d, cosC := ncoOut 3 (3 * th + 2 ^ 48) d, trimSat := decide (fe ≠ f) }

/-! ### Ramps (R74–R87) -/

/-- Whether `x` lies ahead of frame number `n` modulo 2^32, in the half-range taken as future (R71). -/
def ahead (x n : Nat) : Bool :=
  let d := (x + 2 ^ 32 - n % 2 ^ 32) % 2 ^ 32
  decide (0 < d) && decide (d < 2 ^ 31)

/-- A member's target, held to the limits in force at the start (R87), and whether it was outside. -/
def spTarget (s : State) (g i : Nat) (t : Int) : Int × Bool :=
  let m := 8 * g + i
  let v := clampI (s.pI (0x3180 + m)) (s.pI (0x31C0 + m)) t
  (v, decide (v ≠ t))

/-- The values of a group's members. -/
def grpVals (s : State) (g : Nat) : List Int := (s.ref.sps.drop (8 * g)).take 8

/-- The distances of an entry from start values (R77). -/
def spDist (s : State) (g : Nat) (e : RampArgs) (v0 : List Int) : List Int :=
  (List.range 8).map (fun i =>
    if tb e.mask i then (spTarget s g i (e.targets.getD i 0)).1 - v0.getD i 0 else 0)

/-- The duration of an entry (R77). -/
def spDur (s : State) (g : Nat) (e : RampArgs) (d : List Int) : Nat :=
  (List.range 8).foldl (fun a i =>
    let rate := s.p (0x3100 + 8 * g + i) * 2 ^ s.p 0x1000
    if tb e.mask i && decide (rate ≠ 0) then max a (cdiv ((d.getD i 0).natAbs * 2 ^ 16) rate) else a)
    (max e.minDur 1)

/-- An entry starts (R77, R79, R87); `d2` is its duration where a blend has fixed it. -/
def spStart (s : State) (g : Nat) (q : QEnt) (v0 : List Int) (late : Bool) (prev : Option Seg) (d2 : Option Nat) :
    RunE :=
  let d := spDist s g q.e v0
  { e := q.e, seq := q.seq, dur := d2.getD (spDur s g q.e d), step := 0, v0 := v0, d := d, late := late, prev := prev,
    next := none }

/-- The blend of a running entry with the head of the queue, fixed in the frame in which it would begin (R81, R82). -/
def spBlendNext (s : State) (g : Nat) (q : List QEnt) (r : RunE) : Option (Nat × Nat) :=
  match r.next with
  | some x => some x
  | none => match q.head? with
    | some e =>
      if e.e.mode = 0 ∧ 0 < e.e.blend then
        let v := (List.range 8).map (fun i => r.v0.getD i 0 + r.d.getD i 0)
        let d2 := spDur s g e.e (spDist s g e.e v)
        let be := 2 * (min e.e.blend (min r.dur d2) / 2)
        if 0 < be ∧ r.step = r.dur - be / 2 + 1 then some (be, d2) else none
      else none
    | none => none

/-- The value of a member in a step of a running entry: on its line, or in a blend before or after it (R78, R81). -/
def spValue (s : State) (g : Nat) (q : List QEnt) (r : RunE) (i : Nat) (old : Int) : Int :=
  let v0 := r.v0.getD i 0
  let d := r.d.getD i 0
  let line := if tb r.e.mask i then v0 + rdiv (d * r.step) r.dur else old
  match r.next, q.head? with
  | some (be, d2), some e =>
    if r.dur - be / 2 < r.step then
      let d' := (spDist s g e.e ((List.range 8).map (fun j => r.v0.getD j 0 + r.d.getD j 0))).getD i 0
      let x : Int := r.step - r.dur + (be / 2 : Nat)
      if d = 0 ∧ d' = 0 then line
      else v0 + rdiv (d * r.step * d2 * (2 * be) + (d' * r.dur - d * d2) * x * x) (r.dur * d2 * (2 * be))
    else line
  | _, _ =>
    match r.prev with
    | some p =>
      if r.step ≤ p.be / 2 then
        let dp := p.d.getD i 0
        let x : Int := r.step + (p.be / 2 : Nat)
        if d = 0 ∧ dp = 0 then line
        else p.v0.getD i 0 + rdiv (dp * (p.n + r.step) * r.dur * (2 * p.be) + (d * p.n - dp * r.dur) * x * x)
          (p.n * r.dur * (2 * p.be))
      else line
    | none => line

/-- Whether a step lies in a blend. -/
def spInBlend (r : RunE) : Bool :=
  (match r.next with | some (be, _) => decide (r.dur - be / 2 < r.step) | none => false) ||
  (match r.prev with | some p => decide (r.step ≤ p.be / 2) | none => false)

/-- The next step of a running entry of group `g`. -/
def spAdvance (g : Nat) (r0 : RunE) (s : State) : State :=
  let gr := s.ref.grps.getD g Grp.reset
  let r1 := { r0 with step := r0.step + 1 }
  let r := { r1 with next := spBlendNext s g gr.queue r1 }
  let vals := (List.range 8).map (fun i => spValue s g gr.queue r i ((grpVals s g).getD i 0))
  let sps := s.ref.sps.take (8 * g) ++ vals ++ s.ref.sps.drop (8 * g + 8)
  let gr' := { gr with run := some r, blend := spInBlend r, done := if r.step = r.dur then r.seq else gr.done }
  { s with ref := { s.ref with sps := sps, grps := s.ref.grps.set g gr' } }

/-- An entry of group `g` starts and takes step 1; a target outside the limits raises REF_CLAMP (R87). -/
def spBegin (g : Nat) (q : QEnt) (v0 : List Int) (late : Bool) (prev : Option Seg) (d2 : Option Nat) (s : State) :
    State :=
  let clamped := (List.range 8).filter (fun i => tb q.e.mask i && (spTarget s g i (q.e.targets.getD i 0)).2)
  let s1 := clamped.foldl (fun a i => raise 0x03 g 1 (8 * g + i) a) s
  let s2 := { s1 with ref := { s1.ref with
    late := satAdd 32 s1.ref.late (b2n late), grps := modAt s1.ref.grps g (fun x => { x with wait := none }) } }
  spAdvance g (spStart s2 g q v0 late prev d2) s2

/-- The next entry of a group that has none taking steps (R77–R80): `prev` is the segment it is blended with. -/
def spNext (n g : Nat) (prev : Option RunE) (s : State) : State :=
  let gr := s.ref.grps.getD g Grp.reset
  let start := fun (q : QEnt) (st : State) =>
    if q.e.mode = 1 then
      if ahead q.e.start n then
        { st with ref := { st.ref with grps := modAt st.ref.grps g (fun x =>
            { x with wait := some q, run := none, blend := false }) } }
      else spBegin g q (grpVals st g) (decide (q.e.start % 2 ^ 32 ≠ n % 2 ^ 32)) none none st
    else match prev with
      | some r => match r.next with
        | some (be, d2) =>
          spBegin g q ((List.range 8).map (fun i =>
              if tb r.e.mask i then r.v0.getD i 0 + r.d.getD i 0 else (grpVals st g).getD i 0)) false
            (some { v0 := r.v0, d := r.d, n := r.dur, be := be }) (some d2) st
        | none => spBegin g q (grpVals st g) false none none st
      | none => spBegin g q (grpVals st g) false none none st
  match gr.wait, gr.queue with
  | some q, _ => start q s
  | none, q :: rest =>
    start q { s with ref := { s.ref with grps := modAt s.ref.grps g (fun x => { x with queue := rest }) } }
  | none, [] =>
    { s with ref := { s.ref with grps := modAt s.ref.grps g (fun x => { x with run := none, blend := false }) } }

/-- Whether an entry of the group is still taking steps. -/
def RunE.going (r : RunE) : Bool := decide (r.step < r.dur)

/-- A running entry that a stop or replace ends at the start of the frame (R83, R84). -/
def spFlush (g : Nat) (s : State) : State :=
  let gr := s.ref.grps.getD g Grp.reset
  if gr.flush then
    let n := b2n ((gr.run.map RunE.going).getD false)
    let i := s.ref.ops.findIdx (fun o => o.group == g || o.group == 0xFF)
    { s with ref := { s.ref with
      flushed := satAdd 32 s.ref.flushed n, grps := s.ref.grps.set g { gr with run := none, flush := false },
      ops := modAt s.ref.ops i (fun o => { o with cnt := o.cnt + n }) } }
  else s

/-- Group `g` in stage 1 of frame `n`. -/
def spGroup (n g : Nat) (s : State) : State :=
  let gr := s.ref.grps.getD g Grp.reset
  match gr.run with
  | some r => if r.going then spAdvance g r s else spNext n g (some r) s
  | none => spNext n g none s

/-- The reply of a stop or replace at the rim that ends its frame `n` (R405). -/
def refOpReply (n : Nat) (o : RefOp) : Due :=
  { hdr := o.hdr, opcode := o.opcode, jseq := 0,
    data := leBytes 1 o.group ++ leBytes 1 (min 255 o.cnt) ++ [0, 0] ++ leBytes 4 n }

/-- The reply of a phase load at the rim that ends the loaded frame (R405). -/
def loadReply (n : Nat) (l : Load) : Due :=
  { hdr := l.hdr, opcode := 0x0303, jseq := 0,
    data := leBytes 1 l.nco ++ leBytes 1 (b2n l.late) ++ [0, 0] ++ leBytes 4 n }

/-- Stage 1 of frame `n` (R68–R87). -/
def refStage (n : Nat) (s : State) : State :=
  let ncos := s.ref.ncos.mapIdx (fun k o => ncoStep s n k o)
  let hit := s.ref.loads.filter (fun l => l.frame == n % 2 ^ 32)
  let s1 := { s with ref := { s.ref with
    ncos := ncos, loads := s.ref.loads.filter (fun l => !(l.frame == n % 2 ^ 32)),
    due := s.ref.due ++ hit.map (loadReply n) } }
  let s2 := (List.range 8).foldl (fun a g => spFlush g a) s1
  let s3 := { s2 with ref := { s2.ref with due := s2.ref.due ++ s2.ref.ops.map (refOpReply n), ops := [] } }
  (List.range 8).foldl (fun a g => spGroup n g a) s3

/-- The replies of the references group at a rim (R405). -/
def refReplies (s : State) : State :=
  s.ref.due.foldl (fun a d => done { h := d.hdr, op := d.opcode } d.data a) { s with ref := { s.ref with due := [] } }

/-- Queue and waiting entry of the groups in `gs` discarded, their running entries ended in the next frame; the
number discarded so far (R83, R84). -/
def spClear (gs : List Nat) (s : State) : State × Nat :=
  let cnt := sumN (gs.map (fun g =>
    let x := s.ref.grps.getD g Grp.reset
    x.queue.length + b2n x.wait.isSome))
  ({ s with ref := { s.ref with
      flushed := satAdd 32 s.ref.flushed cnt,
      grps := s.ref.grps.mapIdx (fun g x =>
        if gs.contains g then { x with queue := [], wait := none, flush := true } else x) } }, cnt)

/-- Every group stopped, as at transitions into SAFE_STOP and SAFE_BLOCKED and at a period change (R85). -/
def spStopAll (s : State) : State := (spClear (List.range 8) s).1

/-- An entry appended by the voltage target (R126); it carries no command. -/
def spAppendAuto (m : Nat) (v : Int) (s : State) : State :=
  let e : RampArgs := { group := m / 8, mask := 2 ^ (m % 8), mode := 0, blend := 0, minDur := 0, start := 0,
                        targets := List.replicate 8 v }
  { s with ref := { s.ref with grps := modAt s.ref.grps (m / 8) (fun x =>
      { x with queue := x.queue ++ [{ e := e, seq := 0, at_ := s.frm.rims }] }) } }

/-- Every set-point at REF_SP_INIT, every group at rest (R73). -/
def spInit (s : State) : State :=
  { s with ref := { s.ref with sps := (List.range 64).map (fun m => s.pI (0x3140 + m)),
                               grps := List.replicate 8 Grp.reset } }

/-! ### Commands (R405) -/

/-- A parameter as written: the waiting write decides over the value in force (R87). -/
def pWritten (s : State) (id : Nat) : Int :=
  match (s.params.waits.flatMap PWrite.entries).reverse.find? (fun e => e.1 == id) with
  | some e => e.2
  | none => s.pI id

/-- The refusals of R75; `isQueue` for a queue command. -/
def rampBad (s : State) (isQueue : Bool) (e : RampArgs) : Bool :=
  decide (7 < e.group) ||
  (List.range 8).any (fun i =>
    let m := 8 * e.group + i
    let t := e.targets.getD i 0
    tb e.mask i && (decide (t < pWritten s (0x3180 + m)) || decide (pWritten s (0x31C0 + m) < t))) ||
  decide (1 < e.mode) || (isQueue && decide (e.blend % 2 = 1)) || (decide (e.mask = 0) && decide (e.minDur = 0))

/-- A ramp entry at the end of its group's queue. -/
def spAppend (e : RampArgs) (seq : Nat) (s : State) : State :=
  { s with ref := { s.ref with grps := modAt s.ref.grps e.group (fun x =>
      { x with queue := x.queue ++ [{ e := e, seq := seq, at_ := s.frm.rims }] }) } }

/-- Queue depth of a group. -/
def spDepth (s : State) (g : Nat) : Nat := (s.ref.grps.getD g Grp.reset).queue.length

/-- REF_QUEUE (R74–R76). -/
def refQueue (c : Ctx) (e : RampArgs) (s : State) : State :=
  if rampBad s true e then refuse c 0x0203 s
  else if 16 ≤ spDepth s e.group then refuse c 0x0304 s
  else
    let s1 := spAppend e c.h.seq s
    done c (leBytes 1 e.group ++ leBytes 1 (spDepth s1 e.group)) s1

/-- REF_REPLACE (R83). -/
def refReplace (c : Ctx) (e : RampArgs) (s : State) : State :=
  if rampBad s false e then refuse c 0x0203 s
  else
    let r := spClear [e.group] s
    let s1 := spAppend { e with blend := 0 } c.h.seq r.1
    { s1 with ref := { s1.ref with ops := s1.ref.ops ++ [{ hdr := c.h, opcode := c.op, group := e.group, cnt := r.2 }] } }

/-- REF_STOP (R84). -/
def refStop (c : Ctx) (g : Nat) (s : State) : State :=
  if g ≤ 7 ∨ g = 0xFF then
    let r := spClear (if g = 0xFF then List.range 8 else [g]) s
    { r.1 with ref := { r.1.ref with ops := r.1.ref.ops ++ [{ hdr := c.h, opcode := c.op, group := g, cnt := r.2 }] } }
  else refuse c 0x0203 s

/-- REF_PHASE_LOAD (R71). -/
def refPhaseLoad (c : Ctx) (nco frame phase : Nat) (s : State) : State :=
  if 3 < nco then refuse c 0x0203 s
  else
    let fut := ahead frame s.frm.count
    let l : Load := { hdr := c.h, nco := nco, frame := if fut then frame % 2 ^ 32 else (s.frm.count + 1) % 2 ^ 32,
                      phase := phase % 2 ^ 48, late := !fut }
    { s with ref := { s.ref with loads := s.ref.loads ++ [l], late := satAdd 32 s.ref.late (b2n (!fut)) } }

/-- Row REF_QUEUE. -/
def hostRefQueue (h : CmdHdr) (e : RampArgs) : State → State :=
  let c : Ctx := { h := h, op := 0x0300 }
  hostCmd (.refQueue h e) c stRef (refQueue c e)

/-- Row REF_REPLACE. -/
def hostRefReplace (h : CmdHdr) (e : RampArgs) : State → State :=
  let c : Ctx := { h := h, op := 0x0301 }
  hostCmd (.refReplace h e) c stRef (refReplace c e)

/-- Row REF_STOP. -/
def hostRefStop (h : CmdHdr) (g : Nat) : State → State :=
  let c : Ctx := { h := h, op := 0x0302 }
  hostCmd (.refStop h g) c stAny (refStop c g)

/-- Row REF_PHASE_LOAD. -/
def hostRefPhaseLoad (h : CmdHdr) (nco frame phase : Nat) : State → State :=
  let c : Ctx := { h := h, op := 0x0303 }
  hostCmd (.refPhaseLoad h nco frame phase) c stUp (refPhaseLoad c nco frame phase)

/-- Row FCS-1 RAMP: REF_QUEUE with MODE 0, BLEND 0 and members 0 to 3 (R409). -/
def hostFcs1Ramp (h : CmdHdr) (group mask dur : Nat) (targets : List Int) : State → State :=
  let c : Ctx := { h := h, op := 0x10030 }
  hostCmd (.fcs1Ramp h group mask dur targets) c stRef
    (refQueue c { group := group, mask := mask % 16, mode := 0, blend := 0, minDur := dur, start := 0,
                  targets := targets.take 4 ++ List.replicate 4 0 })

/-- Row FCS-1 RAMP_STOP. -/
def hostFcs1RampStop (h : CmdHdr) (g : Nat) : State → State :=
  let c : Ctx := { h := h, op := 0x10031 }
  hostCmd (.fcs1RampStop h g) c stAny (refStop c g)

end Sys2Proof.Machine
end

