-- ==== Sys2Proof/Machine/Cells.lean ====
section
/-! DEFINITION. The cell table's own rules (R111–R132): state changes, standing, spare capacity, the tally. -/

namespace Sys2Proof.Machine

open Sys2Proof

/-! ### State changes (R116–R121) -/

/-- The rank of a rule-driven change: to FAILED wins, then to ABSENT, then to SUSPECT (R120). (DEDUCED, log 23.) -/
def ruleRank (st : Nat) : Nat := if st = 6 then 3 else if st = 0 then 2 else if st = 3 then 1 else 0

/-- A rule-driven change found for an entry; of two, the stronger stands, and of two alike the one whose rule R117
lists first. (DEDUCED, log 23.) -/
def propose (k st cause : Nat) (s : State) : State :=
  s.modEnt k (fun e =>
    match e.nxt with
    | some (st0, c0) =>
      if ruleRank st0 < ruleRank st ∨ (ruleRank st0 = ruleRank st ∧ cause < c0) then { e with nxt := some (st, cause) }
      else e
    | none => { e with nxt := some (st, cause) })

/-- Whether a rule-driven change starts from a state (R117). -/
def ruleFits (cur st cause : Nat) : Bool :=
  match cause with
  | 0x02 | 0x03 | 0x15 => decide (cur = 0)
  | 0x04 | 0x05 | 0x06 => decide (cur ≤ 1)
  | 0x07 => decide (cur = 1)
  | 0x08 | 0x09 | 0x0A => decide (cur = 2)
  | 0x0B | 0x0C => decide (cur = 3)
  | _ => decide (1 ≤ cur) && decide (cur ≤ 4) && decide (st ≤ 6)

/-- The learning sums cleared (R151). -/
def Entry.noLearn (e : Entry) : Entry := { e with sqq := 0, sqv := 0, nq := 0, lrn := none }

/-- An entry in a state of the observer's learning. -/
def calmSt (st : Nat) : Bool := decide (st = 2) || decide (st = 4)

/-- An entry enters a state at grid time `g`, with its cause and what follows for the observer (R117, R138, R146,
R151). -/
def Entry.enter (g st cause : Nat) (e : Entry) : Entry :=
  let e1 := { e with st := st, cause := cause, nxt := none,
                     since := if calmSt st && !calmSt e.st then g else e.since,
                     good := if st = 3 ∧ e.st ≠ 3 then 0 else e.good, susp := if st = 3 ∧ e.st ≠ 3 then 0 else e.susp,
                     run := if st = 2 ∨ st = 3 then e.run else 0 }
  let e2 := if calmSt e.st && !calmSt st then e1.noLearn else e1
  if st = 0 then { e2.noLearn with seeded := false, v := 0, lost := false, ranged := false, seen := none }
  else e2

/-- The change that the rules have found for an entry, at the rim (R120). -/
def Entry.applyRule (g : Nat) (e : Entry) : Entry :=
  match e.nxt with
  | some (st, c) => if ruleFits e.st st c then e.enter g st c else { e with nxt := none }
  | none => e

/-- All rule-driven changes at a rim. -/
def applyRules (s : State) : State := { s with cells := mapCells (fun _ e => e.applyRule s.frm.g) s.cells }

/-- The standing of an entry for the work of a frame: its state with the changes that the work has found (R159). -/
def Entry.standing (e : Entry) : Nat :=
  match e.nxt with
  | some (st, c) => if ruleFits e.st st c then st else e.st
  | none => e.st

/-- Available for selection (R116). -/
def availSt (st : Nat) : Bool := decide (st = 2) || decide (st = 3)

/-- A non-volatile change made by a rule: checksum, count and journal record (R112, R119, R131, R154). -/
def nvRule (k : Nat) (f : Entry → Entry) (s : State) : State :=
  let e := (f (s.ent k)).touch
  jnlAdd (.cellNv k e.nvBytes)
    { s.setEnt k e with rnk := { s.rnk with chg := satAdd 32 s.rnk.chg 1 } }

/-- SUSPECT_TIMEOUT (R117): the entry has been SUSPECT for RNK_SUSPECT_MAX frames. -/
def suspectTimeout (k : Nat) (s : State) : State :=
  let e := s.ent k
  if e.bound = true ∧ e.st = 3 ∧ s.p 0x6883 ≤ e.susp then propose k 6 0x0C s else s

/-- SUSPECT_RECOVER (R117): RNK_RECOVER consecutive good reports. -/
def suspectRecover (k : Nat) (s : State) : State :=
  let e := s.ent k
  if e.bound = true ∧ e.st = 3 ∧ s.p 0x6882 ≤ e.good then propose k 2 0x0B s else s

/-- MISSED_LIMIT (R117, R147). -/
def missedLimit (k : Nat) (s : State) : State :=
  let e := s.ent k
  if e.bound = true ∧ e.st = 2 ∧ s.p 0x5040 ≤ e.missed then propose k 3 0x09 s else s

/-- SKIP_LIMIT (R117): three consecutive feedback skips. -/
def skipLimit (k : Nat) (s : State) : State :=
  let e := s.ent k
  if e.bound = true ∧ e.st = 2 ∧ 3 ≤ e.skips then propose k 3 0x08 s else s

/-- The conditions of R118 of a DISCOVERED entry: the cause of a mismatch, or whether it may leave. An identity that
R119 did not let the entry learn counts as a mismatch. (DEDUCED, log 22.) -/
def discJudge (s : State) (e : Entry) : Option Nat × Bool :=
  match e.seen with
  | none => (none, false)
  | some c =>
    let mis := if e.id ≠ c.id then some 0x04
      else if e.fb ≠ c.fb then some 0x05
      else if c.gen ≠ (s.lnk.lanes.getD e.lane LaneS.reset).gen then some 0x06 else none
    (mis, e.ranged && e.seeded && mis.isNone)

/-- The fault of a mismatch, once for each discovery (R118). -/
def misFault (k : Nat) (s : State) : State :=
  let e := s.ent k
  if e.misRaised then s
  else raise 0x06 (if e.bound then e.rod else 0x1F) 7 k (s.modEnt k (fun x => { x with misRaised := true }))

/-- A DISCOVERED entry in the work of a frame (R118). -/
def discRule (k : Nat) (s : State) : State :=
  let e := s.ent k
  if e.st = 1 then
    match discJudge s e with
    | (some c, _) =>
      misFault k (if e.cause = c then s else propose k 1 c s)
    | (none, true) => propose k (if e.disp = 1 then 4 else 2) 0x07 s
    | (none, false) => s
  else s

/-- The rules of R117 on every bound entry in the work of a frame, after the observer. -/
def cellRules (s : State) : State :=
  let ks := s.boundL.map Prod.fst
  let s1 := { s with cells := mapCells (fun _ e => if e.st = 3 then { e with susp := e.susp + 1 } else e) s.cells }
  ks.foldl (fun a k => discRule k (suspectRecover k (suspectTimeout k (skipLimit k (missedLimit k a))))) s1

/-! ### Spare capacity (R124–R127) -/

/-- AVAIL and AVAIL_FB of every rod, from the standing for the work of the frame (R124). -/
def countAvail (s : State) : State :=
  let spare := s.rnk.spare.mapIdx (fun r x =>
    let l := (s.rodL r).filter (fun e => availSt e.2.standing)
    { x with avail := l.length, fb := (l.filter (fun e => e.2.fb)).length })
  { s with rnk := { s.rnk with spare := spare } }

/-- The spare count that counts `avail` and `fb` give (R124). -/
def spareOf (s : State) (r avail fb : Nat) : Int :=
  let a : Int := avail - s.pI (0x6800 + r)
  if s.pI (0x6810 + r) = 0 then a else min a (fb - s.pI (0x6810 + r))

/-- The cell voltage target and whether the ceiling binds (R126). -/
def vtarget (s : State) (r avail : Nat) (margin : Bool) : Nat × Bool :=
  let vn := s.p (0x6850 + r)
  let vc := s.p (0x6860 + r)
  if vn = 0 then (0, false)
  else if margin = false ∨ avail = 0 then (vn, false)
  else
    let vt := cdiv (vn * (s.p (0x6800 + r) + s.p (0x6830 + r))) avail
    if vc < vt then (vc, true) else (vt, false)

/-- Counts, flags and target of a rod at a rim (R124–R126). -/
def spareJudge (s : State) (r : Nat) (x : Spare) : Spare :=
  let sv := spareOf s r x.avail x.fb
  let sup := decide (s.p (0x6800 + r) ≠ 0)
  let margin := sup && decide (sv ≤ s.pI (0x6830 + r))
  let t := vtarget s r x.avail margin
  { x with bound := (s.rodL r).length, s := sv, sup := sup, low := sup && decide (sv ≤ s.pI (0x6820 + r)),
           margin := margin, exh := sup && decide (sv ≤ s.pI (0x6840 + r)),
           short := sup && decide (sv < s.pI (0x6840 + r)), vt := t.1, ceil := t.2 }

/-- The target of a rod passed on to its set-point (R126). -/
def vtgtPass (r : Nat) (s : State) : State :=
  let x := s.rnk.spare.getD r Spare.reset
  match s.pO (0x6870 + r) with
  | none => s
  | some m =>
    if s.p (0x6850 + r) = 0 ∨ x.passed = some x.vt ∨ s.st = .safeStop ∨ s.st = .safeBlocked then
      { s with rnk := { s.rnk with spare := s.rnk.spare.set r { x with pend := false } } }
    else if 16 ≤ spDepth s (m / 8) then
      raiseIf (!x.pend) 0x06 r 6 0 { s with rnk := { s.rnk with spare := s.rnk.spare.set r { x with pend := true } } }
    else spAppendAuto m x.vt
      { s with rnk := { s.rnk with spare := s.rnk.spare.set r { x with pend := false, passed := some x.vt } } }

/-- The spare supervision at a rim: flags, their faults and the targets (R124–R126). -/
def spareStage (s : State) : State :=
  let old := s.rnk.spare
  let new := old.mapIdx (fun r x => spareJudge s r x)
  let s1 := { s with rnk := { s.rnk with spare := new } }
  let s2 := (List.range 12).foldl (fun a r =>
    let o := old.getD r Spare.reset
    let n := new.getD r Spare.reset
    raiseIf (n.short && !o.short) 0x06 r 5 0 (raiseIf (n.exh && !o.exh) 0x06 r 4 0
      (raiseIf (n.margin && !o.margin) 0x06 r 3 0 (raiseIf (n.low && !o.low) 0x06 r 2 0 a)))) s1
  (List.range 12).foldl (fun a r => vtgtPass r a) s2

/-- A rod that is SHORT now and was not at the rim before (R127). -/
def newShort (old : List Spare) (s : State) : Bool :=
  (List.range 12).any (fun r =>
    (s.rnk.spare.getD r Spare.reset).short && !(old.getD r Spare.reset).short)

/-- A supervised rod is SHORT (R127). -/
def anyShort (s : State) : Bool := s.rnk.spare.any (fun x => x.sup && x.short)

/-- Rods that would be SHORT without the entries that `gone` selects and that lose an available entry by it (R128). -/
def wouldShort (s : State) (gone : Nat → Entry → Bool) : Bool :=
  (List.range 12).any (fun r =>
    let l := (s.rodL r).filter (fun e => availSt e.2.st)
    let k := l.filter (fun e => !gone e.1 e.2)
    decide (s.p (0x6800 + r) ≠ 0) && decide (k.length < l.length) &&
      decide (spareOf s r k.length (k.filter (fun e => e.2.fb)).length < s.pI (0x6840 + r)))

/-! ### The tally (R129, R130) -/

/-- Edges of a change of level (R129). -/
def edgesOf (a b : Nat) : Nat :=
  if a = b then 0
  else if (a = 1 ∧ b = 2) ∨ (a = 2 ∧ b = 1) then 2
  else if a ≤ 2 ∧ b ≤ 2 then 1
  else if (a = 1 ∨ a = 2) ∧ b = 4 then 1
  else 0

/-- The level that an order leaves a cell with. -/
def Order.closing (o : Order) : Nat := if o.e.isSome then o.lv1 else o.lv0

/-- The edges that an order makes from a level. -/
def orderEdges (from_ : Nat) (o : Order) : Nat :=
  edgesOf from_ o.lv0 + (if o.e.isSome then edgesOf o.lv0 o.lv1 else 0)

/-- An entry's tally advanced by edges, hard or not (R129, R130). -/
def Entry.tally (n : Nat) (hard : Bool) (e : Entry) : Entry :=
  if n = 0 then e
  else { e with swCount := satAdd 32 e.swCount n, edges := satAdd 40 e.edges n,
                hard := if hard then satAdd 24 e.hard n else e.hard }.touch

/-- The edges of rod `r` count as hard in the frame (R130). -/
def hardFrame (s : State) (r : Nat) : Bool :=
  let x := s.adc.rods.getD r RodI.reset
  !x.valid || decide (s.p 0x6880 * 64 ≤ x.cur.natAbs)

/-- The changed entries joined to those of the next batch (R131). -/
def markDirty (ks : List Nat) (s : State) : State :=
  { s with rnk := { s.rnk with dirty := s.rnk.dirty ++ ks.filter (fun k => !s.rnk.dirty.contains k) } }

end Sys2Proof.Machine
end

