-- ==== Sys2Proof/Machine/Obs.lean ====
section
/-! DEFINITION. The charge observer (R137–R156): stage 3 of a frame's work. -/

namespace Sys2Proof.Machine

open Sys2Proof

/-! ### Conduction and the model (R139–R141) -/

/-- Conduction of a cell under a code of R115, for the sign of the rod current (R139). -/
def conduct (fb : Bool) (code : Nat) (i : Int) : Int :=
  match code with
  | 1 => 1
  | 2 => -1
  | 4 => if 0 < i then 1 else if fb = true ∧ i < 0 then -1 else 0
  | _ => 0

/-- The conduction time over [a, b) under the levels `l`, the level before the first being `c` (R139). -/
def condTime (fb : Bool) (i : Int) (b : Nat) : List (Nat × Nat) → Nat → Nat → Int
  | [], c, a => if a < b then conduct fb c i * ((b - a : Nat) : Int) else 0
  | (t, c') :: rest, c, a =>
    if t ≤ a then condTime fb i b rest c' a
    else if t < b then conduct fb c i * ((t - a : Nat) : Int) + condTime fb i b rest c' t
    else conduct fb c i * ((b - a : Nat) : Int)

/-- The conduction time of an entry over [a, b). -/
def Entry.tau (e : Entry) (i : Int) (a b : Nat) : Int := if a < b then condTime e.fb i b e.lev 4 a else 0

/-- The current of rod `r` in a window, 0 where it was not valid. -/
def Win.amp (w : Win) (r : Nat) : Int := if w.valid.getD r false then w.cur.getD r 0 else 0

/-- The part of a window that lies in [a, b). -/
def Win.part (w : Win) (a b : Int) : Nat × Nat := ((max a w.t0).toNat, (min b w.t1).toNat)

/-- The model change of an entry over the part of a window in [a, b), in 2^−32 V (R141). -/
def dvWin (s : State) (e : Entry) (a b : Int) (w : Win) : Int :=
  let x := w.part a b
  if x.1 < x.2 then
    rdiv (w.amp e.rod * e.tau (w.amp e.rod) x.1 x.2 * 2 ^ 42) (1000 * e.cEst) -
      rdiv (s.pI (0x5020 + e.rod) * ((x.2 - x.1 : Nat) : Int) * 2 ^ 48) (1000000 * e.cEst)
  else 0

/-- The model change of an entry over [a, b) (R141, R143). -/
def dvModel (s : State) (e : Entry) (a b : Int) : Int := sumI (s.obs.wins.map (dvWin s e a b))

/-- The windows that overlap [a, b). -/
def winsOver (s : State) (a b : Int) : List Win :=
  s.obs.wins.filter (fun w => decide (a < w.t1) && decide ((w.t0 : Int) < b))

/-- A window of [t, now) had no valid current of the rod (R143). -/
def spanLost (s : State) (r : Nat) (a b : Int) : Bool := (winsOver s a b).any (fun w => !w.valid.getD r false)

/-- V_EST of an entry: the estimate in 2^−16 V (R137). -/
def Entry.vEst (e : Entry) : Int := if e.seeded then satS 32 (rshr e.v 16) else 0

/-- V_EST as the entry shows it: an entry that is not seeded reads 0 (R137). -/
def observedSt (st : Nat) : Bool := decide (1 ≤ st) && decide (st ≤ 4)

/-! ### Learning (R149–R151) -/

/-- The modelled charge of an entry over [a, b), in µC (R149). -/
def chargeOver (s : State) (e : Entry) (a b : Int) : Int :=
  rdiv (sumI (s.obs.wins.map (fun w =>
    let x := w.part a b
    if x.1 < x.2 then w.amp e.rod * e.tau (w.amp e.rod) x.1 x.2 else 0))) 64000

/-- Whether the interval between two reports qualifies for learning (R149). -/
def learns (s : State) (e : Entry) (t1 t2 : Int) : Bool :=
  let imin := s.p (0x5030 + e.rod)
  let ws := winsOver s t1 (t2 + 1)
  calmSt e.st && decide (imin ≠ 0) && decide (ws.length ≤ s.p 0x5044) &&
    ws.all (fun w => w.valid.getD e.rod false && decide (imin * 64 ≤ (w.cur.getD e.rod 0).natAbs)) &&
    decide (s.p 0x5043 ≤ (chargeOver s e t1 t2).natAbs) &&
    (decide ((e.since : Int) < t1) || ws.all (fun w => decide (w.t1 = e.since) || decide (e.since ≤ w.t0)))

/-- The learning sums of an entry after a qualifying interval (R149). -/
def Entry.learn (s : State) (t1 v1 t2 v2 : Int) (e : Entry) : Entry :=
  let q := chargeOver s e t1 t2
  let dv := v2 - v1 + rdiv (s.pI (0x5020 + e.rod) * (t2 - t1) * 2 ^ 32) (1000000 * e.cEst)
  { e with sqq := e.sqq + (q * q).toNat, sqv := e.sqv + q * dv, nq := e.nq + 1 }

/-- The block estimate of the sums, none where it is rejected (R150). (DEDUCED, log 20.) -/
def blockEst (s : State) (e : Entry) : Option Int :=
  if e.sqv ≤ 0 then none
  else
    let c := rdiv (e.sqq * 2 ^ 32) e.sqv.toNat
    if s.pI 0x5047 * e.cNom * 4 ≤ c ∧ c < s.pI 0x5048 * e.cNom * 4 then some c else none

/-- OBS_CL_BLOCK: a block estimate where NQ has reached OBS_CL_N (R150). -/
def obsClBlock (k : Nat) (s : State) : State :=
  let e := s.ent k
  if e.bound = true ∧ s.p 0x5045 ≤ e.nq then
    let e1 := { e with sqq := 0, sqv := 0, nq := 0 }
    match blockEst s e with
    | some c =>
      let est := satU 32 (e.cEst + rdiv (c - e.cEst) (2 ^ s.p 0x5046))
      markDirty [k] { s.setEnt k ({ e1 with cEst := est, blkAcc := true }.touch) with
        obs := { s.obs with clBlocks := satAdd 32 s.obs.clBlocks 1 } }
    | none =>
      raise 0x05 e.rod 3 k { s.setEnt k e1 with obs := { s.obs with clRej := satAdd 32 s.obs.clRej 1 } }
  else s

/-! ### Reports (R142–R148) -/

/-- The report's t_m as the entry publishes it: frame and ns after that frame's opening rim (R143). -/
def rptStamp (s : State) (tm : Int) : Nat × Nat :=
  match s.obs.wins.findIdx? (fun w => decide ((w.t0 : Int) ≤ tm) && decide (tm < w.t1)) with
  | some i => ((s.frm.count + 2 ^ 48 - 1 - i) % 2 ^ 48, (tm - (s.obs.wins.getD i { t0 := 0, t1 := 0, cur := [], valid := [] }).t0).toNat)
  | none => (s.frm.count, (tm - s.frm.g).toNat)

/-- An estimate set from a report: a seed, a replacement or a reseed (R143, R144, R146). -/
def Entry.seedFrom (s : State) (tm vrep : Int) (e : Entry) : Entry :=
  let st := rptStamp s tm
  { e with v := satS 48 (vrep * 2 ^ 16 + dvModel s e tm s.frm.g), seeded := true, missed := 0, lastTm := some tm,
           rptFrame := st.1, rptNs := st.2, lrn := none, run := 0 }

/-- OBS_RESEED: the run of implausible reports of a SUSPECT entry has reached OBS_RESEED (R146). -/
def obsReseed (k : Nat) (s : State) : State :=
  let e := s.ent k
  if e.bound = true ∧ e.st = 3 ∧ s.p 0x5042 ≠ 0 ∧ s.p 0x5042 ≤ e.run then
    raise 0x05 e.rod 2 k { s.setEnt k ((e.seedFrom s e.runT e.runV).noLearn) with
      obs := { s.obs with reseeds := satAdd 32 s.obs.reseeds 1 } }
  else s

/-- The instant before which a report is stale (R142). -/
def staleBefore (s : State) : Int :=
  match (s.obs.wins.take (s.p 0x5041)).getLast? with
  | some w => w.t0
  | none => s.frm.g

/-- Whether a report is discarded: time error, stale or out of order (R142). -/
def rptBad (s : State) (e : Entry) (r : Rpt) : Bool :=
  decide ((r.tRx : Int) ≤ r.tm) || decide (r.tm < staleBefore s) ||
    (match e.lastTm with | some t => decide (r.tm ≤ t) | none => false)

/-- An implausible report (R145, R146). -/
def rptImpl (k : Nat) (r : Rpt) (s : State) : State :=
  let e := s.ent k
  let plaus : Int := s.pI (0x5010 + e.rod) * 2 ^ 28
  let agrees := decide (0 < e.run) &&
    decide (((r.vrep - e.runV) * 2 ^ 16 - dvModel s e e.runT r.tm).natAbs < plaus.natAbs)
  let run := if e.st = 2 ∨ e.st = 3 then (if agrees then e.run + 1 else 1) else e.run
  let e1 := { e with missed := 0, good := 0, run := run, runT := if e.st = 2 ∨ e.st = 3 then r.tm else e.runT,
                     runV := if e.st = 2 ∨ e.st = 3 then r.vrep else e.runV, lrn := none }
  let o := s.obs.rods.getD e.rod ObsRod.reset
  let s1 := { s.setEnt k e1 with obs := { s.obs with
    implN := satAdd 32 s.obs.implN 1, rods := s.obs.rods.set e.rod { o with impl := satAdd 32 o.impl 1 } } }
  let s2 := raise 0x05 e.rod 1 k (if e.st = 2 then propose k 3 0x0A s1 else s1)
  obsReseed k s2

/-- A report applied with the gain (R143), with its part in recovery and learning. -/
def rptApply (k : Nat) (r : Rpt) (err : Int) (s : State) : State :=
  let e := s.ent k
  let st := rptStamp s r.tm
  let e1 := { e with v := satS 48 (e.v + rshr (err * s.pI (0x5000 + e.rod)) 16), missed := 0, lastTm := some r.tm,
                     rptFrame := st.1, rptNs := st.2, run := 0, lost := false,
                     good := if e.st = 3 then e.good + 1 else e.good,
                     lrn := if calmSt e.st then some (r.tm, r.vrep) else none }
  let e2 := match e.lrn with
    | some (t1, v1) => if learns s e t1 r.tm then e1.learn s t1 v1 r.tm r.vrep else e1
    | none => e1
  let o := s.obs.rods.getD e.rod ObsRod.reset
  let inn := max o.innov (satU 32 (openDiv 2 err.natAbs (2 ^ 16)))
  obsClBlock k { s.setEnt k e2 with obs := { s.obs with
    applied := satAdd 32 s.obs.applied 1, rods := s.obs.rods.set e.rod { o with innov := inn } } }

/-- One report in the work of a frame (R142–R148). -/
def obsReport (r : Rpt) (s : State) : State :=
  let k := r.entry
  let e := s.ent k
  if e.bound = false ∨ observedSt e.st = false then s
  else if rptBad s e r then { s with obs := { s.obs with stale := satAdd 32 s.obs.stale 1 } }
  else
    let lost := spanLost s e.rod r.tm s.frm.g
    if e.seeded = false ∨ lost = true then
      { s.setEnt k { e.seedFrom s r.tm r.vrep with lost := if lost then e.lost else false } with
        obs := { s.obs with seededN := satAdd 32 s.obs.seededN 1 } }
    else
      let err := r.vrep * 2 ^ 16 - (e.v - dvModel s e r.tm s.frm.g)
      if s.pI (0x5010 + e.rod) * 2 ^ 28 ≤ err.natAbs then rptImpl k r s
      else rptApply k r err s

/-- An expected report that is missing (R147). -/
def obsMissing (k : Nat) (s : State) : State :=
  s.modEnt k (fun e => if e.bound then { e with missed := satAdd 8 e.missed 1, good := 0 } else e)

/-! ### Wear (R152–R154) -/

/-- One entry's trend point (R153): the age grows by the hours of the period, and a point is taken where a block was
accepted since the last. The divisions' rounding is open (DESIGN CHOICE, log 3). -/
def Entry.trendPoint (hours : Nat) (e : Entry) : Entry :=
  let age := min (2 ^ 32 - 1) (e.trend.age + hours)
  if e.blkAcc then
    let rate := satS 32 (openDiv 3 (((e.cEst : Int) - e.trend.cLast) * 24) age)
    let slope := if e.trend.points = 0 then e.trend.slope
      else if e.trend.points = 1 then rate else e.trend.slope + rdiv (rate - e.trend.slope) 16
    { e with blkAcc := false,
             trend := { cLast := e.cEst, slope := slope, points := satAdd 16 e.trend.points 1, age := 0 } }
  else { e with trend := { e.trend with age := age } }

/-- TREND_POINT: every OBS_TREND_PERIOD hours of operation (R153). -/
def trendPoint (s : State) : State :=
  { s with cells := mapCells (fun _ e => if e.bound then e.trendPoint (s.p 0x504C) else e) s.cells }

/-- The wear level that the conditions of R154 give. -/
def wearLevel (s : State) (e : Entry) : Nat :=
  let c : Int := e.cEst * 2 ^ 14
  let eol := s.pI 0x504A * e.cNom * 2 ^ 16
  if c ≤ eol then 2
  else if s.p 0x504D ≤ e.trend.points ∧ e.trend.slope < 0 ∧
      c - eol ≤ s.pI 0x504B * (-e.trend.slope) * 2 ^ 14 then 2
  else if c ≤ s.pI 0x5049 * e.cNom * 2 ^ 16 then 1 else 0

/-- The words of an entry's non-volatile part. -/
def nvWords (e : Entry) : List Nat := (List.range 8).map (fun i => fld e.nvBytes (4 * i) 4)

/-- The words of a trend record (DESIGN CHOICE, log 6: their places are the model's choice). -/
def trendWords (t : Trend) : List Nat := [t.cLast, toBits 32 t.slope, t.points, t.age]

/-- WEAR of an entry raised, with its fault, journal record and event record (R154, R444). (DESIGN CHOICE, log 6.) -/
def wearRise (k : Nat) (s : State) : State :=
  let e := s.ent k
  let w := wearLevel s e
  if e.bound = true ∧ e.wear < w then
    let s1 := nvRule k (fun x => { x with wear := w }) s
    let s2 := raise 0x05 e.rod (if w = 1 then 4 else 5) k s1
    evrPush (mkTrig s2 2 0xFF [k + 2 ^ 16, 0] (nvWords (s2.ent k) ++ trendWords e.trend) s2.now) s2
  else s

/-! ### Stage 3 -/

/-- An entry advanced over the newest window (R141, R148). -/
def Entry.advance (s : State) (e : Entry) : Entry :=
  match s.obs.wins with
  | w :: _ =>
    if e.seeded = true ∧ observedSt e.st = true then
      { e with v := satS 48 (e.v + dvWin s e w.t0 w.t1 w), lost := e.lost || !w.valid.getD e.rod false }
    else e
  | [] => e

/-- The window that closes at this rim, with the rod currents that its averages gave (R140). -/
def newWin (t0 : Nat) (s : State) : Win :=
  { t0 := t0, t1 := s.frm.g, cur := s.adc.rods.map RodI.cur, valid := s.adc.rods.map RodI.valid }

/-- A rod that enters a current loss loses its entries' learning sums (R151). -/
def lossClear (s : State) : State :=
  match s.obs.wins with
  | w :: v :: _ =>
    { s with cells := mapCells (fun _ e =>
        if e.bound && v.valid.getD e.rod false && !w.valid.getD e.rod false then e.noLearn else e) s.cells }
  | _ => s

/-- The sums of a rod over the available entries (R155). Of no entry, VMIN and VMAX are open (DESIGN CHOICE, log 2). -/
def obsRod (s : State) (r : Nat) (o : ObsRod) : ObsRod :=
  let l := ((s.rodL r).filter (fun e => availSt e.2.standing)).map Prod.snd
  let vs := l.map Entry.vEst
  let lost := match s.obs.wins with | w :: _ => !w.valid.getD r false | [] => true
  let recov := !lost && l.any (fun e => e.lost)
  { o with
    vsum := satS 32 (rdiv (sumI vs) (2 ^ 12)),
    energy := satU 32 (rdiv (sumI (l.map (fun e => e.cEst * e.vEst ^ 2))) (2 * 1000000 * 2 ^ 48)),
    vmin := match vs with | v :: t => t.foldl min v | [] => Config.openVal 1 r,
    vmax := match vs with | v :: t => t.foldl max v | [] => Config.openVal 2 r,
    valid := !l.isEmpty && !lost && !recov, lost := lost, recov := recov }

/-- Stage 3 of the work that begins at a rim; `t0` is the rim before it. -/
def obsStage (t0 : Nat) (s : State) : State :=
  let s0 := if s.frm.rims ≤ 1 then s
    else { s with obs := { s.obs with wins := (newWin t0 s :: s.obs.wins).take 10 } }
  let s1 := lossClear { s0 with obs := { s0.obs with rods := s0.obs.rods.map (fun o => { o with innov := 0 }) } }
  let s2 := if s.frm.rims ≤ 1 then s1
    else { s1 with cells := mapCells (fun _ e => if e.bound then e.advance s1 else e) s1.cells }
  let rpts := sortBy (fun a b => decide (a.tm < b.tm)) s2.obs.intake
  let s3 := rpts.foldl (fun a r => obsReport r a) s2
  let s4 := s3.obs.missing.foldl (fun a k => obsMissing k a) s3
  let s5 := { s4 with obs := { s4.obs with intake := [], missing := [] } }
  (s5.boundL.map Prod.fst).foldl (fun a k => wearRise k a) s5

/-- The end of stage 3, once the rules of the cell table have been applied: counts and sums (R124, R155). -/
def obsSums (s : State) : State :=
  let s1 := countAvail s
  { s1 with obs := { s1.obs with rods := s1.obs.rods.mapIdx (fun r o => obsRod s1 r o) } }

end Sys2Proof.Machine
end

