-- ==== Sys2Proof/Machine/Select.lean ====
section
/-! DEFINITION. Ranking and cell selection (R158–R177): stage 4 and the choice of stage 5. -/

namespace Sys2Proof.Machine

open Sys2Proof

/-- Sense and rest of a rod in stage 4 (R161). -/
def senseRod (s : State) (r : Nat) (x : RnkRod) : RnkRod :=
  let a := s.adc.rods.getD r RodI.reset
  let band := s.pI (0x6000 + r) * 64
  let y := { x with cur := a.cur, valid := a.valid }
  if a.valid = false then { y with rest := true }
  else if band ≤ a.cur then { y with neg := false, rest := false }
  else if a.cur ≤ -band then { y with neg := true, rest := false }
  else { y with rest := true }

/-- Stage 4 of a frame's work. -/
def senseStage (s : State) : State :=
  { s with rnk := { s.rnk with rods := s.rnk.rods.mapIdx (fun r x => senseRod s r x) } }

/-! ### One rod's selection -/

/-- A candidate: entry index, standing SUSPECT, voltage estimate, KIND, set code of the last released plan, whether its
code may change at t0, and whether an edge at t0 keeps its minimum switching interval (R165). -/
structure Cand where
  k    : Nat
  susp : Bool
  v    : Int
  fb   : Bool
  code : Nat
  perm : Bool
  edge : Bool
deriving DecidableEq, Repr

/-- Whether an edge of an entry at an instant keeps its minimum switching interval after `last` (R165). -/
def intervalOk (minInt : Nat) (last : Option Nat) (t : Nat) : Bool :=
  decide (minInt = 0) || (match last with | none => true | some l => decide (l + 16 * minInt ≤ t))

/-- Whether an entry's code may change at an instant: a change from block is always permitted (R165, R166). -/
def permAt (e : Entry) (t : Nat) : Bool := decide (4 ≤ e.ord.code) || intervalOk e.minInt e.lastEdge t

/-- The eligible entries of a rod as candidates for a plan that opens at `t0` (R159). -/
def candsOf (s : State) (r t0 : Nat) : List Cand :=
  ((s.rodL r).filter (fun e => availSt e.2.standing)).map (fun e =>
    { k := e.1, susp := decide (e.2.standing = 3), v := e.2.vEst, fb := e.2.fb, code := e.2.ord.code,
      perm := permAt e.2 t0, edge := intervalOk e.2.minInt e.2.lastEdge t0 })

/-- Order of the P or N ranking (R162): SUSPECT last, then the key, then the index; `up` for rising voltage. -/
def candBefore (up : Bool) (a b : Cand) : Bool :=
  if a.susp ≠ b.susp then !a.susp
  else if a.v ≠ b.v then (if up then decide (a.v < b.v) else decide (b.v < a.v))
  else decide (a.k < b.k)

/-- Candidates in an order of R162. -/
def rankBy (up : Bool) (l : List Cand) : List Cand := sortBy (candBefore up) l

/-- How far `w` lies above `b` in an order's key. -/
def keyGap (up : Bool) (w b : Cand) : Int := if up then w.v - b.v else b.v - w.v

/-- A set under construction: its members in the pool's order, and the cells passed over (R167). -/
structure Build where
  keep   : List Cand
  passed : List Nat
  swaps  : Nat
  stuck  : Bool
deriving DecidableEq, Repr

/-- Shrink the set to `n` cells (R168). -/
def shrinkTo (n : Nat) : Nat → Build → Build
  | 0, b => b
  | fuel + 1, b =>
    if n < b.keep.length then
      let rev := b.keep.reverse
      let ovr := (rev.takeWhile (fun c => !c.perm)).map Cand.k
      match rev.find? (fun c => c.perm) with
      | some w => shrinkTo n fuel { b with keep := b.keep.filter (fun c => c.k != w.k), passed := b.passed ++ ovr }
      | none => { b with passed := b.passed ++ ovr, stuck := true }
    else b

/-- The pool without the set. -/
def outside (pool : List Cand) (keep : List Cand) : List Cand :=
  pool.filter (fun c => !(keep.any (fun x => x.k == c.k)))

/-- A cell put into a set, which stays in the pool's order. -/
def putIn (pool keep : List Cand) (c : Cand) : List Cand :=
  pool.filter (fun x => x.k == c.k || keep.any (fun y => y.k == x.k))

/-- Grow the set to `n` cells (R168, R169). -/
def growTo (n : Nat) (pool : List Cand) : Nat → Build → Build
  | 0, b => b
  | fuel + 1, b =>
    if b.keep.length < n then
      let out := outside pool b.keep
      let ovr := (out.takeWhile (fun c => !c.perm)).map Cand.k
      match out.find? (fun c => c.perm) with
      | some x => growTo n pool fuel { b with keep := putIn pool b.keep x, passed := b.passed ++ ovr }
      | none => { b with passed := b.passed ++ ovr, stuck := true }
    else b

/-- The swap condition (R170); `rank` is the pool's order. -/
def swapOk (s : State) (r : Nat) (up : Bool) (pool : List Cand) (n : Nat) (rest : Bool) (w b : Cand) : Bool :=
  w.susp ||
    (!rest && decide (n + s.p (0x6010 + r) ≤ pool.findIdx (fun c => c.k == w.k)) &&
      decide (s.pI (0x6020 + r) * 2 ^ 12 ≤ keyGap up w b))

/-- The next pair of the balance loop with the cells it passes over, and whether it qualifies (R167, R170). -/
def swapPair (s : State) (r : Nat) (up : Bool) (pool : List Cand) (n : Nat) (rest : Bool) (keep : List Cand) :
    Option (Cand × Cand × List Nat × Bool) :=
  let rev := keep.reverse
  let out := (outside pool keep).filter (fun c => !c.susp)
  match rev.find? (fun c => c.perm), out.find? (fun c => c.perm) with
  | some w, some b =>
    let pw := (rev.takeWhile (fun c => !c.perm)).filter (fun c => swapOk s r up pool n rest c b)
    let pb := (out.takeWhile (fun c => !c.perm)).filter (fun c => swapOk s r up pool n rest w c)
    some (w, b, (pw ++ pb).map Cand.k, swapOk s r up pool n rest w b)
  | _, _ => none

/-- The balance loop (R168, R170), `fuel` swaps at most. -/
def swapLoop (s : State) (r : Nat) (up : Bool) (pool : List Cand) (n : Nat) (rest : Bool) : Nat → Build → Build
  | 0, b => b
  | fuel + 1, b =>
    match swapPair s r up pool n rest b.keep with
    | some (w, x, ovr, ok) =>
      if ok then
        swapLoop s r up pool n rest fuel
          { b with keep := putIn pool (b.keep.filter (fun c => c.k != w.k)) x, passed := b.passed ++ ovr,
                   swaps := b.swaps + 1 }
      else { b with passed := b.passed ++ ovr }
    | none => b

/-- A set filled (R168), from the start where `first` (R160, R173): the build and whether the swap limit stopped it (R170). -/
def selectSet (s : State) (r : Nat) (up : Bool) (pool : List Cand) (n inc : Nat) (rest first : Bool) : Build × Bool :=
  let b0 : Build := { keep := pool.filter (fun c => !first && c.code == inc), passed := [], swaps := 0, stuck := false }
  let b1 := shrinkTo n pool.length b0
  let b2 := growTo n pool pool.length b1
  let m := s.p (0x6030 + r)
  if first then (b2, false)
  else
    let b3 := swapLoop s r up pool n rest m b2
    let lim := decide (m ≠ 0) && decide (b3.swaps = m) &&
      (match swapPair s r up pool n rest b3.keep with | some x => x.2.2.2 | none => false)
    (b3, lim)

/-- What selection returns for a rod (R158). -/
structure Sel where
  pos    : List Nat
  neg    : List Nat
  part   : Option Nat
  kept   : Bool
  swaps  : Nat
  passed : List Nat
  limit  : Bool
  suspIn : Bool
  ends   : Option (Nat × Nat)
  fresh  : Bool
deriving DecidableEq, Repr

/-- The partial cell (R171): the previous one where it is kept, or the best of the pool. -/
def choosePart (s : State) (r : Nat) (up : Bool) (pool : List Cand) (ps : Nat) (rest : Bool) (prev : Option (Nat × Nat)) :
    Option Nat × Bool :=
  let l := rankBy up pool
  let old := match prev with
    | some (k, q) => if q = ps then l.find? (fun c => c.k == k) else none
    | none => none
  match old, l.head? with
  | some p, some b =>
    if rest = true ∨ keyGap up p b < s.pI (0x6020 + r) * 2 ^ 12 then (some p.k, true) else (some b.k, decide (b.k = p.k))
  | _, some b => (some b.k, false)
  | _, none => (none, false)

/-- Selection for rod `r` (R168–R171): demand `np`, `nn`, sign `ps` (0 none, 1, 2), plan opening at `t0`. -/
def selectRod (s : State) (r t0 np nn ps : Nat) : Sel :=
  let x := s.rnk.rods.getD r RnkRod.reset
  let cs := candsOf s r t0
  let upP := !x.neg
  let all := rankBy upP cs
  let nB := selectSet s r x.neg (rankBy x.neg (cs.filter (fun c => c.fb))) nn 2 x.rest x.blk
  let pool := all.filter (fun c => !(nB.1.keep.any (fun y => y.k == c.k)))
  let pB := selectSet s r upP pool np 1 x.rest x.blk
  let inSet := fun c : Cand => nB.1.keep.any (fun y => y.k == c.k) || pB.1.keep.any (fun y => y.k == c.k)
  let px := cs.filter (fun c => !c.susp && !inSet c && (decide (ps = 1) || c.fb) &&
    decide (c.code = 0) && c.edge)
  let part := if ps = 0 then (none, false)
    else choosePart s r (if ps = 1 then upP else x.neg) px ps x.rest x.prev
  { pos := pB.1.keep.map Cand.k, neg := nB.1.keep.map Cand.k, part := part.1, kept := part.2,
    swaps := nB.1.swaps + pB.1.swaps, passed := (nB.1.passed ++ pB.1.passed).eraseDups, limit := nB.2 || pB.2,
    suspIn := (nB.1.keep ++ pB.1.keep).any (fun c => c.susp),
    ends := match all.head?, all.getLast? with | some a, some b => some (a.k, b.k) | _, _ => none,
    fresh := x.blk }

/-- The registers of a rod's selection (R178). -/
def RnkRod.withSel (x : RnkRod) (sel : Sel) (np nn ps : Nat) : RnkRod :=
  { x with np := np, nn := nn, npA := sel.pos.length, nnA := sel.neg.length, ps := ps, kept := sel.kept,
           part := sel.part, swaps := sel.swaps, worst := sel.ends.map Prod.snd, best := sel.ends.map Prod.fst,
           short := decide (sel.pos.length ≠ np) || decide (sel.neg.length ≠ nn) || (decide (ps ≠ 0) && sel.part.isNone),
           limit := sel.limit, suspIn := sel.suspIn, rebuilt := sel.fresh, passed := sel.passed }

end Sys2Proof.Machine
end

