-- ==== Sys2Proof/Machine/Trip.lean ====
section
/-! DEFINITION. Trips, Safe Stop, Safe Block and safety telegrams (R278–R311). -/

namespace Sys2Proof.Machine

open Sys2Proof

/-! ### Levels of a cell over time (R140, R181) -/

/-- The level in force just before an instant: that of the last point before it. -/
def levBefore (l : List (Nat × Nat)) (t : Nat) : Nat :=
  match (l.filter (fun p => decide (p.1 < t))).getLast? with
  | some p => p.2
  | none => 4

/-- The level from which the points have no end. -/
def levLast (l : List (Nat × Nat)) : Nat := match l.getLast? with | some p => p.2 | none => 4

/-- A change of level at an instant, recorded where it is one. -/
def levPut (l : List (Nat × Nat)) (t c : Nat) : List (Nat × Nat) := if levLast l = c then l else l ++ [(t, c)]

/-- The edges among points, `c` being the level before the first: instant and count (R129). -/
def levEdges : Nat → List (Nat × Nat) → List (Nat × Nat)
  | _, [] => []
  | c, (t, d) :: rest => if edgesOf c d = 0 then levEdges d rest else (t, edgesOf c d) :: levEdges d rest

/-- The last edge among points, `old` where there is none. -/
def lastEdgeOf (old : Option Nat) (c : Nat) (l : List (Nat × Nat)) : Option Nat :=
  match (levEdges c l).getLast? with
  | some p => some p.1
  | none => old

/-! ### Effective actions (R282, R283) -/

/-- How severe an action is, actions coded as in HDR2: bypass-fire, block, hold, none. -/
def actRank (a : Nat) : Nat := match a with | 2 => 3 | 1 => 2 | 3 => 1 | _ => 0

/-- The more severe of two actions. -/
def worse (a b : Nat) : Nat := if actRank a < actRank b then b else a

/-- The configuration of trip input `i` in force. -/
def tripCfg (s : State) (i : Nat) : TripCfg := s.trp.cfg.getD i TripCfg.reset

/-- The most severe action of all latched sources over rod `r` (R282). -/
def actOf (s : State) (r : Nat) : Nat :=
  let ins := (bitsOf 16 s.trp.latch).map (fun i =>
    let c := tripCfg s i
    if tb c.mask r then c.act else 0)
  let a := ins.foldl worse 0
  if s.trp.sbLatch || tb s.trp.holdEsc r || (s.trp.tgLatch && tb s.trp.tgMask r) then worse a 1 else a

/-- Time of one block or code group, in 1/100 ns (R210, R245). -/
def blockTime (gen : Nat) : Nat := match gen with | 1 => 800 | 2 => 640 | _ => 256

/-- Length of the three copies of a trip block set, in 1/100 ns (R248, R270). -/
def tripLen (gen : Nat) : Nat := if gen = 1 then 14400 else 3 * blockTime gen

/-- The first bit of an event's first copy on a lane, in 1/100 ns of grid time: the next block boundary after the
request and after the copies of earlier events (R248, R283). -/
def tripInj (s : State) (k t : Nat) : Nat :=
  let bt := blockTime (s.lnk.lanes.getD k LaneS.reset).gen
  let from_ := max (100 * t) (s.cev.lanes.getD k CevLane.reset).busy
  100 * s.frm.g + bt * cdiv (from_ - 100 * s.frm.g) bt

/-- The instant at which an action acts on a cell, in ns (R285). -/
def tripAct (inj gen delay : Nat) : Nat := (16 * inj + 100 * delay + 1600 * (150 + if gen = 1 then 32 else 0)) / 1600

/-- Whether an edge at an instant belongs to a plan whose edges count as hard (R130). -/
def hardAt (hards : List (Nat × Bool)) (t : Nat) : Bool :=
  match hards.find? (fun h => decide (h.1 ≤ t)) with
  | some h => h.2
  | none => false

/-- A tally less the edges that were not executed: instants and counts. -/
def Entry.untally (hards : List (Nat × Bool)) (l : List (Nat × Nat)) (e : Entry) : Entry :=
  let n := sumN (l.map Prod.snd)
  let h := sumN ((l.filter (fun p => hardAt hards p.1)).map Prod.snd)
  if n = 0 then e else { e with swCount := e.swCount - n, edges := e.edges - n, hard := e.hard - h }.touch

/-- An action injected on a cell at `t` (R200, R285): the ordered edges from `t` on do not execute, and the change to
block is an edge unless the cell lies in the dead time of the last one. -/
def Entry.inject (a t dead : Nat) (hards : List (Nat × Bool)) (e : Entry) : Entry :=
  if a = 1 ∧ levLast e.lev = 5 then e
  else
    let cut := e.lev.filter (fun p => decide (p.1 < t))
    let late := e.lev.filter (fun p => decide (t ≤ p.1))
    let lv := levLast cut
    let code := if a = 2 then 5 else if a = 3 then lv else 4
    let last := lastEdgeOf e.lastOld 4 cut
    let inDead := match last with | some te => decide (t < te + dead) | none => false
    let n := if inDead then 0 else edgesOf lv code
    let e1 := e.untally hards (levEdges lv late)
    { e1.tally n (hardAt hards t) with
        lev := levPut cut t code, lastEdge := if n = 0 then last else some t }

/-- The lanes that an event for the rods of `mask` goes out on: in DISCOVER or ACTIVE with the laser on, carrying a
bound entry of such a rod (R283, R289). -/
def tripLanes (s : State) (mask : Nat) : List Nat :=
  (List.range 24).filter (fun k =>
    let l := s.lnk.lanes.getD k LaneS.reset
    (decide (l.st = 5) || decide (l.st = 6)) && laserOn s k l && (s.laneL k).any (fun e => tb mask e.2.rod))

/-- The lane after an insertion: the third one in a frame ends the frame without FE (R248). -/
def CevLane.insert (gen inj rim : Nat) (c : CevLane) : CevLane :=
  let open_ := decide (inj < 100 * rim + c.nblk * blockTime gen) && !c.abandoned
  { c with
    busy := inj + tripLen gen, inserts := if open_ then c.inserts + 1 else c.inserts,
    abandoned := c.abandoned || (open_ && decide (2 ≤ c.inserts)),
    nblk := if open_ then c.nblk + tripLen gen / blockTime gen else c.nblk }

/-- A trip block set on lane `k`: three copies, and its action on the lane's cells (R248, R249, R285). -/
def tripLane (a mask t k : Nat) (s : State) : State :=
  let gen := (s.lnk.lanes.getD k LaneS.reset).gen
  let inj := tripInj s k t
  let c0 := s.cev.lanes.getD k CevLane.reset
  let c1 := c0.insert gen inj s.frm.g
  let cells := mapCells (fun _ e =>
    if e.bound && e.lane == k && tb mask e.rod then
      e.inject a (tripAct inj gen e.delay) (s.p (0x7020 + e.rod)) (s.rnk.rods.getD e.rod RnkRod.reset).hards
    else e) s.cells
  let touched := (s.laneL k).filter (fun e => tb mask e.2.rod) |>.map Prod.fst
  markDirty touched ({ s with
    cells := cells, cev := { s.cev with
      lanes := s.cev.lanes.set k c1,
      abandoned := satAdd 32 s.cev.abandoned (b2n (c1.abandoned && !c0.abandoned)) } }.emit
    (.trip k a mask s.trp.seq))

/-- One event (R283): SEQ advances, and the set goes out. -/
def tripEvent (a mask t : Nat) (s : State) : State :=
  if acts s then
    let s1 := { s with trp := { s.trp with seq := (s.trp.seq + 1) % 256 } }
    let ks := tripLanes s1 mask
    let s2 := ks.foldl (fun x k => tripLane a mask t k x) s1
    { s2 with cev := { s2.cev with tripSets := satAdd 32 s2.cev.tripSets (b2n (!ks.isEmpty)) } }
  else s

/-- The rods whose action rises to `a` (R283). -/
def riseMask (s : State) (a : Nat) : Nat :=
  maskOf ((List.range 12).filter (fun r =>
    decide (actOf s r = a) && decide (actRank (s.trp.act.getD r 0) < actRank a)))

/-- A_r taken afresh, each rise an event, most severe first (R282, R283). -/
def tripUpdate (t : Nat) (s : State) : State :=
  let s1 := { s with trp := { s.trp with act := (List.range 12).map (actOf s) } }
  [2, 1, 3].foldl (fun x a => if riseMask s a = 0 then x else tripEvent a (riseMask s a) t x) s1

/-! ### Safe Block and Safe Stop requests (R295, R301) -/

/-- Safe Block by the injected path (R301). -/
def injectSafeBlock (cause detail t : Nat) (s : State) : State :=
  let s1 := tripUpdate t { s with trp := { s.trp with sbLatch := true } }
  if s.st = .ready ∨ s.st = .blocked ∨ s.st = .running ∨ s.st = .safeStop then
    { s1 with sbk := { s1.sbk with injDue := s1.sbk.injDue.orElse (fun _ => some (cause, detail)) } }
  else s1

/-- A Safe Stop request (R295): it acts at the next rim if the device is then in RUNNING. -/
def askSafeStop (cause : Nat) (s : State) : State :=
  { s with sbk := { s.sbk with stopDue := s.sbk.stopDue.orElse (fun _ => some cause) } }

/-- A Safe Block request by the rim path (R301). (DEDUCED, log 21.) -/
def askSafeBlock (cause : Nat) (s : State) : State :=
  { s with sbk := { s.sbk with blockDue := s.sbk.blockDue.orElse (fun _ => some cause) } }

/-- A request that a telegram fault's reaction code makes (R309). -/
def tgReact (code t : Nat) (s : State) : State :=
  if acts s then
    if code = 4 then askSafeStop 0x15 s else if code = 5 then injectSafeBlock 0x0A 0 t s else s
  else s

/-! ### Latches (R279–R281, R290) -/

/-- Entries that a bypass-fire latch covers (R290). -/
def tripCover (s : State) (mask : Nat) : List Nat :=
  (s.boundL.filter (fun e => tb mask e.2.rod && decide (1 ≤ e.2.st) && decide (e.2.st ≤ 4))).map Prod.fst

/-- Whether a clear that has executed waits for its rim with an input (R290). -/
def clearWaits (s : State) (i : Nat) : Bool := s.trp.clears.any (fun c => tb c.inputs i)

/-- TRP_LATCH (R280): its severity follows the action. -/
def raiseLatch (i : Nat) (s : State) : State :=
  raiseSev 0x0A i 1 (if (tripCfg s i).act = 0 then 1 else 2) 0 s

/-- A pass on an input that is latched and named by a clear that waits (R290). (DEDUCED, log 52.) -/
def latchAgain (i : Nat) (stamp : Option Nat) (s : State) : State :=
  raiseLatch i { s with trp := { s.trp with
    events := satAdd 32 s.trp.events 1,
    ins := modAt s.trp.ins i (fun x => { x with t := stamp.getD x.t }),
    clears := s.trp.clears.map (fun c => if tb c.inputs i then { c with again := setB c.again i true } else c) } }

/-- The latch of one input set, before its actions (R280, R290). -/
def latchSet (i : Nat) (stamp : Option Nat) (s : State) : State :=
  let cover := if (tripCfg s i).act = 2 then tripCover s (tripCfg s i).mask else []
  raiseLatch i { s with trp := { s.trp with
    latch := setB s.trp.latch i true, events := satAdd 32 s.trp.events 1,
    ins := modAt s.trp.ins i (fun x => { x with t := stamp.getD x.t, cover := cover }) } }

/-- TRPi_INFO of a new latch: the event it caused, or that it raised no A_r (R310). -/
def latchInfo (before after : State) (i : Nat) (s : State) : State :=
  let c := tripCfg before i
  let own := (List.range 12).any (fun r => tb c.mask r && decide (c.act ≠ 0) && decide (actOf after r = c.act) &&
    decide (actRank (before.trp.act.getD r 0) < actRank c.act))
  let sent := [2, 1, 3].filter (fun a => decide (riseMask after a ≠ 0))
  let pos := (sent.takeWhile (fun a => decide (a ≠ c.act))).length + 1
  { s with trp := { s.trp with ins := modAt s.trp.ins i (fun x =>
      { x with seq := if own then (before.trp.seq + (if acts before then pos else 0)) % 256 else x.seq,
               noset := !own }) } }

/-- Passes of inputs at one instant (R280, R283, R288): new latches, the events they cause, and escalation. -/
def tripLatch (is_ : List Nat) (stamp : Option Nat) (t : Nat) (s : State) : State :=
  let new := is_.filter (fun i => !tb s.trp.latch i)
  let again := is_.filter (fun i => tb s.trp.latch i && clearWaits s i)
  let s0 := again.foldl (fun x i => latchAgain i stamp x) s
  let s1 := new.foldl (fun x i => latchSet i stamp x) s0
  let s2 := tripUpdate t s1
  let s3 := new.foldl (fun x i => latchInfo s0 s1 i x) s2
  new.foldl (fun x i => if (tripCfg x i).esc then injectSafeBlock 0x08 i t x else x) s3

/-- TRIP_FILTER_PASS (R279, R280). Before the first rim there is no grid time to record. In OFF with AON unpowered no
input is sampled. -/
def tripFilterPass (i t : Nat) (s : State) : State :=
  if i < 16 ∧ tb s.pwr.on 0 = true then
    tripLatch [i] (some (if s.frm.rims = 0 then 0 else t % 2 ^ 32)) t (s.at t)
  else s

/-- TRP_HOLD_ESC (R286): a rod at hold for TRP_HOLD_MAX consecutive rims. -/
def holdEscalate (r : Nat) (s : State) : State :=
  if r < 12 ∧ s.p 0xA050 ≤ s.trp.holdRun.getD r 0 ∧ tb s.trp.holdEsc r = false then
    tripUpdate s.frm.g (raise 0x0A r 2 0 { s with trp := { s.trp with holdEsc := setB s.trp.holdEsc r true } })
  else s

/-- The hold runs at a rim, and their escalations (R286). -/
def holdStage (s : State) : State :=
  let runs := (List.range 12).map (fun r => if s.trp.act.getD r 0 = 3 then s.trp.holdRun.getD r 0 + 1 else 0)
  (List.range 12).foldl (fun x r => holdEscalate r x) { s with trp := { s.trp with holdRun := runs } }

/-- A rod still has a latched input that gives hold (R286). -/
def holdInput (s : State) (r : Nat) : Bool :=
  (bitsOf 16 s.trp.latch).any (fun i => decide ((tripCfg s i).act = 3) && tb (tripCfg s i).mask r)

/-- Escalations that end (R286). -/
def holdEnd (s : State) : State :=
  { s with trp := { s.trp with holdEsc := maskOf ((List.range 12).filter (fun r =>
      tb s.trp.holdEsc r && holdInput s r)) } }

/-- The settings in force after the restore (R281, R292). -/
def tripConfigure (s : State) : State :=
  if s.jnl.restored then
    let cfg := (List.range 16).map (fun i =>
      ({ filt := s.p (0xA000 + i), pol := s.p (0xA010 + i), act := s.p (0xA020 + i), mask := s.p (0xA030 + i),
         esc := decide (s.p (0xA040 + i) = 1) } : TripCfg))
    { s with trp := { s.trp with cfg := cfg } }
  else s

/-- New settings act on latches already set (R281). -/
def tripSettle (s : State) : State :=
  let s1 := tripConfigure s
  let s2 := (bitsOf 16 s1.trp.latch).foldl (fun x i =>
    if (tripCfg x i).act = 2 ∧ (tripCfg s i).act ≠ 2 then
      { x with trp := { x.trp with ins := modAt x.trp.ins i (fun y => { y with cover := tripCover x (tripCfg x i).mask }) } }
    else x) s1
  let s3 := tripUpdate s2.frm.g s2
  (bitsOf 16 s3.trp.latch).foldl (fun x i =>
    if (tripCfg x i).esc && !(tripCfg s i).esc then injectSafeBlock 0x08 i x.frm.g x else x) s3

/-! ### Commands (R290, R291) -/

/-- The named inputs whose latch is set. -/
def latchedOf (s : State) (inputs : Nat) : List Nat := (bitsOf 16 s.trp.latch).filter (fun i => tb inputs i)

/-- The named inputs that have not been inactive for their filter time; `idle` gives each input's time since its last
active sample, in ns (R290). -/
def notIdle (s : State) (inputs : Nat) (idle : List Nat) : List Nat :=
  (latchedOf s inputs).filter (fun i => decide (idle.getD i 0 = 0) || decide (idle.getD i 0 < 8 * (tripCfg s i).filt))

/-- The lowest entry that a named bypass-fire latch covers and that is not yet bypassed or failed (R290). -/
def notFired (s : State) (inputs : Nat) : Option Nat :=
  let ks := ((latchedOf s inputs).filter (fun i => decide ((tripCfg s i).act = 2))).flatMap
    (fun i => (s.trp.ins.getD i TripIn.reset).cover)
  (ks.filter (fun k => (s.ent k).bound && decide ((s.ent k).st ≠ 5) && decide ((s.ent k).st ≠ 6))).min?

/-- TRP_CLEAR (R290). -/
def trpClear (c : Ctx) (inputs : Nat) (tg : Bool) (idle : List Nat) (s : State) : State :=
  let bad := notIdle s inputs idle
  let count := { s with trp := { s.trp with refused := satAdd 32 s.trp.refused 1 } }
  if bad ≠ [] then finish c 0x0114 (leBytes 2 (maskOf bad)) count
  else match notFired s inputs with
    | some k => finish c 0x0110 ([0, 0] ++ leBytes 2 k) count
    | none => { s with trp := { s.trp with clears := s.trp.clears ++
        [{ hdr := c.h, opcode := c.op, inputs := inputs % 2 ^ 16, tg := tg, again := 0 }] } }

/-- Latches cleared at a rim, and A_r computed again (R290). (DEDUCED, log 52.) -/
def tripClearRim (s : State) : State :=
  let cleared := fun (c : TripClear) => maskOf ((latchedOf s c.inputs).filter (fun i => !tb c.again i))
  let all := s.trp.clears.foldl (fun m c => bor m (cleared c)) 0
  let tg := s.trp.clears.any TripClear.tg
  if s.trp.clears = [] then s
  else tripUpdate s.frm.g (holdEnd { s with
    trp := { s.trp with latch := bdiff s.trp.latch all, tgLatch := s.trp.tgLatch && !tg,
                        tgMask := if tg then 0 else s.trp.tgMask },
    sbk := if tg then { s.sbk with armed := false, gotValid := [false, false] } else s.sbk })

/-- The replies of the clears that a rim has executed: `old` is the state before them, `n` the frame. -/
def tripClearReplies (old : State) (n : Nat) (s : State) : State :=
  old.trp.clears.foldl (fun x c =>
    done { h := c.hdr, op := c.opcode }
      (leBytes 2 (maskOf ((latchedOf old c.inputs).filter (fun i => !tb c.again i))) ++ [0, 0] ++ leBytes 4 n) x)
    { s with trp := { s.trp with clears := [] } }

/-- TRP_TEST (R291). -/
def trpTest (c : Ctx) (inputs : Nat) (s : State) : State :=
  done c (leBytes 2 inputs ++ [0, 0] ++ leBytes 4 s.frm.count) (tripLatch (bitsOf 16 inputs) none c.h.time s)

/-- MAINTENANCE. -/
def stMaint (d : DevState) : Bool := decide (d = .maintenance)

/-- Row TRP_CLEAR. -/
def hostTrpClear (h : CmdHdr) (inputs : Nat) (tg : Bool) (idle : List Nat) : State → State :=
  let c : Ctx := { h := h, op := 0x0230 }
  hostCmd (.trpClear h inputs tg idle) c stAny (trpClear c inputs tg idle)

/-- Row TRP_TEST. -/
def hostTrpTest (h : CmdHdr) (inputs : Nat) : State → State :=
  let c : Ctx := { h := h, op := 0x0231 }
  hostCmd (.trpTest h inputs) c stMaint (trpTest c inputs)

/-- Row FCS-1 TRIP_RESET: TRP_CLEAR without the telegram latch (R409). -/
def hostFcs1TripReset (h : CmdHdr) (inputs : Nat) (idle : List Nat) : State → State :=
  let c : Ctx := { h := h, op := 0x10028 }
  hostCmd (.fcs1TripReset h inputs idle) c stAny (trpClear c inputs false idle)

/-! ### Safe Stop (R295–R300) -/

/-- A rod is monitored (R298). -/
def monitored (s : State) (r : Nat) : Bool := !(s.rodL r).isEmpty

/-- The steps left, S − k. -/
def stepsLeft (s : State) : Nat := s.p 0xA100 - s.sbk.step

/-- The envelope's test of a rod in a step (R298): whether the current is inside, compared exactly. -/
def envInside (s : State) (r : Nat) (x : SbkRod) : Bool :=
  let a := s.adc.rods.getD r RodI.reset
  let n := max 1 (s.p 0xA100)
  a.valid && decide (a.cur.natAbs * n < 64 * s.p (0xA140 + r) * n + x.i0 * stepsLeft s)

/-- A rod's registers and counts in a step (R296–R300). -/
def sbkRod (s : State) (r : Nat) (x0 : SbkRod) : SbkRod :=
  let a := s.adc.rods.getD r RodI.reset
  let x := if s.sbk.step = 1 then { x0 with i0 := a.cur.natAbs, out := 0, quiet := 0 } else x0
  let n := max 1 (s.p 0xA100)
  let exempt := decide (s.trp.act.getD r 0 = 1) || decide (s.trp.act.getD r 0 = 2)
  let y := { x with
    bound := min 0xFFFF ((64 * s.p (0xA140 + r) * n + x.i0 * stepsLeft s) / (64 * n)),
    cur := min 0xFFFF (a.cur.natAbs / 64), h := s.p (0xA130 + r) * stepsLeft s / n }
  if monitored s r then
    { y with out := if exempt then x.out else if envInside s r x then 0 else x.out + 1,
             quiet := if a.valid ∧ a.cur.natAbs < 64 * s.p (0xA150 + r) then x.quiet + 1 else 0 }
  else y

/-- SBK_ENV (R299): a monitored rod outside for SBK_VIOL_FRAMES consecutive steps. -/
def sbkEnv (r : Nat) (s : State) : State :=
  if s.st = .safeStop ∧ 0 < s.sbk.step ∧ s.sbk.viol = false ∧ s.p 0xA103 ≤ (s.sbk.rods.getD r SbkRod.reset).out then
    injectSafeBlock 0x03 r (s.frm.g + 60)
      (raise 0x0A r 0x10 0 { s with sbk := { s.sbk with viol := true } })
  else s

/-- The steps of Safe Stop after stage 0 of a frame's work (R296, R298, R299). -/
def stopStage (s : State) : State :=
  if s.st = .safeStop then
    let s1 := { s with sbk := { s.sbk with step := s.sbk.step + 1 } }
    let s2 := { s1 with sbk := { s1.sbk with rods := s1.sbk.rods.mapIdx (fun r x => sbkRod s1 r x) } }
    (List.range 12).foldl (fun x r => sbkEnv r x) s2
  else s

/-- Vrest of a rod, formed as one tap of R100 (R296). -/
def vrestOf (s : State) (r : Nat) (x : SbkRod) : SbkRod × Bool :=
  match ctlSrc s s.ctl.slots false (s.p (0xA110 + r)) with
  | some v => ({ x with vrest := satS 32 (bfpToInt (bfpMul3 (bfpOfWord (s.pI (0xA120 + r))) v (bfpOf 1 0)).1 4),
                        ever := true }, true)
  | none => (x, false)

/-- Vrest in a step, after stage 2 (R296): a rod whose Vrest has never been valid raises Safe Block at step 1. -/
def vrestStage (s : State) : State :=
  if s.st = .safeStop then
    let vs := s.sbk.rods.mapIdx (fun r x => vrestOf s r x)
    let s1 := { s with sbk := { s.sbk with rods := vs.map Prod.fst, vrestHeld := vs.any (fun v => !v.2) } }
    match s1.sbk.rods.findIdx? (fun x => !x.ever) with
    | some r => if s1.sbk.step = 1 then
        injectSafeBlock 0x04 r (s1.frm.g + 60) (raise 0x0A r 0x11 0 s1) else s1
    | none => s1
  else s

/-- The clamp of a rod's voltage in a step (R190, R297), and whether it changes it. -/
def envClamp (s : State) (r : Nat) (v : Int) : Int × Bool :=
  let x := s.sbk.rods.getD r SbkRod.reset
  if s.st = .safeStop ∧ 0 < s.sbk.step ∧ x.ever = true then
    let w := clampI (x.vrest - x.h) (x.vrest + x.h) v
    (w, decide (w ≠ v))
  else (v, false)

/-- The cause with which Safe Stop completes at the rim that ends the present step, if it does (R300). -/
def stopEnds (s : State) : Option Nat :=
  if s.st = .safeStop ∧ 0 < s.sbk.step then
    if s.p 0xA100 ≤ s.sbk.step ∧
        (List.range 12).all (fun r => !monitored s r || decide (s.p 0xA102 ≤ (s.sbk.rods.getD r SbkRod.reset).quiet)) = true
    then some 0x01
    else if s.p 0xA100 + s.p 0xA101 ≤ s.sbk.step then some 0x02
    else none
  else none

/-- SAFE_STOP_COMPLETE (R300): the change by the rim path that the present rim brings. -/
def safeStopComplete (s : State) : State :=
  match stopEnds s with
  | some c =>
    if s.sbk.blockDue.isSome then s
    else if c = 2 then
      askSafeBlock 2 (raise 0x0A 0 0x12 0 { s with sbk := { s.sbk with tail := true } })
    else askSafeBlock c s
  | none => s

/-! ### Safety telegrams (R304–R309) -/

/-- The fields of a telegram from VERSION to the reserved bytes, where every field check holds (R304). -/
def tgBody (s : State) (b : List Byte) : Option (List Byte) :=
  let tagged := decide (slice b 12 2 = [0x81, 0x00])
  let o := if tagged then 16 else 12
  let body := slice b (o + 2) 14
  let ok := decide (b.length = 64) && decide (beNat (slice b o 2) = s.p 0xA201) &&
    decide (fld body 0 1 = 1) && decide (fld body 1 1 ≤ 3) && decide (fld body 2 2 = s.p 0xA202) &&
    decide (fld body 4 2 = s.p 0xA203) && decide (fld body 8 2 < 2 ^ 12) && decide (fld body 10 4 = 0) &&
    decide (fld b (o + 16) 4 = crc32c body) && (slice b (o + 20) (40 - o)).all (fun x => decide (x = 0))
  if ok then some body else none

/-- A valid telegram restarts its LAN's timer and may arm the supervision (R305). -/
def tgHeard (lan t : Nat) (s : State) : State :=
  let got := s.sbk.gotValid.set lan true
  { s with sbk := { s.sbk with
    gotValid := got, lastValid := s.sbk.lastValid.set lan t, silent := s.sbk.silent.set lan false,
    armed := s.sbk.armed || got.all id } }

/-- A discarded or ignored copy. -/
def tgBad (s : State) : State := { s with sbk := { s.sbk with bad := satAdd 16 s.sbk.bad 1 } }

/-- An agreeing match of a request (R308). -/
def tgMatch (body : List Byte) (t : Nat) (s : State) : State :=
  let s1 := { s with sbk := { s.sbk with
    matched := satAdd 16 s.sbk.matched 1, lastSeq := fld body 6 2, anySeq := false } }
  match fld body 1 1 with
  | 1 => if acts s then { s1 with sbk := { s1.sbk with tgStop := true } } else s1
  | 2 => injectSafeBlock 0x09 0 t { s1 with trp := { s1.trp with tgLatch := true, tgMask := 0xFFF } }
  | _ => tripUpdate t { s1 with trp := { s1.trp with
      tgLatch := true, tgMask := bor s1.trp.tgMask (fld body 8 2) } }

/-- A request copy (R306, R307). -/
def tgRequest (lan : Nat) (body : List Byte) (t : Nat) (s : State) : State :=
  let seq := fld body 6 2
  let d := (seq + 2 ^ 16 - s.sbk.lastSeq) % 2 ^ 16
  if s.sbk.anySeq = false ∧ (d = 0 ∨ 2 ^ 15 ≤ d) then tgBad s
  else match s.sbk.copies.find? (fun c => c.seq == seq && c.lan != lan && decide (s.frm.rims ≤ c.frame + 2)) with
    | some c =>
      let s1 := { s with sbk := { s.sbk with copies := s.sbk.copies.filter (fun x => x.seq != seq) } }
      if c.body = body then tgMatch body t s1
      else
        tgReact (s.p 0xA205) t (raise 0x0A 0 0x13 0 { s1 with sbk := { s1.sbk with dis := satAdd 8 s1.sbk.dis 1 } })
    | none =>
      if s.sbk.copies.any (fun c => c.seq == seq && c.lan == lan) then s
      else { s with sbk := { s.sbk with copies := s.sbk.copies ++
        [{ lan := lan, frame := s.frm.rims, seq := seq, body := body }] } }

/-- A frame that a station LAN port passes on (R342): its length, destination and EtherType, behind at most one tag. -/
def portTakes (s : State) (lan : Nat) (b : List Byte) : Bool :=
  let et := if slice b 12 2 = [0x81, 0x00] then beNat (slice b 16 2) else beNat (slice b 12 2)
  let dst := beNat (slice b 0 6)
  decide (b.length ≤ 1522) &&
    (decide (dst = (Config.mac + lan) % 2 ^ 48) || decide (dst = 0x011B19000000) || decide (dst = 0x0180C200000E)) &&
    (decide (et = 0x88F7) || decide (et = s.p 0xA201) || decide (et = 0x8100))

/-- TELEGRAM_RECEIVE (R304–R308, R342). -/
def telegramReceive (lan : Nat) (bytes : List Byte) (t : Nat) (s : State) : State :=
  if portTakes s lan bytes = false then
    { s with time := { s.time with discard := satAdd 16 s.time.discard 1 } }
  else if lan < 2 ∧ s.p 0xA200 = 1 ∧ s.st ≠ .off then
    match tgBody s bytes with
    | none => tgBad (s.at t)
    | some body =>
      let s1 := tgHeard lan t (s.at t)
      if fld body 1 1 = 0 then s1 else tgRequest lan body t s1
  else s

/-- SBK_TG_LOSS (R307): a new copy on a LAN that had no match by rim f1 + 2. -/
def tgLoss (lan : Nat) (s : State) : State :=
  if s.sbk.copies.any (fun c => c.lan == lan && decide (c.frame + 3 ≤ s.frm.rims)) then
    tgReact (s.p 0xA206) s.now (raise 0x0A 0 0x14 0 { s with sbk := { s.sbk with
      loss := satAdd 8 s.sbk.loss 1,
      copies := s.sbk.copies.filter (fun c => !(c.lan == lan && decide (c.frame + 3 ≤ s.frm.rims))) } })
  else s

/-- SBK_TG_SILENCE (R305): the silence timers at an instant. -/
def tgSilence (t : Nat) (s : State) : State :=
  if s.p 0xA200 = 1 ∧ s.sbk.armed = true then
    let sil := [0, 1].map (fun l => decide (s.sbk.lastValid.getD l 0 + 1000000 * s.p 0xA204 ≤ t))
    let s1 := { s.at t with sbk := { s.sbk with silent := sil } }
    if sil = s.sbk.silent then s1
    else if sil.all id then
      tgReact (s.p 0xA207) t (raise 0x0A 0 0x15 0 { s1 with sbk := { s1.sbk with silentN := satAdd 8 s1.sbk.silentN 1 } })
    else if sil.any id then
      tgReact (s.p 0xA208) t (raise 0x0A 0 0x16 0
        { s1 with sbk := { s1.sbk with lane := satAdd 8 s1.sbk.lane 1 } })
    else s1
  else s

/-- The telegram part of a frame's work (R307, R308). -/
def tgStage (s : State) : State :=
  let s1 := if s.sbk.tgStop then askSafeStop 0x14 { s with sbk := { s.sbk with tgStop := false } } else s
  tgLoss 1 (tgLoss 0 s1)

end Sys2Proof.Machine
end

