-- ==== Sys2Proof/Machine/Fir.lean ====
section
/-! DEFINITION. Modulation and firing (R181–R207): the demand, the placing of edges, the carry, test edges, and what a
released plan does to a cell. -/

namespace Sys2Proof.Machine

open Sys2Proof

/-! ### The execution offset (R184, R185) -/

/-- FIR_TX_MIN under parameters `p` (R185); with no lane enabled the spec gives no largest value (DESIGN CHOICE, log 2). -/
def txMin (p : Nat → Nat) : Nat :=
  let ks := (List.range 24).filter (fun k => decide (p (0x8120 + k) = 1))
  if ks = [] then satU 16 (Config.openVal 4 0)
  else maxN (ks.map (fun k => planReady (p (0x8100 + k)) + p (0x9000 + k)))

/-- LEN of the plan that opens at `t0` in the work of frame `n` (R184). -/
def planLen (s : State) (n t0 : Nat) : Nat :=
  match s.fir.txNew with
  | some (v, f) =>
    let open_ := s.frm.g + s.frm.len + s.frm.lenNext + (f - n - 1) * perNs s.frm.period + v
    if open_ ≤ t0 then 0
    else if n + 1 = f then open_ - t0 else min s.frm.lenNext (open_ - t0)
  | none => s.frm.lenNext

/-! ### From reference to demand (R186–R190) -/

/-- The modulation cell voltage, whether it is held, and vc_last (R186). -/
def firVc (s : State) (r : Nat) (x : FirRod) : Nat × Bool × Option Nat :=
  let o := s.obs.rods.getD r ObsRod.reset
  let n := (s.rnk.spare.getD r Spare.reset).avail
  if o.valid ∧ 16 * (n : Int) ≤ o.vsum then
    let vc := (rdiv o.vsum n).toNat
    (vc, false, some vc)
  else match x.vcLast with
    | some v => (v, true, some v)
    | none => (s.p (0x7040 + r), true, none)

/-- A rod's demand (R187–R190): vref, whether the envelope changed it, X after clipping, T, the flags, NP, NN, PS, w. -/
structure Demand where
  vref  : Int
  env   : Bool
  x     : Int
  t     : Int
  hi    : Bool
  lo    : Bool
  np    : Nat
  nn    : Nat
  ps    : Nat
  w     : Nat
  supLo : Bool
  supHi : Bool
deriving DecidableEq, Repr

/-- The demand from a voltage reference for an execution frame of `P` ns (R187–R189). -/
def demandOf (vref : Int) (env : Bool) (P vc : Nat) (carry : Int) (avail fb minP dead : Nat) : Demand :=
  let x := vref * P + carry
  let t0 := rdiv (x * 16) vc
  let thi : Int := 16 * P * avail
  let tlo : Int := -(16 * P * fb : Nat)
  let hi := decide (thi < t0)
  let lo := decide (t0 < tlo)
  let t := clampI tlo thi t0
  let neg := decide (t < 0)
  let k := t.natAbs / (16 * P)
  let w := t.natAbs - k * (16 * P)
  let supLo := decide (0 < w) && decide (w < 16 * minP)
  let supHi := decide (0 < w) && !supLo && decide (16 * P - w < 16 * (minP + dead))
  let w' := if supLo || supHi then 0 else w
  let k' := if supHi then k + 1 else k
  { vref := vref, env := env, x := if hi || lo then rdiv (t * vc) 16 else x, t := t, hi := hi, lo := lo,
    np := if neg then 0 else k', nn := if neg then k' else 0, ps := if w' = 0 then 0 else if neg then 2 else 1,
    w := w', supLo := supLo, supHi := supHi }

/-- The demand of rod `r` in a frame's work. -/
def firDemand (s : State) (r vc : Nat) (carry : Int) : Demand :=
  let o := s.ctl.rods.getD r RodOut.reset
  let sp := s.rnk.spare.getD r Spare.reset
  let v := envClamp s r (satS 32 (o.vref + o.bal))
  demandOf v.1 v.2 s.frm.lenNext vc carry sp.avail sp.fb (s.p (0x7010 + r)) (s.p (0x7020 + r))

/-! ### Placing edges (R191–R195) -/

/-- Four bits in reverse order. -/
def bitrev4 (n : Nat) : Nat := pack [(3, bits 0 0 n), (2, bits 1 1 n), (1, bits 2 2 n), (0, bits 3 3 n)]

/-- The integer width of a partial duty (R192). -/
def ditherWidth (dither : Bool) (n w : Nat) : Nat := w / 16 + b2n (dither && decide (bitrev4 (n % 16) < w % 16))

/-- The code of R115 of a sign: 1 for +1, 2 for −1. -/
def psCode (ps : Nat) : Nat := ps

/-- The sign of a code. -/
def psSign (ps : Nat) : Int := if ps = 2 then -1 else 1

/-- The interval test of an edge at t0 + e (R193): where it is placed, if in the frame, and whether it is delayed. -/
def placeEdge (minInt : Nat) (last : Option Nat) (t0 len e : Nat) : Option Nat × Bool :=
  if intervalOk minInt last (t0 + e) then (if e < len then some e else none, false)
  else
    let d := last.getD 0 + 16 * minInt - t0
    (if d < len then some d else none, true)

/-- The last edge of a cell before an offset in a frame that opens with level `lv0`. -/
def lastAt (e : Entry) (t0 lv0 : Nat) : Option Nat := if edgesOf (levLast e.lev) lv0 = 0 then e.lastEdge else some t0

/-- The partial duty of entry `e` (R191–R193): its order and whether its edge is delayed. -/
def partOrder (e : Entry) (t0 P wi ps : Nat) : Order × Bool :=
  let fall := decide (levLast e.lev = psCode ps)
  let lv0 := if fall then psCode ps else 0
  let lv1 := if fall then 0 else psCode ps
  let p := placeEdge e.minInt (lastAt e t0 lv0) t0 P (if fall then wi else P - wi)
  ({ code := 0, lv0 := lv0, lv1 := lv1, e := p.1, part := true, dep := false, test := false, ps := ps }, p.2)

/-- The departure of a previous partial cell (R194). -/
def depOrder (e : Entry) (t0 P psOld : Nat) : Order × Bool :=
  let p := placeEdge e.minInt e.lastEdge t0 P 0
  ({ code := 0, lv0 := psCode psOld, lv1 := 0, e := p.1, part := false, dep := true, test := false, ps := psOld }, p.2)

/-- The set code that selection or standing gives an entry (R158, R159). -/
def setCode (sel : Sel) (k : Nat) (e : Entry) : Nat :=
  if sel.pos.contains k then 1
  else if sel.neg.contains k then 2
  else if availSt e.standing then 0
  else standCode e.standing

/-- The departing cell of a rod (R194): the previous partial cell that is not partial now, closed at its old sign and
takes set code 0. -/
def departing (s : State) (r : Nat) (sel : Sel) : Option (Nat × Nat) :=
  match (s.rnk.rods.getD r RnkRod.reset).prev with
  | some (k, ps) =>
    let e := s.ent k
    if sel.part ≠ some k ∧ e.bound = true ∧ e.rod = r ∧ levLast e.lev = psCode ps ∧ setCode sel k e = 0 then some (k, ps)
    else none
  | none => none

/-- The achieved partial width in ns (R196). -/
def partWidth (o : Order) (P : Nat) : Nat :=
  if o.lv0 = 0 then (match o.e with | some e => P - e | none => 0) else o.e.getD P

/-- The carry after a frame (R196, R197): its value and whether the limit acted. -/
def carryOf (x : Int) (vc : Nat) (e : Int) (max_ : Nat) : Int × Bool :=
  let c := satS 48 (x - rdiv ((vc : Int) * e) 16)
  let m : Int := 16 * max_
  (clampI (-m) m c, decide (m < c.natAbs))

/-- The modulation of rod `r` in the work of frame `n` for the plan that opens at `t0`: results and orders. -/
def firRod (s : State) (n t0 r : Nat) : FirRod × RnkRod × List (Nat × Order) :=
  let x := s.fir.rods.getD r FirRod.reset
  let vc := firVc s r x
  let d := firDemand s r vc.1 x.carry
  let P := s.frm.lenNext
  let sel := selectRod s r t0 d.np d.nn d.ps
  let dither := decide (s.p 0x7001 = 1)
  let wi := ditherWidth dither n d.w
  let po := sel.part.map (fun k => (k, partOrder (s.ent k) t0 P wi d.ps))
  let dp := (departing s r sel).map (fun k => (k.1, depOrder (s.ent k.1) t0 P k.2))
  let E : Int := 16 * P * ((sel.pos.length : Int) - sel.neg.length) +
    (match po with
      | some (_, o, _) => psSign d.ps * (16 * partWidth o P + (if dither then (d.w : Int) - 16 * wi else 0))
      | none => 0) +
    (match dp with
      | some (_, o, _) => psSign o.ps * (16 * (o.e.getD P : Nat) : Nat)
      | none => 0)
  let c := carryOf d.x vc.1 E (s.p (0x7030 + r))
  let pdel := match po with | some (_, _, b) => b | none => false
  let ddel := match dp with | some (_, _, b) => b | none => false
  let orders := (s.rodL r).map (fun e =>
    match po, dp with
    | some (k, o, _), some (k', o', _) =>
      (e.1, if k = e.1 then o else if k' = e.1 then o' else Order.flat (setCode sel e.1 e.2))
    | some (k, o, _), none => (e.1, if k = e.1 then o else Order.flat (setCode sel e.1 e.2))
    | none, some (k', o', _) => (e.1, if k' = e.1 then o' else Order.flat (setCode sel e.1 e.2))
    | none, none => (e.1, Order.flat (setCode sel e.1 e.2)))
  let atT0 := sumN (orders.map (fun o =>
    edgesOf (levLast (s.ent o.1).lev) o.2.lv0 + (if o.2.e = some 0 then edgesOf o.2.lv0 o.2.lv1 else 0)))
  let fr : FirRod :=
    { x with
      vref := d.vref, vc := vc.1, t := d.t, vcLast := vc.2.2, carryNew := c.1,
      edge := (po.bind (fun p => p.2.1.e)).isSome, rise := (match po with | some (_, o, _) => decide (o.lv0 = 0) | none => false),
      off := (po.bind (fun p => p.2.1.e)).getD 0, ps := d.ps, part := sel.part, w := d.w,
      depEdge := (dp.bind (fun p => p.2.1.e)).isSome, depDel := ddel, depOff := (dp.bind (fun p => p.2.1.e)).getD 0,
      dep := dp.map Prod.fst, env := d.env, vcHeld := vc.2.1,
      short := decide (sel.pos.length ≠ d.np) || decide (sel.neg.length ≠ d.nn), limHi := d.hi, limLo := d.lo,
      cSat := c.2, supLo := d.supLo, supHi := d.supHi, delayed := pdel || ddel,
      noPart := decide (d.ps ≠ 0) && sel.part.isNone, nDel := b2n pdel + b2n ddel }
  let rr := { (s.rnk.rods.getD r RnkRod.reset).withSel sel d.np d.nn d.ps with edges := atT0 }
  (fr, rr, orders)

/-! ### Test edges (R202–R205) -/

/-- The reply data of FIR_TEST_EDGE (R205). -/
def testData (te : TestEdge) (disc : Bool) (frame exec : Nat) : List Byte :=
  leBytes 2 te.entry ++ [BitVec.ofNat 8 (pack [(0, b2n te.late), (1, b2n te.del), (2, b2n disc)]), 0] ++
    leBytes 4 frame ++ leBytes 8 exec

/-- The context of a pending test edge. -/
def testCtx (te : TestEdge) : Ctx := { h := te.hdr, op := 0x0F20 }

/-- The pending test edges that a predicate selects are discarded with ABORTED (R204). -/
def testAbort (sel : TestEdge → Bool) (s : State) : State :=
  (s.fir.tests.filter sel).foldl (fun x te => finish (testCtx te) 0x0303 (testData te true 0 0) x)
    { s with fir := { s.fir with tests := s.fir.tests.filter (fun te => !sel te) } }

/-- Tests of the selected cells end (R204): the cells return to block in the next plan built. -/
def testEnd (sel : Nat → Bool) (s : State) : State :=
  testAbort (fun te => sel te.entry) { s with fir := { s.fir with
    cells := s.fir.cells.map (fun c => if sel c.entry then { c with ended := true } else c) } }

/-- FIR_TEST_HOLD frames have passed since a cell's last executed test edge (R204). -/
def holdOver (s : State) (k : Nat) : Bool :=
  s.fir.cells.any (fun c => c.entry == k && !c.ended && decide (0 < c.last) &&
    decide (c.last + s.p 0x7002 ≤ s.frm.rims))

/-- FIR_TEST_HOLD_EXPIRE (R204). -/
def testHoldExpire (k : Nat) (s : State) : State := if holdOver s k then testEnd (fun j => j == k) s else s

/-- The ends of tests that a frame's work finds, and the cells whose tests are over (R204). -/
def testEnds (s : State) : State :=
  let s1 := if s.st = .maintenance then s else testEnd (fun _ => true) s
  let s2 := (s1.fir.cells.map TestCell.entry).foldl (fun x k => testHoldExpire k x) s1
  let s3 := testEnd (fun k => !(s2.ent k).bound || decide (5 ≤ (s2.ent k).standing)) s2
  { s3 with fir := { s3.fir with cells := s3.fir.cells.filter (fun c => !c.ended) } }

/-- Test edges that a lane's frame has room for (R239, R269). -/
def testRoom (s : State) (k : Nat) : Nat := if (s.lnk.lanes.getD k LaneS.reset).gen = 1 then 8 else 40

/-- The level that a cell under test holds. -/
def testLevel (s : State) (k : Nat) : Nat :=
  match s.fir.cells.find? (fun c => c.entry == k) with | some c => c.level | none => 4

/-- One pending test edge against the plan being built (R203): the edge as it stands after, and its place. (DEDUCED, log 18.) -/
def testPlace (s : State) (t0 len : Nat) (placed : List TestPlaced) (te : TestEdge) : TestEdge × Option TestPlaced :=
  let e := s.ent te.entry
  let full := placed.any (fun p => p.te.entry == te.entry) ||
    decide (testRoom s e.lane ≤ (placed.filter (fun p => (s.ent p.te.entry).lane == e.lane)).length)
  if t0 + len ≤ te.time then (te, none)
  else
    let late := te.late || decide (te.time < t0)
    if full || decide (len = 0) then ({ te with late := true }, none)
    else
      let p := placeEdge e.minInt (lastAt e t0 (testLevel s te.entry)) t0 len (if late then 0 else te.time - t0)
      let te' := { te with late := late && !te.del || te.late, del := te.del || p.2 }
      match p.1 with
      | some o => (te', some { te := te', exec := t0 + o })
      | none => (te', none)

/-- All pending test edges against the plan being built. -/
def testPlan (s : State) (t0 len : Nat) : List TestEdge → List TestPlaced → List TestEdge × List TestPlaced
  | [], ps => ([], ps)
  | te :: rest, ps =>
    let r := testPlace s t0 len ps te
    let q := testPlan s t0 len rest (match r.2 with | some p => ps ++ [p] | none => ps)
    (r.1 :: q.1, q.2)

/-- The order of a cell under test (R202, R203). -/
def testOrder (s : State) (t0 : Nat) (ps : List TestPlaced) (c : TestCell) : Nat × Order :=
  match ps.find? (fun p => p.te.entry == c.entry) with
  | some p => (c.entry, { code := c.level, lv0 := c.level, lv1 := p.te.code, e := some (p.exec - t0), part := false,
                          dep := false, test := true, ps := 0 })
  | none => (c.entry, { Order.flat c.level with test := true })

/-! ### Stage 5 -/

/-- Stage 5 of the work of frame `n` (R181–R205). -/
def firStage (s0 : State) : State :=
  let n := s0.frm.count
  let s1 := testEnds (match s0.fir.txNew with
    | some (v, f) => if f ≤ n then { s0 with fir := { s0.fir with tx := v, txNew := none } } else s0
    | none => s0)
  let t0 := s1.frm.g + s1.frm.len + s1.fir.tx
  let len := planLen s1 n t0
  let rs := (List.range 12).map (firRod s1 n t0)
  let tp := testPlan s1 t0 len s1.fir.tests []
  let lates := (tp.1.filter (fun te => te.late)).length - (s1.fir.tests.filter (fun te => te.late)).length
  let rr := rs.map (fun x => x.2.1)
  { s1 with
    rnk := { s1.rnk with rods := rr },
    fir := { s1.fir with
      rods := rs.map (fun x => x.1), tests := tp.1, testLate := satAdd 32 s1.fir.testLate lates, txMin := txMin s1.p,
      plan := some { n := n, t0 := t0, len := len,
                     orders := rs.flatMap (fun x => x.2.2) ++ s1.fir.cells.map (testOrder s1 t0 tp.2),
                     tests := tp.2 } } }

/-! ### What a released plan does to a cell (R129, R140, R164, R182) -/

/-- The levels kept: from the last point at or before the horizon on; what leaves them is kept as the last edge. (DEDUCED, log 53.) -/
def Entry.trimLev (h : Nat) (e : Entry) : Entry :=
  let old := e.lev.filter (fun p => decide (p.1 ≤ h))
  match old.getLast? with
  | some p => { e with lev := p :: e.lev.filter (fun q => decide (h < q.1)), lastOld := lastEdgeOf e.lastOld 4 old }
  | none => e

/-- An entry takes the order of a plan that opens at `t0`; `h` is the oldest instant that the observer still needs. (DEDUCED, log 53.) -/
def Entry.order (t0 h : Nat) (hard : Bool) (o : Order) (e : Entry) : Entry :=
  let cut := e.lev.filter (fun p => decide (p.1 < t0))
  let l1 := levPut cut t0 o.lv0
  let l2 := match o.e with | some x => levPut l1 (t0 + x) o.lv1 | none => l1
  let new := l2.drop cut.length
  let n := sumN ((levEdges (levLast cut) new).map Prod.snd)
  let e1 := e.tally n hard
  Entry.trimLev h { e1 with
    lev := l2, lastEdge := lastEdgeOf e1.lastEdge (levLast cut) new, ord := o, code := o.code, part := o.part }

/-- The order of a held plan (R31, R199) for entry `e`, which was `o` before the rim: the last order again, or the code of
a new standing; an edge that the interval test refuses is not made, and the cell stays at its level. -/
def heldOrder (t0 P : Nat) (o e : Entry) : Order :=
  if !availSt o.standing && availSt o.st then Order.flat (standCode o.standing)
  else
    let o := e.ord
    let lv := levLast e.lev
    let ok0 := decide (edgesOf lv o.lv0 = 0) || intervalOk e.minInt e.lastEdge t0
    let ok1 := match o.e with
      | some x => decide (P ≤ x) || intervalOk e.minInt (lastAt e t0 o.lv0) (t0 + x)
      | none => true
    if o.e.isNone && decide (o.lv0 = o.code) then o
    else if ok0 && ok1 then { o with e := o.e.filter (fun x => decide (x < P)) }
    else { o with lv0 := lv, lv1 := lv, e := none }

/-- The standing that gives an entry its code in the plan of the rim (R116, R120): `o` is the entry before the rim, with
the changes that the frame's rules found, and `e` the entry after it. An entry that is bound, loaded or replaced at the
rim stands as ABSENT at once. (DEDUCED, log 59.) -/
def relStanding (o e : Entry) : Nat :=
  if e.st = 0 ∧ (e.cause = 0x01 ∨ e.cause = 0x12) then 0 else o.standing

/-- The order that an action of R284 puts in place of the plan's, for an entry of standing `w`. -/
def actOrder (a w : Nat) (e : Entry) : Order :=
  if a = 2 then Order.flat 5
  else if a = 3 then Order.flat (levLast e.lev)
  else Order.flat (standCode w)

/-! ### Commands (R202–R205) -/

/-- FIR_TEST_EDGE. -/
def firTestEdge (c : Ctx) (k code time : Nat) (s : State) : State :=
  let e := s.ent k
  if 6144 ≤ k then refuse c 0x0203 s
  else if ¬ (code = 0 ∨ code = 1 ∨ code = 2 ∨ code = 4) ∨ (code = 2 ∧ e.fb = false) then refuse c 0x0203 s
  else if e.bound = false ∨ e.st = 0 ∨ e.st = 5 ∨ e.st = 6 then refuse c 0x0110 s
  else if 64 ≤ s.fir.tests.length then refuse c 0x0304 s
  else
    let cells := if s.fir.cells.any (fun x => x.entry == k && !x.ended) then s.fir.cells
      else s.fir.cells ++ [{ entry := k, level := 4, last := 0, ended := false }]
    { s with fir := { s.fir with
        cells := cells, tests := s.fir.tests ++
          [{ hdr := c.h, entry := k, code := code, time := time, late := false, del := false }] } }

/-- FIR_TEST_END. -/
def firTestEnd (c : Ctx) (k : Nat) (s : State) : State :=
  if k < 6144 ∨ k = 0xFFFF then done c [] (testEnd (fun j => decide (k = 0xFFFF) || j == k) s)
  else refuse c 0x0203 s

/-- Row FIR_TEST_EDGE. -/
def hostFirTestEdge (h : CmdHdr) (entry code time : Nat) : State → State :=
  let c : Ctx := { h := h, op := 0x0F20 }
  hostCmd (.firTestEdge h entry code time) c stMaint (firTestEdge c entry code time)

/-- Row FIR_TEST_END. -/
def hostFirTestEnd (h : CmdHdr) (entry : Nat) : State → State :=
  let c : Ctx := { h := h, op := 0x0F21 }
  hostCmd (.firTestEnd h entry) c stMaint (firTestEnd c entry)

end Sys2Proof.Machine
end

