-- ==== Sys2Proof/Machine/Check.lean ====
section
/-! DEFINITION. The configuration as it stands after every accepted command, and the checks that judge it: the frame
budget (R24–R26), bindings (R122, R123), the report gap (R258), the T_X window (R185). -/

namespace Sys2Proof.Machine

open Sys2Proof

/-! ### Budget (R24, R25) -/

/-- The completion bound T_C in ns (R24). -/
def tcOf (n c s : Nat) : Nat := cdiv (max (8000 + 125 * s) (13000 + 126 * n) + 7000 + 30 * n + 25 * c) 100

/-- The completion budget B of a frame period in ns (R25). -/
def budgetOf (j : Nat) : Nat := perNs j - 129

/-- The bound entries of a table. -/
def boundIn (t : Tab Entry) : List (Nat × Entry) := t.filter (fun e => e.2.bound)

/-- The bound entries of a rod, and of a lane, of a table. -/
def rodIn (t : Tab Entry) (r : Nat) : List (Nat × Entry) := t.filter (fun e => e.2.bound && e.2.rod == r)
def laneIn (t : Tab Entry) (k : Nat) : List (Nat × Entry) := t.filter (fun e => e.2.bound && e.2.lane == k)

/-- T_C of a table under parameters `p` (R23, R24). -/
def tcIn (p : Nat → Nat) (t : Tab Entry) : Nat :=
  tcOf (maxN ((List.range 12).map (fun r => (rodIn t r).length)))
    (maxN ((List.range 24).map (fun k => (laneIn t k).length)))
    (sumN ((List.range 32).map (fun k => if p (0x4000 + 32 * k) = 1 then p (0x4001 + 32 * k) else 0)))

/-! ### The weave schedule's size (R209, R257, R258) -/

/-- Report slots per frame on a tree (R209). -/
def slotsPerFrame (gen j : Nat) : Nat := if gen = 2 then 16 * 2 ^ j else 32 * 2 ^ j

/-- F_C for a highest bound slot (R257). -/
def fcOf (gen j : Nat) (top : Option Nat) : Nat :=
  match top with | some s => cdiv (s + 1) (slotsPerFrame gen j) | none => 1

/-- W_D (R257). -/
def wdOf (gen j win : Nat) : Nat := 1 + cdiv (256 + 2 * win + 64 + if gen = 2 then 125 else 50) (perNs j)

/-- The highest bound slot of a lane. -/
def topSlot (t : Tab Entry) (k : Nat) : Option Nat := ((laneIn t k).map (fun e => e.2.slot)).max?

/-- Lane `k` keeps the gap between two reports of a cell (R258). (DEDUCED, log 25.) -/
def gapOk (p : Nat → Nat) (t : Tab Entry) (k : Nat) : Bool :=
  decide (p (0x8100 + k) = 1) || (laneIn t k).isEmpty ||
    decide (fcOf (p (0x8100 + k)) (p 0x1000) (topSlot t k) + wdOf (p (0x8100 + k)) (p 0x1000) (p (0x9000 + k)) ≤ 7)

/-! ### Bindings (R122, R123) -/

/-- Slots of a generation. -/
def slotsOf (gen : Nat) : Nat := match gen with | 1 => 32 | 2 => 128 | _ => 256

/-- The rods that have bound entries on a lane. -/
def rodsOn (t : Tab Entry) (k : Nat) : Nat :=
  ((List.range 12).filter (fun r => (laneIn t k).any (fun e => e.2.rod == r))).length

/-- The refusal of a lane's generation for the bindings of a table (R123). -/
def genOk (p : Nat → Nat) (t : Tab Entry) (k : Nat) : Bool :=
  (laneIn t k).all (fun e => decide (e.2.slot < slotsOf (p (0x8100 + k)))) &&
    (decide (p (0x8100 + k) ≠ 1) || decide (rodsOn t k ≤ 4))

/-- The refusal of R122 for entry `k` of a table as it would stand, up to the size of the rod. -/
def bindFault (p : Nat → Nat) (t : Tab Entry) (k : Nat) (e : Entry) : Option Nat :=
  let others := (boundIn t).filter (fun x => x.1 != k)
  if (12 ≤ e.rod ∧ e.rod ≠ 15) ∨ (24 ≤ e.lane ∧ e.lane ≠ 255) then some 0x0203
  else if decide (e.rod = 15) ≠ decide (e.lane = 255) then some 0x0203
  else if e.bound = false then none
  else if slotsOf (p (0x8100 + e.lane)) ≤ e.slot then some 0x0210
  else if p (0x8100 + e.lane) = 1 ∧ 4 < rodsOn t e.lane then some 0x0210
  else if others.any (fun x => x.2.lane == e.lane && x.2.slot == e.slot) then some 0x0210
  else if e.id ≠ 0 ∧ others.any (fun x => x.2.id == e.id) = true then some 0x0210
  else if 1024 < (rodIn t e.rod).length then some 0x0203
  else none

/-- The refusal of R122 for a set of entries of a table as it would stand, with the first entry that fails. -/
def bindFaults (p : Nat → Nat) (t : Tab Entry) (ks : List Nat) : Option (Nat × Nat) :=
  match ks.findSome? (fun k => (bindFault p t k (Tab.get Entry.reset t k)).map (fun st => (st, k))) with
  | some x => some x
  | none =>
    if budgetOf (p 0x1000) < tcIn p t then some (0x0208, ks.headD 0)
    else match ks.find? (fun k =>
        let e := Tab.get Entry.reset t k
        e.bound && !gapOk p t e.lane) with
      | some k => some (0x0211, k)
      | none => none

/-! ### The configuration as it stands (R403) -/

/-- A parameter as the commands accepted so far leave it: the waiting write, the value stored for an event, the value in
force. -/
def pStand (s : State) (id : Nat) : Int :=
  match (s.params.waits.flatMap PWrite.entries).reverse.find? (fun e => e.1 == id) with
  | some e => e.2
  | none => pvStored s.toDev id

/-- A parameter as it stands, as a natural. -/
def pStandN (s : State) (id : Nat) : Nat := (pStand s id).toNat

end Sys2Proof.Machine
end

