-- ==== Sys2Proof/Machine/CellCmd.lean ====
section
/-! DEFINITION. The commands of the cell table (R122, R128, R133, R134, R406, R407). -/

namespace Sys2Proof.Machine

open Sys2Proof

/-! ### What a change does to an entry (R117, R133) -/

/-- The counters that only a reset and CELL_CLEAR clear, and NV_SEQ, carried over to a fresh entry (R129, R133). -/
def Entry.carry (old new : Entry) : Entry :=
  { new with swCount := old.swCount, refused := old.refused, fbSkips := old.fbSkips, nvSeq := old.nvSeq }

/-- An entry bound afresh. -/
def Entry.bind (b : BindArgs) (old : Entry) : Entry :=
  (old.carry { Entry.reset with
    id := b.cellId, rod := b.rod, fb := decide (b.kind = 1), minInt := b.minInt, slot := b.slot, lane := b.lane,
    cNom := b.cNom, cEst := b.cNom * 65536, cause := 0x01 }).touch

/-- An entry unbound: its non-volatile fields at their reset values. -/
def Entry.unbind (cause : Nat) (old : Entry) : Entry := (old.carry { Entry.reset with cause := cause }).touch

/-- An entry whose cell is replaced. -/
def Entry.replace (cellId : Nat) (old : Entry) : Entry :=
  (old.carry { Entry.reset with
    id := cellId, rod := old.rod, fb := old.fb, minInt := old.minInt, slot := old.slot, lane := old.lane,
    cNom := old.cNom, cEst := old.cNom * 65536, cause := 0x12 }).touch

/-- The state and cause of a loaded part (R117, R133). -/
def loadState (e : Entry) : Nat × Nat :=
  if e.bound = false then (0, 0x01)
  else match e.disp with | 2 => (5, 0x15) | 3 => (6, 0x15) | _ => (0, 0x01)

/-- An entry loaded: its part as carried, the volatile part at its reset values; a bypass received stays (R121). -/
def Entry.load (part : List Byte) (old : Entry) : Entry :=
  let e := Entry.ofNv part
  { e with st := (loadState e).1, cause := (loadState e).2, nvSeq := (old.nvSeq + 1) % 2 ^ 16,
           ord := if old.bound ∧ old.ord.code = 5 then old.ord else e.ord }

/-- CELL_SET: a changed C_NOM restarts the learning (R151). -/
def Entry.setNom (mask minInt cNom : Nat) (e : Entry) : Entry :=
  let e1 := if tb mask 0 then { e with minInt := minInt } else e
  (if tb mask 1 then { e1.noLearn with cNom := cNom } else e1).touch

/-- CELL_BLOCK on an entry: DISP, and BLOCKED from ACTIVE, SUSPECT and DISCOVERED. -/
def Entry.block (g : Nat) (e : Entry) : Entry :=
  let e1 := { e with disp := 1 }.touch
  if 1 ≤ e.st ∧ e.st ≤ 3 then e1.enter g 4 0x0F else e1

/-- CELL_RELEASE on an entry: DISP, and ACTIVE from BLOCKED. -/
def Entry.release (g : Nat) (e : Entry) : Entry :=
  let e1 := { e with disp := 0 }.touch
  if e.st = 4 then e1.enter g 2 0x10 else e1

/-- CELL_BYPASS on an entry. -/
def Entry.bypass (g : Nat) (e : Entry) : Entry := ({ e with disp := 2 }.touch).enter g 5 0x11

/-- CELL_CLEAR on an entry. -/
def Entry.clear (e : Entry) : Entry := { e with swCount := 0, refused := 0, fbSkips := 0 }

/-- The entry indices of a range. -/
def span (first count : Nat) : List Nat := (List.range count).map (fun i => first + i)

/-- The entries that an operation changes in a table, with what it makes of them. -/
def CellOp.effect (op : CellOp) (g : Nat) (t : Tab Entry) : List (Nat × Entry) :=
  let at_ := fun k => Tab.get Entry.reset t k
  match op with
  | .bind b => [(b.entry, (at_ b.entry).bind b)]
  | .unbind f n => ((span f n).filter (fun k => (at_ k).bound)).map (fun k => (k, (at_ k).unbind 0x01))
  | .block f n => ((span f n).filter (fun k => (at_ k).bound && (at_ k).disp != 1)).map (fun k => (k, (at_ k).block g))
  | .release f n =>
    ((span f n).filter (fun k => (at_ k).bound && (at_ k).disp != 0)).map (fun k => (k, (at_ k).release g))
  | .bypass f n => ((span f n).filter (fun k => (at_ k).bound && (at_ k).disp != 2)).map (fun k => (k, (at_ k).bypass g))
  | .replace k id => [(k, (at_ k).replace id)]
  | .set k m i c => [(k, (at_ k).setNom m i c)]
  | .load f ps => (List.range ps.length).map (fun i => (f + i, (at_ (f + i)).load (ps.getD i [])))
  | .clear f n => ((span f n).filter (fun k => (at_ k).bound)).map (fun k => (k, (at_ k).clear))

/-- A table with entries written. -/
def putAll (t : Tab Entry) (l : List (Nat × Entry)) : Tab Entry := l.foldl (fun a x => Tab.set Entry.reset x.1 x.2 a) t

/-- The table as the commands that wait for their rims will leave it. -/
def staged (s : State) : Tab Entry := s.rnk.pend.foldl (fun t p => putAll t (p.op.effect s.frm.g t)) s.cells

/-- The first entry of an operation. -/
def CellOp.first : CellOp → Nat
  | .bind b => b.entry
  | .unbind f _ => f
  | .block f _ => f
  | .release f _ => f
  | .bypass f _ => f
  | .replace k _ => k
  | .set k _ _ _ => k
  | .load f _ => f
  | .clear f _ => f

/-- Whether an operation changes non-volatile parts. -/
def CellOp.nv : CellOp → Bool
  | .clear _ _ => false
  | _ => true

/-! ### Acceptance at execution -/

/-- A command of the group that passed its checks waits for its rim. -/
def cellWait (c : Ctx) (op : CellOp) (bound16 forced : Bool) (s : State) : State :=
  { s with rnk := { s.rnk with pend := s.rnk.pend ++
      [{ hdr := c.h, opcode := c.op, op := op, bound16 := bound16, forced := forced }] } }

/-- A refusal that names an entry (R407); where the range as a whole is at fault, its first. (DEDUCED, log 60.) -/
def refuseAt (c : Ctx) (status k : Nat) (s : State) : State := finish c status (leBytes 2 k) s

/-- A range of entries is in range (R133, R406). -/
def spanOk (first count : Nat) : Bool := decide (1 ≤ count) && decide (first + count ≤ 6144)

/-- CELL_BIND (R122, R133). -/
def cellBind (c : Ctx) (b : BindArgs) (s : State) : State :=
  let t := staged s
  if 6144 ≤ b.entry ∨ b.cNom = 0 then refuse c 0x0203 s
  else if (Tab.get Entry.reset t b.entry).bound then refuse c 0x0110 s
  else if b.rod = 15 ∧ b.lane = 255 then refuse c 0x0203 s
  else
    let t1 := putAll t [(b.entry, Entry.bind b (Tab.get Entry.reset t b.entry))]
    match bindFaults (pStandN s) t1 [b.entry] with
    | some (st, _) => refuse c st s
    | none => cellWait c (.bind b) true false s

/-- Available entries that a change takes away from supervised rods that it would make SHORT (R128): the lowest. -/
def shortBy (s : State) (t : Tab Entry) (gone : List Nat) : Option Nat :=
  let rods := (List.range 12).filter (fun r =>
    let l := (rodIn t r).filter (fun e => availSt e.2.st)
    let k := l.filter (fun e => !gone.contains e.1)
    decide (s.p (0x6800 + r) ≠ 0) && decide (k.length < l.length) &&
      decide (spareOf s r k.length (k.filter (fun e => e.2.fb)).length < s.pI (0x6840 + r)))
  gone.find? (fun k =>
    let e := Tab.get Entry.reset t k
    e.bound && availSt e.st && rods.contains e.rod)

/-- A ranged command (R133, R407): every changed entry must be in a state that the effect allows, and in RUNNING no
supervised rod may become SHORT, unless FORCE is set. -/
def cellRange (c : Ctx) (op : CellOp) (first count : Nat) (ok : Entry → Bool) (takes : Bool) (bound16 : Bool) (s : State) :
    State :=
  let t := staged s
  if spanOk first count = false then refuseAt c 0x0203 first s
  else
    let ks := (op.effect s.frm.g t).map Prod.fst
    match ks.find? (fun k => !ok (Tab.get Entry.reset t k)) with
    | some k => refuseAt c 0x0110 k s
    | none =>
      match (if takes ∧ s.st = .running then shortBy s t ks else none) with
      | some k => if c.h.force then cellWait c op bound16 true s else refuseAt c 0x0111 k s
      | none => cellWait c op bound16 false s

/-- CELL_UNBIND. -/
def cellUnbind (c : Ctx) (first count : Nat) (s : State) : State :=
  cellRange c (.unbind first count) first count
    (fun e => decide (s.st ≠ .running) || decide (e.st = 0) || decide (e.st = 5) || decide (e.st = 6)) true true s

/-- CELL_BLOCK. -/
def cellBlock (c : Ctx) (first count : Nat) (s : State) : State :=
  cellRange c (.block first count) first count (fun e => decide (e.st ≤ 4) && decide (e.disp ≤ 1)) true false s

/-- CELL_RELEASE. -/
def cellRelease (c : Ctx) (first count : Nat) (s : State) : State :=
  cellRange c (.release first count) first count (fun e => decide (e.st ≤ 4) && decide (e.disp ≤ 1)) false false s

/-- CELL_BYPASS. -/
def cellBypass (c : Ctx) (first count : Nat) (s : State) : State :=
  cellRange c (.bypass first count) first count (fun e => decide (e.st ≤ 5)) true false s

/-- CELL_REPLACE. -/
def cellReplace (c : Ctx) (k cellId : Nat) (s : State) : State :=
  let t := staged s
  let e := Tab.get Entry.reset t k
  if 6144 ≤ k then refuse c 0x0203 s
  else if e.bound = false ∨ ¬ (e.st = 0 ∨ e.st = 5 ∨ e.st = 6) then refuse c 0x0110 s
  else if cellId ≠ 0 ∧ (boundIn t).any (fun x => x.1 != k && x.2.id == cellId) = true then refuse c 0x0210 s
  else cellWait c (.replace k cellId) false false s

/-- CELL_SET. -/
def cellSet (c : Ctx) (k mask minInt cNom : Nat) (s : State) : State :=
  if 6144 ≤ k ∨ mask = 0 ∨ (tb mask 1 = true ∧ cNom = 0) then refuse c 0x0203 s
  else if (Tab.get Entry.reset (staged s) k).bound = false then refuse c 0x0110 s
  else cellWait c (.set k mask minInt cNom) false false s

/-- The first carried part whose NV_CRC does not match. -/
def badCrc (ps : List (List Byte)) : Option Nat :=
  ps.findIdx? (fun b => decide (crc32c (b.take 28) ≠ fld b 28 4))

/-- The first bound part without C_NOM or C_EST. -/
def badNom (ps : List (List Byte)) : Option Nat :=
  ps.findIdx? (fun b =>
    let e := Entry.ofNv b
    e.bound && (decide (e.cNom = 0) || decide (e.cEst = 0)))

/-- CELL_LOAD. -/
def cellLoad (c : Ctx) (first : Nat) (ps : List (List Byte)) (s : State) : State :=
  if spanOk first ps.length = false ∨ 256 < ps.length then refuseAt c 0x0203 first s
  else match badCrc ps with
    | some i => refuseAt c 0x0410 (first + i) s
    | none => match badNom ps with
      | some i => refuseAt c 0x0203 (first + i) s
      | none =>
        let op := CellOp.load first ps
        let t := staged s
        match bindFaults (pStandN s) (putAll t (op.effect s.frm.g t)) (span first ps.length) with
        | some (st, k) => refuseAt c st k s
        | none => cellWait c op true false s

/-- CELL_CLEAR. -/
def cellClear (c : Ctx) (first count : Nat) (s : State) : State :=
  if spanOk first count then cellWait c (.clear first count) false false s else refuseAt c 0x0203 first s

/-! ### At the rim (R120, R134) -/

/-- The phase-cache entry of a slot cleared (R218). -/
def pcClear (lane slot : Nat) (s : State) : State :=
  { s with lnk := { s.lnk with lanes := modAt s.lnk.lanes lane (fun l =>
      { l with pc := Tab.set PcE.reset slot PcE.reset l.pc }) } }

/-- A management message queued on a lane that sends frames (R246, R250). -/
def mgtSend (lane : Nat) (m : Mgt) (s : State) : State :=
  let st := (s.lnk.lanes.getD lane LaneS.reset).st
  if st = 5 ∨ st = 6 then
    { s with cev := { s.cev with lanes := modAt s.cev.lanes lane (fun c => { c with mgt := c.mgt ++ [m] }) } }
  else s

/-- What the link does when an entry leaves its slot: UNASSIGN on a tree, and the slot's phase-cache entry cleared
(R218, R261). -/
def slotLeft (e : Entry) (s : State) : State :=
  if e.bound then
    let s1 := pcClear e.lane e.slot s
    match e.seen with
    | some c => if (s.lnk.lanes.getD e.lane LaneS.reset).gen = 1 then s1
        else mgtSend e.lane { mtype := 4, slot := e.slot, arg := c.id, tag := 0 } s1
    | none => s1
  else s

/-- One change applied to an entry, with what follows in the link and the event recorder. -/
def cellPut (op : CellOp) (x : Nat × Entry) (s : State) : State :=
  let old := s.ent x.1
  let s1 := s.setEnt x.1 x.2
  match op with
  | .bind b => pcClear b.lane b.slot s1
  | .unbind _ _ => slotLeft old s1
  | .load _ _ => slotLeft old s1
  | .replace k _ =>
    evrPush (mkTrig s1 2 0xFF [k, 0] (nvWords old) s1.now) (slotLeft old s1)
  | .set _ _ _ _ => s1
  | _ => s1

/-- A command that waits, applied at its rim, and the entries it changed. -/
def cellApply (p : PendCell) (s : State) : State × List Nat :=
  let l := p.op.effect s.frm.g s.cells
  let s1 := l.foldl (fun a x => cellPut p.op x a) s
  let s2 := { s1 with rnk := { s1.rnk with
    chg := if p.op.nv then satAdd 32 s1.rnk.chg l.length else s1.rnk.chg } }
  (if p.forced then askSafeStop 0x13 s2 else s2, l.map Prod.fst)

/-- The commands of the cell table that a rim carries out, in order, and the entries they changed (R120); `next` is the frame that
begins. -/
def cellRim (next : Nat) (s : State) : State × List (PendCell × List Nat) :=
  let due := s.rnk.pend.filter (fun p => !p.bound16 || decide (next % 16 = 0))
  due.foldl (fun a p => let r := cellApply p a.1; (r.1, a.2 ++ [(p, r.2)]))
    ({ s with rnk := { s.rnk with pend := s.rnk.pend.filter (fun p => p.bound16 && decide (next % 16 ≠ 0)) } }, [])

/-- The reply data of the group (R134) for frame `n`. -/
def cellData (s : State) (k count n : Nat) : List Byte :=
  let e := s.ent k
  let sp := if e.bound then toBits 16 (s.rnk.spare.getD e.rod Spare.reset).s else 0x8000
  leBytes 2 k ++ leBytes 2 count ++ leBytes 1 e.st ++ leBytes 1 e.cause ++ leBytes 2 sp ++ leBytes 4 n

/-- The reply of a command of the group after its rim (R134): it waits for the journal where non-volatile parts
changed. -/
def cellReply (n : Nat) (p : PendCell × List Nat) (s : State) : State :=
  let c : Ctx := { h := p.1.hdr, op := p.1.opcode }
  let d := cellData s p.1.op.first p.2.length n
  if p.1.op.nv ∧ p.2 ≠ [] then finishCommit c d (p.2.map (fun k => .cellNv k (s.ent k).nvBytes)) s
  else done c d s

/-! ### Rows (R133, R409) -/

/-- READY, BLOCKED, MAINTENANCE, RUNNING. -/
def stBind (d : DevState) : Bool := stCalm d || decide (d = .running)

/-- Row CELL_BIND. -/
def hostCellBind (h : CmdHdr) (b : BindArgs) : State → State :=
  let c : Ctx := { h := h, op := 0x0400 }
  hostCmd (.cellBind h b) c stBind (cellBind c b)

/-- Row CELL_UNBIND. -/
def hostCellUnbind (h : CmdHdr) (k n : Nat) : State → State :=
  let c : Ctx := { h := h, op := 0x0401 }
  hostCmd (.cellUnbind h k n) c stBind (cellUnbind c k n)

/-- Row CELL_BLOCK. -/
def hostCellBlock (h : CmdHdr) (k n : Nat) : State → State :=
  let c : Ctx := { h := h, op := 0x0402 }
  hostCmd (.cellBlock h k n) c stUp (cellBlock c k n)

/-- Row CELL_RELEASE. -/
def hostCellRelease (h : CmdHdr) (k n : Nat) : State → State :=
  let c : Ctx := { h := h, op := 0x0403 }
  hostCmd (.cellRelease h k n) c stUp (cellRelease c k n)

/-- Row CELL_BYPASS. -/
def hostCellBypass (h : CmdHdr) (k n : Nat) : State → State :=
  let c : Ctx := { h := h, op := 0x0404 }
  hostCmd (.cellBypass h k n) c stUp (cellBypass c k n)

/-- Row CELL_REPLACE. -/
def hostCellReplace (h : CmdHdr) (k id_ : Nat) : State → State :=
  let c : Ctx := { h := h, op := 0x0405 }
  hostCmd (.cellReplace h k id_) c stCalm (cellReplace c k id_)

/-- Row CELL_SET. -/
def hostCellSet (h : CmdHdr) (k m i n : Nat) : State → State :=
  let c : Ctx := { h := h, op := 0x0406 }
  hostCmd (.cellSet h k m i n) c stUp (cellSet c k m i n)

/-- Row CELL_LOAD. -/
def hostCellLoad (h : CmdHdr) (f : Nat) (ps : List (List Byte)) : State → State :=
  let c : Ctx := { h := h, op := 0x0407 }
  hostCmd (.cellLoad h f ps) c stCalm (cellLoad c f ps)

/-- Row CELL_CLEAR. -/
def hostCellClear (h : CmdHdr) (k n : Nat) : State → State :=
  let c : Ctx := { h := h, op := 0x0408 }
  hostCmd (.cellClear h k n) c stAny (cellClear c k n)

/-- Row FCS-1 CELL_ADD. -/
def hostFcs1CellAdd (h : CmdHdr) (b : BindArgs) : State → State :=
  let c : Ctx := { h := h, op := 0x10040 }
  hostCmd (.fcs1CellAdd h b) c stBind (cellBind c b)

/-- Row FCS-1 CELL_REMOVE. -/
def hostFcs1CellRemove (h : CmdHdr) (k : Nat) : State → State :=
  let c : Ctx := { h := h, op := 0x10041 }
  hostCmd (.fcs1CellRemove h k) c stBind (cellUnbind c k 1)

/-- Row FCS-1 CELL_BLOCK. -/
def hostFcs1CellBlock (h : CmdHdr) (k : Nat) : State → State :=
  let c : Ctx := { h := h, op := 0x10042 }
  hostCmd (.fcs1CellBlock h k) c stUp (cellBlock c k 1)

/-- Row FCS-1 CELL_UNBLOCK. -/
def hostFcs1CellUnblock (h : CmdHdr) (k : Nat) : State → State :=
  let c : Ctx := { h := h, op := 0x10043 }
  hostCmd (.fcs1CellUnblock h k) c stUp (cellRelease c k 1)

/-- Row FCS-1 CELL_BYPASS. -/
def hostFcs1CellBypass (h : CmdHdr) (k : Nat) : State → State :=
  let c : Ctx := { h := h, op := 0x10044 }
  hostCmd (.fcs1CellBypass h k) c stUp (cellBypass c k 1)

/-- Row FCS-1 CELL_SWAP. -/
def hostFcs1CellSwap (h : CmdHdr) (k id_ : Nat) : State → State :=
  let c : Ctx := { h := h, op := 0x10045 }
  hostCmd (.fcs1CellSwap h k id_) c stCalm (cellReplace c k id_)

end Sys2Proof.Machine
end

