-- ==== Sys2Proof/Machine/Adc.lean ====
section
/-! DEFINITION. Analogue inputs (R40–R67): stage 0 of a frame's work, the calibration and the rules that the ADC rows
name. -/

namespace Sys2Proof.Machine

open Sys2Proof

/-- Power domain of converter `k`: 5 ADC-L, 6 ADC-H (R40). -/
def adcDom (k : Nat) : Nat := if k < 6 then 5 else 6

/-- A channel's factors. -/
def factOf (a : Adc) (ch : Nat) : Fact := Tab.get Fact.reset a.fact ch

/-- A channel's average. -/
def avgOf (a : Adc) (ch : Nat) : Avg := Tab.get Avg.reset a.avg ch

/-- The corrected sample and whether it saturated (R45). -/
def correct (f : Fact) (raw : Int) : Int × Bool :=
  let y := (raw * 16 - f.ofs) * (229376 + f.gain)
  let z := rshr y 22
  (satS 16 z, decide (satS 16 z ≠ z))

/-- Whether a raw code is a rail code (R42). -/
def railCode (raw : Int) : Bool := decide (raw = -32768) || decide (raw = 32767)

/-- The samples of a converter with their channels, walking its sequence list from the slot pointer (R43). -/
def walkSeq (s : State) (k ptr : Nat) (l : List (Nat × Int)) : List (Nat × Nat × Int) :=
  let n := max 1 (s.p (0x2000 + k))
  (List.range l.length).zip l |>.map (fun x =>
    (16 * k + s.p (0x2100 + 16 * k + (ptr + x.1) % n), x.2.1, x.2.2))

/-- The corrected samples of a window: channel, instant, value, clip, saturated (R45, R50). -/
def feedOf (s : State) (inp : RimIn) : List (Nat × Nat × Int × Bool × Bool) :=
  (List.range 12).flatMap (fun k =>
    if tb s.pwr.on (adcDom k) then
      (walkSeq s k (s.adc.ptr.getD k 0) (inp.conv.getD k [])).map (fun x =>
        let c := correct (factOf s.adc x.1) x.2.2
        (x.1, x.2.1, c.1, railCode x.2.2, c.2))
    else [])

/-- The slot pointers after a window. -/
def ptrsOf (s : State) (inp : RimIn) : List Nat :=
  (List.range 12).map (fun k =>
    let p := s.adc.ptr.getD k 0
    if tb s.pwr.on (adcDom k) then (p + (inp.conv.getD k []).length) % max 1 (s.p (0x2000 + k)) else p)

/-- A channel's own average of a window, before R62 forces it (R47, R48). -/
def ownAvg (old : Avg) (l : List (Nat × Nat × Int × Bool × Bool)) (whole cal : Bool) : Avg :=
  let ok := !l.isEmpty && whole && !cal
  { old with
    own := ok, ownV := if ok then satS 24 (rdiv (sumI (l.map (fun x => x.2.2.1)) * 256) l.length) else old.ownV,
    clip := l.any (fun x => x.2.2.2.1), sat := l.any (fun x => x.2.2.2.2), cal := cal }

/-- The three channels of triplet `t`. -/
def triCh (s : State) (t : Nat) : List (Option Nat) := [0, 1, 2].map (fun j => s.pO (0x2400 + 4 * t + j))

/-- Whether the check of triplet `t` runs in this frame (R63). -/
def triArmed (s : State) (t : Nat) : Bool :=
  match s.p (0x2403 + 4 * t) with
  | 0 => false
  | 1 => decide (s.st = .running) || decide (s.st = .safeStop)
  | _ => true

/-- The check of a triplet in a frame (R61, R62), its latch left as it was. -/
def triJudge (s : State) (avgs : Nat → Avg) (t : Nat) (old : Tri) : Tri :=
  let a := (triCh s t).map (fun c => match c with | some ch => avgs ch | none => Avg.reset)
  let va := (a.getD 0 Avg.reset).ownV
  let vb := (a.getD 1 Avg.reset).ownV
  let vc := (a.getD 2 Avg.reset).ownV
  let valid := (triCh s t).all Option.isSome && a.all (fun x => x.own)
  let vn := s.p (0x2440 + t)
  let num := (2 * va - vb - vc) ^ 2 + 3 * (vb - vc) ^ 2
  let den := 36 * vn * vn
  let inside := decide (s.pI 0x2450 * den ≤ num) && decide (num < s.pI 0x2451 * den) && valid
  let armed := triArmed s t
  { old with m := satU 16 (openDiv 1 num den), count := if armed && !inside then min 255 (old.count + 1) else 0,
             armed := armed, inside := inside, valid := valid }

/-- Triplet `t` has been outside for ADC_PLAUS_FRAMES consecutive frames and is not latched yet (R62). -/
def plausDue (s : State) (t : Nat) : Bool :=
  let x := s.adc.tris.getD t Tri.reset
  x.armed && !x.fault && decide (s.p 0x2452 ≤ x.count)

/-- ADC_PLAUS: the latch and its fault, when due (R62). -/
def plausLatch (t : Nat) (s : State) : State :=
  if plausDue s t then
    raise 0x02 t 5 (((triCh s t).getD 0 none).getD 0)
      { s with adc := { s.adc with tris := modAt s.adc.tris t (fun x => { x with fault := true }) } }
  else s

/-- Channels that a latched triplet forces invalid (R62). -/
def forced (s : State) (ch : Nat) : Bool :=
  (List.range 8).any (fun t => (s.adc.tris.getD t Tri.reset).fault && (triCh s t).contains (some ch))

/-- The average that consumers see. -/
def seenAvg (s : State) (ch : Nat) (a : Avg) : Avg :=
  let ok := a.own && !forced s ch
  { a with valid := ok, val := if ok then a.ownV else a.val }

/-- The current of rod `r` from a channel's average (R51). (DEDUCED, log 20.) -/
def rodAmp (s : State) (r : Nat) (v : Int) : Int := satS 24 (rshr (v * s.pI (0x2320 + r)) 26)

/-- The rod current of a frame, with the counts of R53 but not its latch (R51–R53). -/
def rodJudge (s : State) (r : Nat) (old : RodI) : RodI :=
  let av := fun c : Option Nat => match c with | some ch => avgOf s.adc ch | none => Avg.reset
  let pri := s.pO (0x2300 + r)
  let sec := s.pO (0x2310 + r)
  let p := av pri
  let q := av sec
  let both := p.valid && q.valid && sec.isSome
  let big := decide (s.p 0x2330 * 64 ≤ (rodAmp s r p.val - rodAmp s r q.val).natAbs)
  let up := if both && big then min 3 (old.up + 1) else 0
  let down := if both && !big then min 3 (old.down + 1) else 0
  let disc := if 3 ≤ down then false else old.disc
  if p.valid then
    { cur := rodAmp s r p.val, valid := true, src := false, disc := disc, clip := p.clip, up := up, down := down }
  else if q.valid then
    { cur := rodAmp s r q.val, valid := true, src := true, disc := disc, clip := q.clip, up := up, down := down }
  else { old with valid := false, src := false, disc := disc, clip := false, up := up, down := down }

/-- Rod `r` has differed for three frames and DISC is not set yet (R53). -/
def discDue (s : State) (r : Nat) : Bool :=
  let x := s.adc.rods.getD r RodI.reset
  decide (3 ≤ x.up) && !x.disc

/-- ADC_ROD_DISC: the flag and its fault, when due (R53). -/
def discLatch (r : Nat) (s : State) : State :=
  if discDue s r then
    raise 0x02 r 3 ((s.pO (0x2300 + r)).getD 0)
      { s with adc := { s.adc with rods := modAt s.adc.rods r (fun x => { x with disc := true }) } }
  else s

/-- Channels whose clipping is reported: of rod currents and of armed triplets (R49). -/
def watched (s : State) (ch : Nat) : Bool :=
  (List.range 12).any (fun r => s.pO (0x2300 + r) == some ch || s.pO (0x2310 + r) == some ch) ||
  (List.range 8).any (fun t => triArmed s t && (triCh s t).contains (some ch))

/-- The averages and triplets of the window that closes (R47, R61–R63). -/
def adcClose (inp : RimIn) (s : State) : State :=
  let feed := feedOf s inp
  let avgs := (List.range 192).foldl (fun t ch =>
    let l := feed.filter (fun x => x.1 == ch)
    Tab.set Avg.reset ch (ownAvg (avgOf s.adc ch) l (s.adc.whole.getD (adcDom (ch / 16) - 5) false) s.adc.calSeen) t)
    s.adc.avg
  let tris := (List.range 8).map (fun t =>
    triJudge s (fun ch => Tab.get Avg.reset avgs ch) t (s.adc.tris.getD t Tri.reset))
  { s with adc := { s.adc with avg := avgs, tris := tris, feed := feed, ptr := ptrsOf s inp,
                               plausAny := tris.any (fun x => x.armed && !x.inside) } }

/-- The averages as consumers see them, and the rod currents (R48, R51, R52, R62). -/
def adcRods (s : State) : State :=
  let avgs := (List.range 192).foldl (fun t ch => Tab.set Avg.reset ch (seenAvg s ch (avgOf s.adc ch)) t) s.adc.avg
  let s1 := { s with adc := { s.adc with avg := avgs } }
  let rods := (List.range 12).map (fun r => rodJudge s1 r (s1.adc.rods.getD r RodI.reset))
  { s1 with adc := { s1.adc with rods := rods } }

/-- The rods whose current is lost and reported: in RUNNING and SAFE_STOP, with bound entries (R52). -/
def lostRods (s : State) : List Nat :=
  if s.st = .running ∨ s.st = .safeStop then
    (List.range 12).filter (fun r => !(s.adc.rods.getD r RodI.reset).valid && !(s.rodL r).isEmpty)
  else []

/-- ADC_CLIP and ADC_ROD_LOST of the frame, and their counters (R49, R52, R64). -/
def adcReport (s : State) : State :=
  let clipCh := (List.range 192).find? (fun ch => (avgOf s.adc ch).clip && watched s ch)
  let s1 := match clipCh with
    | some ch => raise 0x02 (ch / 16) 1 ch { s with adc := { s.adc with clips := satAdd 32 s.adc.clips 1 } }
    | none => s
  let lost := lostRods s1
  let s2 := lost.foldl (fun a r => raise 0x02 r 2 ((a.pO (0x2300 + r)).getD 0) a) s1
  if lost.isEmpty && !s2.adc.plausAny then s2
  else { s2 with adc := { s2.adc with measFaults := satAdd 32 s2.adc.measFaults 1 } }

/-- Stage 0 of the work that begins at a rim, on the window that this rim closes (R17, R40–R54, R61–R63). -/
def adcStage (inp : RimIn) (s : State) : State :=
  let s1 := if s.frm.rims ≤ 1 then s else adcClose inp s
  let s2 := (List.range 8).foldl (fun a t => plausLatch t a) s1
  let s3 := (List.range 12).foldl (fun a r => discLatch r a) (adcRods s2)
  let s4 := adcReport s3
  { s4 with adc := { s4.adc with
      fact := s4.adc.newFact.foldl (fun t x => Tab.set Fact.reset x.1 x.2 t) s4.adc.fact, newFact := [], calSpan := none,
      whole := [tb s4.pwr.on 5, tb s4.pwr.on 6], calSeen := s4.adc.cal.isSome } }

/-! ### Calibration (R55–R60) -/

/-- The converters that are powered. -/
def convUp (s : State) : Nat := maskOf ((List.range 12).filter (fun k => tb s.pwr.on (adcDom k) && s.frm.armed))

/-- The factors that a channel's sums give, if accepted (R56). -/
def calFact (c : CalSum) : Option Fact :=
  let d := c.pos - c.neg
  if c.zero.natAbs < 512 * 4096 ∧ 0 < d ∧ 950 * d ≤ 100 * 2 ^ 33 ∧ 100 * 2 ^ 33 < 1050 * d then
    some { ofs := rshr c.zero 8, gain := (rdiv (2 ^ 51 - 2293760 * d) (10 * d.toNat)).toNat, cal := true }
  else none

/-- The ADC_FACT word of a channel (R64). -/
def factWord (f : Fact) : Nat := pack [(16, f.gain), (0, toBits 16 f.ofs)]

/-- Whether the 192 channels are all calibrated (R46). -/
def calValid (a : Adc) : Bool := (List.range 192).all (fun ch => (factOf a ch).cal)

/-- The reply data of a calibration (R59). -/
def calData (convs failed us map : Nat) : List Byte :=
  leBytes 2 convs ++ leBytes 2 failed ++ leBytes 4 us ++ leBytes 24 map

/-- A running calibration is abandoned: every factor stays, the reply is ABORTED (R60). (DESIGN CHOICE, log 58.) -/
def calAbort (s : State) : State :=
  match s.adc.cal with
  | some (h, op, t0, convs) =>
    finish { h := h, op := op } 0x0303 (calData convs 0 ((s.now - t0) / 1000) 0)
      { s with adc := { s.adc with cal := none, calSpan := some (t0, s.now, convs) } }
  | none => s

/-- A calibration completes (R56–R59): accepted channels take their factors at the next rim, the others are marked
and reported, and all factors are journalled in one record. -/
def calDone (t : Nat) (sums : List CalSum) (s : State) : State :=
  match s.adc.cal with
  | some (h, op, t0, convs) =>
    let mine := sums.filter (fun c => tb convs (c.ch / 16))
    let ok := mine.filterMap (fun c => (calFact c).map (fun f => (c.ch, f)))
    let chans := (List.range 192).filter (fun ch => tb convs (ch / 16))
    let bad := chans.filter (fun ch => !(ok.any (fun x => x.1 == ch)))
    let us := (t - t0) / 1000
    let facts := ok.foldl (fun a x => Tab.set Fact.reset x.1 x.2 a) s.adc.fact
    let words := (List.range 192).map (fun ch => factWord (Tab.get Fact.reset facts ch))
    let s1 := { s with adc := { s.adc with cal := none, calSpan := some (t0, t, convs), newFact := ok, calTime := us, calFail := maskOf bad } }
    let s2 := bad.foldl (fun a ch => raise 0x02 (ch / 16) 4 ch a) s1
    finish { h := h, op := op } 0 (calData convs bad.length us (maskOf bad)) (jnlAdd (.adcFact words) s2)
  | none => s

end Sys2Proof.Machine
end

