-- ==== Sys2Proof/Machine/Lane.lean ====
section
/-! DEFINITION. The cell lanes: bring-up (R208–R234), discovery and ranging (R261–R265), the weave schedule (R257–R260),
reports (R266–R268, R271), the downstream frames (R239–R251, R269). -/

namespace Sys2Proof.Machine

open Sys2Proof

/-! ### Lanes -/

/-- Lane `k`'s link state, and its protocol state. -/
def State.ln (s : State) (k : Nat) : LaneS := s.lnk.lanes.getD k LaneS.reset
def State.cv (s : State) (k : Nat) : CevLane := s.cev.lanes.getD k CevLane.reset

/-- Lane `k`'s states changed. -/
def State.modLn (k : Nat) (f : LaneS → LaneS) (s : State) : State :=
  { s with lnk := { s.lnk with lanes := modAt s.lnk.lanes k f } }
def State.modCv (k : Nat) (f : CevLane → CevLane) (s : State) : State :=
  { s with cev := { s.cev with lanes := modAt s.cev.lanes k f } }

/-- Event values brought into force (R403). -/
def fireP (sel : Nat → Bool) (s : State) : State := { s with params := s.params.fire sel }

/-- The entries of a lane that leaves its active state: ABSENT at the rim (R117), their cells forgotten. -/
def laneLeave (k : Nat) (s : State) : State :=
  let ks := (s.laneL k).map Prod.fst
  let s1 := ks.foldl (fun a i => if 1 ≤ (a.ent i).st ∧ (a.ent i).st ≤ 4 then propose i 0 0x13 a else a) s
  let s2 := ks.foldl (fun a i => a.modEnt i (fun e =>
    { e with seen := none, ranged := false, tries := 0, echoed := false, cfgDue := false })) s1
  (s2.modLn k (fun l => { l with pc := if l.st = 6 ∨ l.st = 7 then [] else l.pc })).modCv k (fun c =>
    { c with weave := none, next := none, ranging := none, mgt := [], late := [], seen := [], unknown := [],
             conc := none, concTries := 0, concDelay := none, nblk := 0 })

/-- A lane enters DISABLED or DETECT (R225). Its polarity bits last until DETECT (R226), and so does the light seen
since it last entered DETECT (R233). -/
def laneToDetect (k st : Nat) (s : State) : State :=
  fireP (fun i => decide (i = 0x8209)) ((laneLeave k s).modLn k (fun l =>
    { l with st := st, noLight := false, light := decide (st ≠ 1) && l.light, rxInv := decide (st ≠ 1) && l.rxInv,
             txInv := decide (st ≠ 1) && l.txInv, mxLock := false, losRun := 0, locked := false, rows := [],
             dsErr := false, caps := [], due := none, roundOk := false, held := false }))

/-- The valid rows of lane `k` (R221). -/
def validRows (s : State) (k : Nat) : List Nat := (List.range 8).filter (fun j => tb (s.p (0x8000 + 8 * k + j)) 31)

/-- A bring-up failure (R227). -/
def laneFail (k cause : Nat) (s : State) : State :=
  let s1 := fireP (fun i => decide (i = 0x8205) || decide (i = 0x8206)) (laneLeave k s)
  let n := satAdd 4 (s1.ln k).retries 1
  let hold := decide (s1.p 0x8206 ≠ 0) && decide (s1.p 0x8206 ≤ n)
  raiseIf hold 0x08 k 2 cause (raise 0x08 k 1 cause
    (s1.modLn k (fun l => { l with st := 8, cause := cause, retries := n, held := hold, caps := [], rows := [] })))

/-- LNK_LIGHT_DETECT (R225): the parameters of TRAIN come into force and every valid row is to be measured; without a
valid row none is eligible (R223). A standby measures with its laser off and shows DETECT (R224). -/
def lightDetect (k : Nat) (s : State) : State :=
  if k < 24 ∧ (s.ln k).st = 1 ∧ (s.ln k).light = false then
    let s1 := fireP (fun i => inRun i (0x8000 + 8 * k) 8 || decide (i = 0x8200) || decide (i = 0x8201)) s
    let s2 := s1.modLn k (fun l => { l with
      st := if acts s then 2 else 1, light := true, foms := List.replicate 8 FomRow.reset, rows := validRows s1 k,
      dsErr := false, adopted := false, noLight := false })
    if validRows s1 k = [] then laneFail k 2 s2 else s2
  else s

/-- LNK_DETECT_FLAG (R225). -/
def detectFlag (k : Nat) (s : State) : State :=
  if k < 24 ∧ (s.ln k).st = 1 ∧ (s.ln k).light = false then s.modLn k (fun l => { l with noLight := true }) else s

/-- The row with the highest FOM that is eligible, the lower number of two alike (R223). -/
def bestRow (l : List FomRow) (lim : Nat) : Option Nat :=
  (List.range 8).foldl (fun a j =>
    let f := l.getD j FomRow.reset
    if f.measured = false ∨ f.fom < lim then a
    else match a with
      | some i => if (l.getD i FomRow.reset).fom < f.fom then some j else a
      | none => some j) none

/-- LNK_EQ_DWELL_END (R222–R224): the medians, the number of clean bursts and the concentrator's report of errors. -/
def dwellEnd (k w h clean : Nat) (dsErr : Bool) (s : State) : State :=
  let l := s.ln k
  match l.rows with
  | j :: rest =>
    if k < 24 ∧ (l.st = 2 ∨ (l.st = 1 ∧ l.light = true)) then
      let bad := (dsErr || l.dsErr) && acts s
      let f : FomRow := { measured := true, dsErr := bad, few := decide (clean < 8), w := w, h := h,
                          fom := if clean < 8 ∨ bad = true then 0 else w * h }
      let foms := l.foms.set j f
      let s1 := s.modLn k (fun x => { x with foms := foms, rows := rest, dsErr := false })
      if rest ≠ [] then s1
      else match bestRow foms (s.p 0x8201) with
        | some b =>
          fireP (fun i => decide (i = 0x8202)) (s1.modLn k (fun x =>
            { x with adopted := true, row := b, fom := (foms.getD b FomRow.reset).fom,
                     st := if l.st = 2 then 3 else 1 }))
        | none => laneFail k 2 s1
    else s
  | [] => s

/-- LNK_ALIGN_LOCK (R226): lock under the adopted row, the receive polarity and what each reporting cell sees. LAT_DEV of
the lane is known from then on (DESIGN CHOICE, log 2). -/
def alignLock (k : Nat) (rxInv : Bool) (dsInv : List Bool) (s : State) : State :=
  let l := s.ln k
  if k < 24 ∧ l.rows = [] ∧ (l.st = 3 ∨ (l.st = 1 ∧ l.adopted = true ∧ l.light = true)) then
    let ones := (dsInv.filter id).length
    let txInv := decide (dsInv.length < 2 * ones)
    let s1 := (s.modLn k (fun x => { x with
      rxInv := rxInv, txInv := txInv, st := if l.st = 3 then 4 else 7, mxLock := x.mxLock || decide (l.st = 1),
      caps := [] })).modCv k (fun c => { c with latDev := satS 16 (Config.openVal 8 k) })
    let s2 := fireP (fun i => decide (i = 0x8203) || decide (i = 0x8204)) s1
    raiseIf (dsInv.any (fun b => b != txInv)) 0x08 k 4 k s2
  else s

/-- LNK_ALIGN_TO (R225). -/
def alignTo (k : Nat) (s : State) : State := if k < 24 ∧ (s.ln k).st = 3 then laneFail k 3 s else s

/-- LNK_CAPS_TO (R225). -/
def capsTo (k : Nat) (s : State) : State :=
  if k < 24 ∧ (s.ln k).st = 4 ∧ (s.ln k).caps = [] ∧ (s.cv k).conc.isNone = true then laneFail k 4 s else s

/-! ### Assignment (R261) -/

/-- An identity given to an entry's slot: on a tree by ASSIGN; on Cevel-1 the port fixes it, and the entry shares the
concentrator's DELAY. -/
def assignTo (k i : Nat) (c : Seen) (s : State) : State :=
  let e := s.ent i
  let s1 := s.setEnt i { e with seen := some c, ranged := false, tries := 0, echoed := false, misRaised := false }
  if (s.ln k).gen = 1 then
    match (s.cv k).concDelay with
    | some d => s1.modEnt i (fun x => { x with delay := d, ranged := true, cfgDue := true, echoed := true })
    | none => s1
  else mgtSend k { mtype := 1, slot := e.slot, arg := c.id, tag := 0 } s1

/-- The cells of a lane that no entry holds. -/
def freeCells (s : State) (k : Nat) : List (Nat × Seen) :=
  (s.ln k).caps.filter (fun c => !(s.laneL k).any (fun e => match e.2.seen with | some x => x.id == c.2.id | none => false))

/-- The entry that takes a cell: by identity; otherwise an entry of identity 0 that holds no cell, the lowest slot
first, on Cevel-1 the one of the cell's port. -/
def takerOf (s : State) (k : Nat) (c : Nat × Seen) (byId : Bool) : Option Nat :=
  let l := (s.laneL k).filter (fun e => e.2.seen.isNone)
  if (s.ln k).gen = 1 then (l.find? (fun e => e.2.slot == c.1)).map Prod.fst
  else if byId then (l.find? (fun e => e.2.id == c.2.id && decide (e.2.id ≠ 0))).map Prod.fst
  else
    let z := (l.filter (fun e => decide (e.2.id = 0))).map (fun e => (e.2.slot, e.1))
    match (z.map Prod.fst).min? with
    | some sl => (z.find? (fun p => p.1 == sl)).map Prod.snd
    | none => none

/-- One pass of the assignment over the free cells, by rising identity. -/
def assignPass (k : Nat) (byId : Bool) (s : State) : State :=
  (freeCells s k).foldl (fun a c => match takerOf a k c byId with | some i => assignTo k i c.2 a | none => a) s

/-- The assignment of a lane in DISCOVER or ACTIVE; an identity left over is counted once (R261). -/
def assignLane (k : Nat) (s : State) : State :=
  if (s.ln k).st = 5 ∨ (s.ln k).st = 6 then
    let s1 := assignPass k false (assignPass k true s)
    (freeCells s1 k).foldl (fun a c =>
      if (a.cv k).unknown.contains c.2.id then a
      else raise 0x09 k 1 (c.2.id % 2 ^ 32) { (a.modCv k (fun x => { x with unknown := x.unknown ++ [c.2.id] })) with
        cev := { (a.modCv k (fun x => { x with unknown := x.unknown ++ [c.2.id] })).cev with
          unknown := satAdd 32 a.cev.unknown 1 } }) s1
  else s

/-- A cell gathered (R225, R261, R263). -/
def gather (k port : Nat) (c : Seen) (s : State) : State :=
  if c.id = 0 ∨ (s.ln k).caps.any (fun x => x.2.id == c.id) = true then s
  else assignLane k (s.modLn k (fun l => { l with
    caps := insertBy (fun a b => decide (a.2.id < b.2.id)) (port, c) l.caps }))

/-- LNK_CAPS_QUIET (R225): DISCOVER. -/
def capsQuiet (k : Nat) (s : State) : State :=
  if k < 24 ∧ (s.ln k).st = 4 ∧ ((s.ln k).caps ≠ [] ∨ (s.cv k).conc.isSome) then
    let s1 := fireP (fun i => decide (i = 0x9022) || (decide ((s.ln k).gen = 1) && decide (i = 0x9000 + k))) s
    assignLane k ((s1.modLn k (fun l => { l with st := 5, roundOk := false })).modCv k (fun c =>
      { c with winAt := s.frm.rims + 1, ranging := none, weave := none, next := none }))
  else s

/-! ### The weave schedule (R257–R260, R263, R264) -/

/-- The role of a frame on a lane. -/
inductive FrameRole where
  /-- No upstream traffic. -/
  | idle
  /-- A report frame with its cycle index. -/
  | report (c : Nat)
  /-- Frame `j` of a discovery window of `wd` frames; whether it is an announce window. -/
  | window (j wd : Nat) (ann : Bool)
deriving DecidableEq, Repr

/-- Frames of a window of lane `k` outside a weave schedule: W_D on a tree, and long enough for the answer on Cevel-1
(R257, R269). -/
def winFrames (s : State) (k : Nat) : Nat :=
  if (s.ln k).gen = 1 then 1 + cdiv (336 + 2 * s.p (0x9000 + k)) (periodNs s.toDev)
  else wdOf (s.ln k).gen s.frm.period (s.p (0x9000 + k))

/-- The role of the frame with rim count `m` on lane `k`. -/
def roleOf (s : State) (k m : Nat) : FrameRole :=
  let l := s.ln k
  let c := s.cv k
  match c.weave with
  | some w =>
    if l.st ≠ 6 ∨ m < w.epoch then .idle
    else
      let g := w.k * w.fc + w.wd
      let q := (m - w.epoch) % g
      if q < w.k * w.fc then .report (q % w.fc)
      else .window (q - w.k * w.fc + 1) w.wd (decide ((m - w.epoch) / g % 2 = 0) && decide (s.p 0x9025 = 1))
  | none =>
    let wd := winFrames s k
    let b := c.winAt + (m - c.winAt) / wd * wd
    if ¬ (l.st = 5 ∨ (l.st = 6 ∧ l.gen ≠ 1)) ∨ m < c.winAt then .idle
    else if l.st = 6 ∧ (match c.next with | some w => decide (w.epoch < b + wd) | none => false) = true then .idle
    else .window (m - b + 1) wd false

/-- The schedule's quantities as the stored values give them: F_C, W_D, K, window (R257, R277). -/
def weaveWant (s : State) (k : Nat) : Nat × Nat × Nat × Nat :=
  let win := (pvStored s.toDev (0x9000 + k)).toNat
  (fcOf (s.ln k).gen s.frm.period (topSlot s.cells k), wdOf (s.ln k).gen s.frm.period win,
   (pvStored s.toDev 0x9020).toNat, win)

/-- A new schedule where the quantities have changed (R259). How far beyond CEV_WEAVE_LEAD the device places the epoch
is open (DESIGN CHOICE, log 2). -/
def weaveForm (k : Nat) (s : State) : State :=
  let c := s.cv k
  let x := weaveWant s k
  let same := match c.next, c.weave with
    | some w, _ => decide ((w.fc, w.wd, w.k, w.win) = x)
    | none, some w => decide ((w.fc, w.wd, w.k, w.win) = x)
    | none, none => false
  if (s.ln k).st ≠ 6 ∨ (s.ln k).gen = 1 ∨ same = true then s
  else
    let s1 := fireP (fun i => decide (i = 0x9024)) s
    let tag := (c.wtag + 1) % 16
    let w : Weave :=
      { fc := x.1, wd := x.2.1, k := x.2.2.1, win := x.2.2.2, wtag := tag,
        epoch := s.frm.rims + s1.p 0x9024 + satU 8 (Config.openVal 5 s.frm.rims) }
    s1.modCv k (fun c => { c with wtag := tag, next := some w })

/-- The epoch of a waiting schedule comes (R259, R277). -/
def weaveEpoch (k : Nat) (s : State) : State :=
  match (s.cv k).next with
  | some w =>
    if w.epoch ≤ s.frm.rims then
      fireP (fun i => decide (i = 0x9000 + k) || decide (i = 0x9020))
        (s.modCv k (fun c => { c with weave := some w, next := none }))
    else s
  | none => s

/-! ### Ranging (R262–R265, R269) -/

/-- The assigned entries of a lane, by slot. -/
def assigned (s : State) (k : Nat) : List (Nat × Entry) :=
  sortBy (fun a b => decide (a.2.slot < b.2.slot)) ((s.laneL k).filter (fun e => e.2.seen.isSome))

/-- The slot after `from_` in round robin order. -/
def roundRobin (l : List Nat) (from_ : Option Nat) : Option Nat :=
  match from_ with
  | some f => ((l.find? (fun x => decide (f ≤ x))).orElse (fun _ => l.head?))
  | none => l.head?

/-- The cell of the next ranging: slot, identity, and the round-robin position after it (R263, R264). -/
def chooseRange (s : State) (k : Nat) : Option (Nat × Nat) × Option Nat :=
  let c := s.cv k
  let l := assigned s k
  let idOf := fun (e : Nat × Entry) => (e.2.slot, (e.2.seen.map Seen.id).getD 0)
  let fresh := l.find? (fun e => !e.2.ranged && decide (e.2.tries < s.p 0x9021))
  if (s.ln k).gen = 1 then
    ((if c.concDelay.isNone ∧ c.concTries < s.p 0x9021 then c.conc.map (fun x => (0xFF, x.id)) else none), c.nextSlot)
  else if (s.ln k).st = 5 then (fresh.map idOf, c.nextSlot)
  else
    let stale := l.find? (fun e => e.2.ranged && !(Tab.get PcE.reset (s.ln k).pc e.2.slot).valid)
    let first := if c.weave.isNone then fresh.orElse (fun _ => stale) else stale.orElse (fun _ => fresh)
    match first with
    | some e => (some (idOf e), c.nextSlot)
    | none =>
      match roundRobin (l.map (fun e => e.2.slot)) c.nextSlot with
      | some sl => ((l.find? (fun e => e.2.slot == sl)).map idOf,
          roundRobin (l.map (fun e => e.2.slot)) (some (sl + 1)))
      | none => (none, none)

/-- The first discovery round ends when every assigned cell has been ranged or has used up its attempts (R264). -/
def discRound (k : Nat) (s : State) : State :=
  let l := assigned s k
  let c := s.cv k
  let one := decide ((s.ln k).gen = 1)
  let ovr := if one then c.concDelay.isSome || c.conc.isNone || decide (s.p 0x9021 ≤ c.concTries)
    else l.all (fun e => e.2.ranged || decide (s.p 0x9021 ≤ e.2.tries))
  let ok := if one then c.concDelay.isSome else l.any (fun e => e.2.ranged)
  if (s.ln k).st ≠ 5 ∨ ovr = false ∨ (s.ln k).roundOk = true then s
  else if ok then s.modLn k (fun x => { x with roundOk := true })
  else laneFail k 5 s

/-- LNK_DISC_TO (R264). -/
def discTo (k : Nat) (s : State) : State :=
  if k < 24 ∧ (s.ln k).st = 5 ∧ (s.ln k).roundOk = false then laneFail k 5 s else s

/-- LNK_RETRY_WAIT_END (R225, R227). -/
def retryWaitEnd (k : Nat) (s : State) : State :=
  if k < 24 ∧ (s.ln k).st = 8 ∧ (s.ln k).held = false then laneToDetect k 1 s else s

/-- A failed ranging attempt (R262). -/
def rangeFail (k : Nat) (s : State) : State :=
  match (s.cv k).ranging with
  | some rg =>
    let s1 := s.modCv k (fun c => { c with
      ranging := none, failed := satAdd 16 c.failed 1,
      concTries := if (s.ln k).gen = 1 then c.concTries + 1 else c.concTries })
    let s2 := if (s.ln k).gen = 1 then s1
      else match s1.entAt k rg.slot with
        | some e => s1.modEnt e.1 (fun x => { x with tries := x.tries + 1 })
        | none => s1
    discRound k s2
  | none => s

/-- A new DELAY for an entry, with its CFG (R251, R262, R265). -/
def setDelay (k i d : Nat) (s : State) : State :=
  let e := s.ent i
  let far := e.ranged && decide (s.p 0x9023 < ((d : Int) - e.delay).natAbs)
  raiseIf far 0x09 k 2 i (s.setEnt i { e with
    delay := d, ranged := true, cfgTag := (e.cfgTag + 1) % 16, cfgDue := true,
    echoed := decide ((s.ln k).gen = 1) })

/-- An accepted ranging (R262, R265); `pc` is the phase-cache seed of a tree. -/
def rangeAccept (k d : Nat) (pc : Option PcE) (s : State) : State :=
  match (s.cv k).ranging with
  | some rg =>
    let s1 := s.modCv k (fun c => { c with
      ranging := none, done := satAdd 16 c.done 1, concDelay := if (s.ln k).gen = 1 then some d else c.concDelay })
    let is_ := if (s.ln k).gen = 1 then (assigned s1 k).map Prod.fst
      else match s1.entAt k rg.slot with | some e => [e.1] | none => []
    let s2 := is_.foldl (fun a i => setDelay k i d a) s1
    let s3 := match pc with
      | some x => s2.modLn k (fun l => { l with pc := Tab.set PcE.reset rg.slot x l.pc })
      | none => s2
    discRound k s3
  | none => s

/-- The delay that a ranging burst gives, in 1/16 ns (R262): on a tree with the preamble of 1,024 UI at the lane's rate,
on Cevel-1 with 8 ns and the lag. -/
def rangeDelay (gen tLock dAt : Nat) (latDev asym lag : Int) : Int :=
  let x : Int := tLock - 16 * dAt - 4096 - latDev - asym
  match gen with
  | 1 => rdiv (x - 128 - lag) 2
  | 2 => rdiv (x * 330 - 524288) 660
  | _ => rdiv (x * 825 - 524288) 1650

/-- A ranging judged by its delay. -/
def rangeJudge (k tLock : Nat) (asym lag : Int) (pc : Option PcE) (s : State) : State :=
  match (s.cv k).ranging with
  | some rg =>
    let d := rangeDelay (s.ln k).gen tLock rg.dAt (s.cv k).latDev asym lag
    if 0 ≤ d ∧ d < 16 * (s.p (0x9000 + k) : Int) then rangeAccept k d.toNat pc s else rangeFail k s
  | none => s

/-- A ranging on lane `k` waits for its burst: D has passed and the window goes on (R262). -/
def rangeOpen (s : State) (k : Nat) : Bool :=
  match (s.cv k).ranging with
  | some rg => decide (rg.dIdx ≤ s.frm.rims) && decide (s.frm.rims < rg.last)
  | none => false

/-! ### Upstream content (R252–R254, R271) -/

/-- Payload of block `i` of a burst. -/
def bu (b : Burst) (i : Nat) : Nat := ((b.blocks.getD i (0, 0)).2).toNat

/-- The envelope of a burst's content: sync headers, types, IDLE blocks to the end, MSG and the CRC (R252). -/
def burstShape (b : Burst) (msg idles : Nat) : Bool :=
  decide (b.blocks.map Prod.fst = [2, 1, 1, 2] ++ List.replicate idles 2) &&
    decide (bu b 0 % 256 = 0x33) && decide (bu b 3 % 256 = 0xCC) && decide (bits 19 16 (bu b 0) = msg) &&
    (b.blocks.drop 4).all (fun x => decide (x.2 = 0x1E)) &&
    decide (crc32c ((leBytes 8 (bu b 0)).drop 1 ++ leBytes 8 (bu b 1) ++ leBytes 8 (bu b 2) ++
      ((leBytes 8 (bu b 3)).drop 1).take 3) = bu b 3 / 2 ^ 32)

/-- Locked under the lane's polarity (R216, R226). -/
def burstOn (b : Burst) (l : LaneS) : Bool :=
  (decide (b.lock = .locked) && !l.rxInv) || (decide (b.lock = .inverted) && l.rxInv)

/-- What a cell says of itself in U1 and U2 (R252). -/
def burstSelf (b : Burst) : Seen :=
  { id := bits 47 0 (bu b 1), fb := tb (bu b 1) 56, gen := bits 55 52 (bu b 1), hw := bits 51 48 (bu b 1),
    asym := sext 16 (bu b 2) }

/-- The CRC-8 of the Cevel link (R254). -/
def crc8 (l : List Byte) : Nat :=
  crcMsb 8 0x07 0 (l.flatMap (fun b => (List.range 8).map (fun i => tb b.toNat (7 - i))))

/-- A burst outside the report slots that is neither locked nor inverted is a lock failure of its lane (R216). -/
def burstErr (b : Burst) (s : State) : State :=
  if b.lock = .fail ∧ 1 ≤ (s.ln b.lane).st then s.modLn b.lane (fun l => { l with errs := satAdd 32 l.errs 1 }) else s

/-- RANGING_BURST (R262). -/
def rangingBurst (b : Burst) (s0 : State) : State :=
  let s := burstErr b (s0.at b.time)
  let k := b.lane
  let l := s.ln k
  if k < 24 ∧ l.gen ≠ 1 ∧ rangeOpen s k = true then
    if burstOn b l then
      let s1 := s.modLn k (fun x => { x with locked := true })
      match (s.cv k).ranging with
      | some rg =>
        if burstShape b 2 0 ∧ (burstSelf b).id = rg.id then
          rangeJudge k b.tLock (burstSelf b).asym 0 (some { phase := b.phase, thr := b.thr, valid := true, miss := 0 }) s1
        else rangeFail k s1
      | none => s1
    else s
  else s

/-- BEACON (R220, R222, R261): in TRAIN the report of downstream errors counts for its row, in CAPS the cell is
gathered. -/
def beacon (b : Burst) (s0 : State) : State :=
  let s := burstErr b (s0.at b.time)
  let k := b.lane
  let l := s.ln k
  if 24 ≤ k ∨ l.gen = 1 ∨ b.lock = .fail ∨ burstShape b 1 0 = false ∨ bits 15 8 (bu b 0) ≠ 0xFF then s
  else if l.st = 2 then
    if tb (bu b 1) 58 = true ∧ l.rows.head? = some (bits 61 59 (bu b 1)) then
      s.modLn k (fun x => { x with dsErr := true }) else s
  else if l.st = 4 ∧ burstOn b l = true then gather k 0 (burstSelf b) s
  else s

/-- ANNOUNCE (R263). -/
def announce (b : Burst) (s0 : State) : State :=
  let s := burstErr b (s0.at b.time)
  let k := b.lane
  if k < 24 ∧ (s.ln k).gen ≠ 1 ∧ burstOn b (s.ln k) = true ∧
      (match roleOf s k s.frm.rims with | .window j _ a => a && decide (j = 1) | _ => false) = true then
    let s1 := s.modLn k (fun x => { x with locked := true })
    if burstShape b 3 0 ∧ bits 15 8 (bu b 0) = 0xFF then gather k 0 (burstSelf b) s1 else s1
  else s

/-! ### Reports (R216, R217, R259, R260, R266, R271) -/

/-- Whether a bound entry's report is expected (R260). -/
def reportDue (e : Entry) : Bool := observedSt e.st && e.seen.isSome && e.echoed

/-- A slot belongs to the present schedule position of a lane: a slot of the frame in progress, or one of the frame
before whose burst comes after the rim. In OBSERVE the active device's schedule is taken to hold. (DEDUCED, log 47.) -/
def slotNow (s : State) (k slot : Nat) : Bool :=
  decide ((s.ln k).st = 7) || (s.cv k).late.contains slot ||
    (match roleOf s k s.frm.rims with
      | .report c => decide (slot / slotsPerFrame (s.ln k).gen s.frm.period = c)
      | _ => false)

/-- PHASE_CACHE_STALE (R217). -/
def pcStale (k slot : Nat) (s : State) : State :=
  if k < 24 then
    s.modLn k (fun l =>
      let x := Tab.get PcE.reset l.pc slot
      if s.p 0x8208 ≤ x.miss then { l with pc := Tab.set PcE.reset slot { x with valid := false } l.pc } else l)
  else s

/-- A missing or bad report of an entry (R147, R266). -/
def reportBad (k i slot : Nat) (s : State) : State :=
  let due := reportDue (s.ent i)
  let s1 := s.modCv k (fun c => { c with bad := satAdd 32 c.bad 1, seen := c.seen ++ [slot] })
  if due then { s1 with obs := { s1.obs with missing := s1.obs.missing ++ [i] } } else s1

/-- A lock failure in the slot of an assigned cell (R216, R217). -/
def lockFail (k slot : Nat) (s : State) : State :=
  match s.entAt k slot with
  | some (i, e) =>
    if e.seen.isSome then
      let s1 := pcStale k slot (s.modLn k (fun l =>
        let x := Tab.get PcE.reset l.pc slot
        { l with errs := satAdd 32 l.errs 1, pc := Tab.set PcE.reset slot { x with miss := satAdd 3 x.miss 1 } l.pc }))
      if reportDue e then reportBad k i slot s1
      else s1.modCv k (fun c => { c with seen := c.seen ++ [slot] })
    else s
  | none => s

/-- BURST_LOCK_FAIL (R216). -/
def burstLockFail (k slot : Nat) (s : State) : State :=
  if k < 24 ∧ ((s.ln k).st = 6 ∨ (s.ln k).st = 7) ∧ slotNow s k slot = true ∧ (s.cv k).seen.contains slot = false then
    lockFail k slot s else s

/-- The frame that the low bits of a TM_FRAME name, at or before the reception: its opening rim and length, where the
observer still keeps it (R266). -/
def tmFrame (s : State) (w tm : Nat) : Option (Nat × Nat) :=
  let d := (s.frm.count + 2 ^ w - tm % 2 ^ w) % 2 ^ w
  if d = 0 then some (s.frm.g, s.frm.len)
  else match s.obs.wins[d - 1]? with
    | some x => some (x.t0, x.t1 - x.t0)
    | none => none

/-- The instant t_m of a report, none where TM_NS lies outside its frame; an instant in a frame that the observer no
longer keeps lies before every instant it takes. -/
def tmOf (s : State) (w tm ns : Nat) : Option Int :=
  match tmFrame s w tm with
  | some (t0, len) => if ns < len then some (t0 + ns : Nat) else none
  | none => if ns < periodNs s.toDev then some (-1) else none

/-- A report that passes its checks goes to the next frame's work (R17, R266). -/
def reportTake (k : Nat) (r : Rpt) (s : State) : State :=
  { s.modCv k (fun c => { c with reports := satAdd 32 c.reports 1 }) with
    obs := { s.obs with intake := s.obs.intake ++ [r] } }

/-- What a standby learns of a cell it has not discovered itself; its ASYM is open (DESIGN CHOICE, log 2). -/
def standbySeen (s : State) (k i : Nat) (e : Entry) : Option Seen :=
  e.seen.orElse (fun _ => if acts s then none
    else some { id := e.id, fb := e.fb, gen := (s.ln k).gen, hw := e.hw, asym := satS 10 (Config.openVal 7 i) })

/-- The standby's sample of δ of a lane, in 1/1,600 ns (R325). -/
def deltaSample (s : State) (b : Burst) : Int :=
  let gen := (s.ln b.lane).gen
  let j := b.slot % slotsPerFrame gen s.frm.period
  let late := decide (b.tLock < 16 * s.frm.g + if gen = 2 then 410 else 185)
  let rim : Nat := match late, s.obs.wins with | true, w :: _ => w.t0 | _, _ => s.frm.g
  100 * (b.tLock : Int) - 1600 * rim - (if gen = 2 then 102400 * j + 40960 else 51200 * j + 18432) -
    100 * (s.cv b.lane).latDev + 100 * (s.pair.lanes.getD b.lane PLane.reset).ptnrLat

/-- A clean burst heard by a standby (R325). -/
def deltaTake (b : Burst) (s : State) : State :=
  if (s.ln b.lane).st = 7 then
    { s with pair := { s.pair with lanes := modAt s.pair.lanes b.lane (fun x =>
        { x with samples := x.samples ++ [(s.frm.rims, deltaSample s b)] }) } }
  else s

/-- REPORT_BURST (R216, R217, R266): the checks, and the report taken in. -/
def reportBurst (b : Burst) (s0 : State) : State :=
  let s := s0.at b.time
  let k := b.lane
  let l := s.ln k
  match s.entAt k b.slot with
  | none => s
  | some (i, e) =>
    if 24 ≤ k ∨ l.gen = 1 ∨ ¬ (l.st = 6 ∨ l.st = 7) ∨ (acts s = true ∧ e.seen.isNone = true) ∨ slotNow s k b.slot = false ∨
        (s.cv k).seen.contains b.slot = true then s
    else if b.lock = .fail then lockFail k b.slot s
    else
      let s1 := s.modLn k (fun x => { x with
        locked := true, pc := Tab.set PcE.reset b.slot { phase := b.phase, thr := b.thr, valid := true, miss := 0 } x.pc })
      match burstOn b l && burstShape b 0 (if l.gen = 2 then 2 else 4) && decide (bits 15 8 (bu b 0) = b.slot),
            tmOf s 16 (bits 47 32 (bu b 0)) (bits 60 48 (bu b 0)) with
      | true, some tm =>
        let s2 := (s1.modEnt i (fun x => { x with
          echoed := x.echoed || !acts s || (x.ranged && decide (bits 23 20 (bu b 0) = x.cfgTag)),
          seen := standbySeen s k i x })).modCv k (fun c => { c with seen := c.seen ++ [b.slot] })
        deltaTake b (reportTake k
          { entry := i, tm := tm, tRx := b.time, vrep := bits 23 0 (bu b 1) * 2 ^ 7, legs := bits 27 24 (bu b 1),
            fault := tb (bu b 0) 24, sb := tb (bu b 0) 25, hold := tb (bu b 0) 26 } s2)
      | _, _ => reportBad k i b.slot s1

/-- The round of a concentrator ends: ports expected and not reported are missing (R271). -/
def c1RoundEnd (k : Nat) (s : State) : State :=
  let miss := (s.laneL k).filter (fun e => reportDue e.2 && !(s.cv k).seen.contains e.2.slot)
  let s1 := miss.foldl (fun a e => reportBad k e.1 e.2.slot a) s
  s1.modCv k (fun c => { c with seen := [] })

/-- C1_REPORT (R266, R271). -/
def c1Report (k : Nat) (b : List Byte) (t : Nat) (s0 : State) : State :=
  let s := s0.at t
  let l := s.ln k
  if 24 ≤ k ∨ l.gen ≠ 1 ∨ ¬ (l.st = 6 ∨ l.st = 7) then s
  else
    let s1 := s.modLn k (fun x => { x with locked := true })
    let h := fld b 0 1
    let port := bits 4 0 h
    if b.length ≠ 7 ∨ crc8 (b.take 6) ≠ fld b 6 1 then s1.modCv k (fun c => { c with bad := satAdd 32 c.bad 1 })
    else
      let s2 := if (s1.cv k).seen.any (fun p => decide (port ≤ p)) then c1RoundEnd k s1 else s1
      let s3 := match s2.entAt k port, tmOf s2 3 (bits 15 13 (fld b 3 2)) (bits 12 0 (fld b 3 2)) with
        | some (i, e), some tm =>
          let s4 := (s2.modEnt i (fun x => { x with echoed := x.echoed || !acts s, seen := standbySeen s k i x })).modCv k
            (fun c => { c with seen := c.seen ++ [port] })
          if e.seen.isNone && acts s then s2
          else reportTake k { entry := i, tm := tm, tRx := t, vrep := fld b 1 2 * 2 ^ 12, legs := b2n (tb h 5) + 2 * b2n (tb h 6),
                              fault := tb h 7, sb := tb (fld b 5 1) 0, hold := tb (fld b 5 1) 1 } s4
        | some (i, e), none => if e.seen.isSome then reportBad k i port s2 else s2
        | none, _ => s2
      if topSlot s3.cells k = some port then c1RoundEnd k s3 else s3

/-- C1_RANGING_ANSWER (R269, R271). -/
def c1Answer (k : Nat) (b : List Byte) (tLock : Nat) (s : State) : State :=
  if k < 24 ∧ (s.ln k).gen = 1 ∧ rangeOpen s k = true then
    let s1 := s.modLn k (fun x => { x with locked := true })
    if b.length ≠ 7 ∨ crc8 (b.take 6) ≠ fld b 6 1 ∨ fld b 0 1 ≠ 0xFF then rangeFail k s1
    else rangeJudge k tLock (((s.cv k).conc.map Seen.asym).getD 0) (fld b 1 1 : Nat) none s1
  else s

/-- C1_CAPABILITY (R271). -/
def c1Capability (k : Nat) (b : List Byte) (t : Nat) (s0 : State) : State :=
  let s := s0.at t
  let l := s.ln k
  if k < 24 ∧ l.gen = 1 ∧ 4 ≤ l.st ∧ l.st ≤ 6 ∧ b.length = 11 ∧ crc8 (b.take 10) = fld b 10 1 then
    let c : Seen := { id := fld b 1 6, fb := false, gen := 1, hw := fld b 7 1 % 16, asym := sext 16 (fld b 8 2) }
    let s1 := s.modLn k (fun x => { x with locked := true })
    if fld b 0 1 = 0xFF then s1.modCv k (fun x => { x with conc := some c })
    else gather k (fld b 0 1 % 32) c s1
  else s

/-! ### Feedback (R267, R268) -/

/-- The state (H, L) that a level orders of leg A or B, as H + 2·L (R267). -/
def legOf (legB : Bool) (lv : Nat) : Nat :=
  match lv with
  | 0 => 2
  | 1 => if legB then 2 else 1
  | 2 => if legB then 1 else 2
  | _ => 0

/-- The level at an instant, points at it included. -/
def levAt (l : List (Nat × Nat)) (t : Int) : Nat :=
  match (l.filter (fun p => decide ((p.1 : Int) ≤ t))).getLast? with
  | some p => p.2
  | none => 4

/-- The commanded pairs of transitions of a leg whose window holds `t`: states before and after (R267). -/
def pairsAt (legB : Bool) (dead : Nat) (t : Int) : Nat → List (Nat × Nat) → List (Nat × Nat)
  | _, [] => []
  | c, (te, d) :: rest =>
    let a := legOf legB c
    let b := legOf legB d
    let more := pairsAt legB dead t d rest
    if a ≠ 0 ∧ b ≠ 0 ∧ a ≠ b ∧ (te : Int) - 2 ≤ t ∧ t < te + dead + 2 then (a, b) :: more else more

/-- Whether a leg's reported state is accepted (R268). -/
def legOk (legB : Bool) (dead : Nat) (lev : List (Nat × Nat)) (t : Int) (x : Nat) : Bool :=
  decide (x = legOf legB (levAt lev t)) ||
    (pairsAt legB dead t 4 lev).any (fun p => decide (x = p.1) || decide (x = p.2) || decide (x = 0))

/-- One report in the fault and feedback rules (R266, R268): whether it goes on to the observer. -/
def reportRules (r : Rpt) (s : State) : State × Bool :=
  let e := s.ent r.entry
  if e.bound = false ∨ e.st = 0 then (s, true)
  else
    let a := r.legs % 4
    let b := if e.fb then r.legs / 4 % 4 else 0
    let s1 := if r.fault then propose r.entry 6 0x0E s else s
    let s2 := if a = 3 ∨ b = 3 then propose r.entry 6 0x0D s1 else s1
    if r.sb || r.hold then (raise 0x09 e.lane 3 r.entry s2, true)
    else if a = 3 ∨ b = 3 ∨ r.tm < 0 then (s2, true)
    else
      let dead := s.p (0x7020 + e.rod)
      if legOk false dead e.lev r.tm a && (!e.fb || legOk true dead e.lev r.tm b) then
        (s2.modEnt r.entry (fun x => { x with skips := 0 }), true)
      else
        ((s2.modEnt r.entry (fun x => { x with
            skips := min 3 (x.skips + 1), fbSkips := satAdd 32 x.fbSkips 1, good := 0 })).modCv e.lane
          (fun c => { c with skips := satAdd 32 c.skips 1 }), false)

/-- The reports of the frame that ended, in the work of the next, before the observer (R266). -/
def reportStage (s : State) : State :=
  s.obs.intake.foldl (fun a r =>
    let x := reportRules r a
    if x.2 then { x.1 with obs := { x.1.obs with intake := x.1.obs.intake ++ [r] } } else x.1)
    { s with obs := { s.obs with intake := [] } }

/-- What an entry takes from its cell at its first discovery (R113, R119): the identity where it has none and no other
bound entry holds it, and the generations that the cell reports. (DEDUCED, log 61.) -/
def learnCell (i : Nat) (c : Seen) (s : State) : State :=
  let e := s.ent i
  let id := if e.id = 0 ∧ s.boundL.any (fun x => x.2.id == c.id) = false then c.id else e.id
  if id = c.id ∧ (e.id ≠ id ∨ e.hw ≠ c.hw ∨ e.gen ≠ c.gen) then
    nvRule i (fun x => { x with id := id, hw := c.hw, gen := c.gen }) s
  else s

/-- An ABSENT entry whose cell has answered and has been ranged (R117–R119): the change for the rim, and the fault of a
mismatch. (DEDUCED, log 22.) (DEDUCED, log 61.) -/
def foundRule (i : Nat) (s : State) : State :=
  let e := s.ent i
  match e.seen with
  | some c =>
    if e.st = 0 ∧ e.ranged = true then
      let s1 := learnCell i c s
      if e.disp = 2 then propose i 5 0x15 s1
      else if e.disp = 3 then propose i 6 0x15 s1
      else match (discJudge s1 (s1.ent i)).1 with
        | some m => propose i 1 m (misFault i s1)
        | none => propose i 1 (if (s1.ent i).id = e.id then 0x02 else 0x03) s1
    else s
  | none => s

/-- Found cells of all bound entries in a frame's work. -/
def foundStage (s : State) : State := (s.boundL.map Prod.fst).foldl (fun a i => foundRule i a) s

/-! ### At the rim -/

/-- A lane lost in ACTIVE (R228). -/
def laneLost (k : Nat) (s : State) : State :=
  let s1 := raise 0x08 k 3 6 { s with lnk := { s.lnk with downs := satAdd 32 s.lnk.downs 1 } }
  (laneToDetect k 1 s1).modLn k (fun l => { l with cause := 6 })

/-- LNK_LOS (R228): on a tree the run of frames without a lock has reached its limit; on Cevel-1 the loss itself, for the
next rim. -/
def lnkLos (k : Nat) (s : State) : State :=
  let l := s.ln k
  if 24 ≤ k ∨ l.st ≠ 6 then s
  else if l.gen = 1 then s.modLn k (fun x => { x with due := some (1, 6) })
  else if s.p 0x8207 ≤ l.losRun then laneLost k s
  else s

/-- The lane's loss run at the rim that ends a frame (R228). -/
def losStep (k : Nat) (s : State) : State :=
  let l := s.ln k
  if l.st ≠ 6 then s
  else
    let held := decide (l.gen ≠ 1) && (s.laneL k).any (fun e => decide (1 ≤ e.2.st)) && !l.locked
    let s1 := s.modLn k (fun x => { x with losRun := if held then x.losRun + 1 else 0, locked := false })
    if l.gen = 1 ∧ l.due = some (1, 6) then laneLost k s1 else if l.gen = 1 then s1 else lnkLos k s1

/-- Expected or assigned slots of a report frame that ended without a burst (R216, R260, R266); `m` is its rim count,
`len` its length. -/
def missStep (k m len : Nat) (s : State) : State :=
  let l := s.ln k
  let c := s.cv k
  if l.st ≠ 6 ∨ l.gen = 1 then s
  else
    let n := slotsPerFrame l.gen s.frm.period
    let slots : List Nat := match roleOf s k m with
      | .report cyc => ((s.laneL k).filter (fun e => e.2.seen.isSome && decide (e.2.slot / n = cyc))).map (fun e => e.2.slot)
      | _ => []
    let after := slots.filter (fun j => decide (16 * (len : Int) < ((j % n + 1) * (if l.gen = 2 then 1024 else 512) : Nat) + c.latDev))
    let now := c.late ++ slots.filter (fun j => !after.contains j)
    let s1 := (now.filter (fun j => !c.seen.contains j)).foldl (fun a j => lockFail k j a) s
    s1.modCv k (fun x => { x with late := after, seen := x.seen.filter (fun j => !now.contains j) })

/-- The lane's state at a rim (R225, R228–R232): enabled or disabled, a changed generation, a restart, the first round
done. -/
def laneStep (k : Nat) (s : State) : State :=
  let l := s.ln k
  let on := tb s.pwr.on (laneDom k)
  let gen := s.p (0x8100 + k)
  if l.st = 0 then
    let s1 := if gen = l.gen then s else s.modLn k (fun x => { x with gen := gen, pc := [], foms := List.replicate 8 FomRow.reset })
    if s.p (0x8120 + k) = 1 ∧ on = true ∧ s.jnl.restored = true then laneToDetect k 1 s1 else s1
  else if on = false then (laneToDetect k 0 s).modLn k (fun x => { x with cause := 7 })
  else if s.p (0x8120 + k) = 0 then (laneToDetect k 0 s).modLn k (fun x => { x with cause := 8 })
  else if gen ≠ l.gen then
    (laneToDetect k 1 s).modLn k (fun x => { x with gen := gen, pc := [], foms := List.replicate 8 FomRow.reset })
  else if s.lnk.restarts.any (fun r => tb r.mask k) then
    (laneToDetect k 1 s).modLn k (fun x => { x with retries := 0 })
  else if l.st = 5 ∧ l.roundOk = true then
    (s.modLn k (fun x => { x with st := 6, retries := 0, roundOk := false, losRun := 0, locked := true })).modCv k
      (fun c => { c with winAt := s.frm.rims, ranging := none, weave := none, next := none })
  else s

/-- The lanes at a rim, before the rule-driven changes of the cell table; `m` and `len` are the rim count and length of
the frame that ends. -/
def lanesRim (m len : Nat) (s : State) : State :=
  let win := mapOf 24 (fun k => match roleOf s k m with | .window _ _ _ => true | _ => false)
  (List.range 24).foldl (fun a k => assignLane k (laneStep k (losStep k (missStep k m len a))))
    { s with cev := { s.cev with discWin := win } }

/-- A lane's domain is switched off (R230). -/
def laneDomainOff (k : Nat) (s : State) : State :=
  if (s.ln k).st = 0 then s else (laneToDetect k 0 s).modLn k (fun x => { x with cause := 7 })

/-- The replies of LNK_RESTART at their rim, the rim of frame `n` (R231): the lanes and FRAME. -/
def restartReplies (n : Nat) (s : State) : State :=
  s.lnk.restarts.foldl (fun a r => done { h := r.hdr, op := r.opcode } (leBytes 3 r.mask ++ [0] ++ leBytes 4 n)
      (if r.forced then askSafeStop 0x13 a else a))
    { s with lnk := { s.lnk with restarts := [] } }

/-! ### Downstream (R239–R251, R269) -/

/-- The wire code of a level (R242). -/
def wireCode (c : Nat) : Nat := match c with | 0 => 1 | 1 => 2 | 2 => 3 | 4 => 0 | _ => 4

/-- The order of messages (R250). -/
def mgtRank (m : Mgt) : Nat := match m.mtype with | 5 => 0 | 3 => 1 | 1 => 2 | 2 => 3 | _ => 4

/-- Messages that a frame has room for (R239, R269). -/
def mgtRoom (gen : Nat) : Nat := if gen = 1 then 2 else 4

/-- The WEAVE message of a frame: in every frame until an epoch, and in the first frame of a period (R259). -/
def weaveMsg (s : State) (k : Nat) : List Mgt :=
  let mk := fun (w : Weave) =>
    let e := (s.frm.count + w.epoch + 2 ^ 48 - s.frm.rims) % 2 ^ 48
    [({ mtype := 5, slot := 0xFF, tag := w.wtag, arg := pack [(0, w.fc), (5, w.wd), (9, w.k), (16, e % 2 ^ 32)] } : Mgt)]
  match (s.cv k).next, (s.cv k).weave with
  | some w, _ => mk w
  | none, some w => if w.epoch ≤ s.frm.rims ∧ (s.frm.rims - w.epoch) % (w.k * w.fc + w.wd) = 0 then mk w else []
  | none, none => []

/-- The CFG of an entry (R250, R251). -/
def cfgMsg (e : Entry) : Mgt :=
  { mtype := 3, slot := e.slot, tag := e.cfgTag, arg := pack [(0, e.rod % 16), (4, e.delay % 2 ^ 16)] }

/-- CFGs that are due: new ones, and in the first frame of a weave period those not echoed (R251). -/
def cfgDue (s : State) (k : Nat) : List (Nat × Entry) :=
  let again := match (s.cv k).weave with
    | some w => decide (w.epoch ≤ s.frm.rims) && decide ((s.frm.rims - w.epoch) % (w.k * w.fc + w.wd) = 0)
    | none => false
  sortBy (fun a b => decide (a.2.slot < b.2.slot)) ((s.laneL k).filter (fun e =>
    e.2.cfgDue || (again && e.2.ranged && e.2.seen.isSome && !e.2.echoed)))

/-- The ranging that a window's first frame starts: the cell is chosen and RANGE queued, where the frame has room for it
(R262–R264). -/
def rangeStart (k : Nat) (s : State) : State :=
  match roleOf s k s.frm.rims with
  | .window 1 wd false =>
    let before := (weaveMsg s k).length + (cfgDue s k).length + ((s.cv k).mgt.filter (fun m => mgtRank m < 3)).length
    let ch := chooseRange s k
    match ch.1 with
    | some (slot, id_) =>
      if mgtRoom (s.ln k).gen ≤ before ∨ (s.cv k).ranging.isSome = true then s
      else s.modCv k (fun c => { c with
        nextSlot := ch.2, ranging := some { slot := slot, id := id_, dIdx := s.frm.rims + 1, dAt := 0, last := s.frm.rims + wd },
        mgt := c.mgt ++ [{ mtype := 2, slot := slot, arg := id_, tag := 0 }] })
    | none => discRound k s
  | _ => s

/-- The ranging in progress at a rim: D is dated, or the window ends without an accepted burst (R262). -/
def rangeStep (k : Nat) (s : State) : State :=
  match (s.cv k).ranging with
  | some rg =>
    if rg.last ≤ s.frm.rims then rangeFail k s
    else if rg.dIdx = s.frm.rims then s.modCv k (fun c => { c with ranging := some { rg with dAt := s.frm.g } })
    else s
  | none => s

/-- The edge entry of an order (R243). -/
def edgeEnt (len : Nat) (e : Entry) : EdgeEnt :=
  { test := e.ord.test, off := e.ord.e.getD len, lv1 := wireCode e.ord.lv1, lv0 := wireCode e.ord.lv0, slot := e.slot }

/-- The edge entries of a lane's frame: partial and departure entries by slot, then test edges (R243). -/
def edgesFor (s : State) (k len : Nat) : List EdgeEnt :=
  let l := sortBy (fun a b => decide (a.2.slot < b.2.slot)) (s.laneL k)
  (l.filter (fun e => e.2.ord.part || e.2.ord.dep)).map (fun e : Nat × Entry => edgeEnt len e.2) ++
    (l.filter (fun e => e.2.ord.test && e.2.ord.e.isSome)).map (fun e => edgeEnt len e.2)

/-- The wire code of a slot (R242). -/
def slotCode (s : State) (k slot : Nat) : Nat :=
  match s.entAt k slot with | some e => wireCode e.2.ord.code | none => 0xF

/-- Blocks or code groups of a frame from FS on (R239, R269). -/
def frameLen (gen : Nat) (plan : Bool) (nmgt nedge : Nat) : Nat :=
  if gen = 1 then 22 + 8 * nmgt + (if plan then 16 + 4 * nedge else 0) + 1
  else 4 + nmgt + (if plan then (if gen = 2 then 8 else 16) + cdiv nedge 2 else 0)

/-- The frame of lane `k` released at the rim for a plan of `len` ns, and what it leaves waiting (R239–R251). (DESIGN CHOICE, log 57.) -/
def sendFrame (len k : Nat) (s : State) : State :=
  let l := s.ln k
  if ¬ (l.st = 5 ∨ l.st = 6) ∨ laserOn s k l = false then s.modCv k (fun c => { c with nblk := 0 })
  else
    let c := s.cv k
    let plan := decide (l.st = 6)
    let cfgs := cfgDue s k
    let tree := fun (m : Mgt) => decide (l.gen ≠ 1) || decide (m.mtype = 2) || decide (m.mtype = 3)
    let waiting := (sortBy (fun a b => decide (mgtRank a < mgtRank b))
      ((if l.gen = 1 then [] else weaveMsg s k) ++ cfgs.map (fun e => cfgMsg e.2) ++ c.mgt)).filter tree
    let sent := waiting.take (mgtRoom l.gen)
    let rest := waiting.drop (mgtRoom l.gen)
    let edges := if plan then edgesFor s k len else []
    let told := (cfgs.filter (fun e => sent.contains (cfgMsg e.2))).map Prod.fst
    let f : DownFrame :=
      { fn := (s.frm.count + 2 ^ 48 - 1) % 2 ^ 48, gen := l.gen, test := decide (s.st = .maintenance), sys := s.pair.sys,
        plan := plan, wtag := (c.weave.map Weave.wtag).getD 0, hold := s.p 0xB001, len := len, tx := s.fir.tx,
        tripSeq := s.trp.seq, act := pack ((List.range 12).map (fun r => (2 * r, s.trp.act.getD r 0))), mgt := sent,
        codes := if plan then (List.range (slotsOf l.gen)).map (slotCode s k) else [], edges := edges }
    let s1 := told.foldl (fun a i => a.modEnt i (fun e => { e with cfgDue := false })) s
    (s1.modCv k (fun x => { x with
      mgt := rest.filter (fun m => decide (m.mtype = 1) || decide (m.mtype = 4)), inserts := 0, abandoned := false,
      nblk := frameLen l.gen plan sent.length edges.length })).emit (.frame k f)

/-- The lanes' part of a rim after the release: schedules, rangings, frames. -/
def lanesSend (len : Nat) (s : State) : State :=
  (List.range 24).foldl (fun a k =>
    sendFrame len k (rangeStart k (rangeStep k (weaveForm k (weaveEpoch k a))))) s

/-! ### LNK_RESTART (R231) -/

/-- Lanes of a mask. -/
def lanesIn (mask : Nat) : List Nat := bitsOf 24 mask

/-- The loss of lanes would leave a supervised rod SHORT (R230). -/
def lanesShort (s : State) (mask : Nat) : Bool :=
  wouldShort s (fun _ e => tb mask e.lane)

/-- LNK_RESTART. -/
def lnkRestart (c : Ctx) (mask : Nat) (s : State) : State :=
  let add := fun f => { s with lnk := { s.lnk with
    restarts := s.lnk.restarts ++ [{ hdr := c.h, opcode := c.op, mask := mask, forced := f }] } }
  if (lanesIn mask).any (fun k => decide ((s.ln k).st = 0)) then refuse c 0x0113 s
  else if decide (s.st = .running) && lanesShort s mask then
    if c.h.force then add true else refuse c 0x0111 s
  else add false

/-- Row LNK_RESTART. -/
def hostLnkRestart (h : CmdHdr) (mask : Nat) : State → State :=
  let c : Ctx := { h := h, op := 0x0502 }
  hostCmd (.lnkRestart h mask) c stUp (lnkRestart c mask)

/-- Row FCS-1 LINK_RESET. -/
def hostFcs1LinkReset (h : CmdHdr) (mask : Nat) : State → State :=
  let c : Ctx := { h := h, op := 0x10050 }
  hostCmd (.fcs1LinkReset h mask) c stUp (lnkRestart c mask)

end Sys2Proof.Machine
end

