-- ==== Sys2Proof/Machine/Time.lean ====
section
/-! DEFINITION. Network time, timed outputs, the PLL's SYNC_IN (R339–R365). -/

namespace Sys2Proof.Machine

open Sys2Proof

/-! ### Domains and ports (R342–R345) -/

/-- Domain `d`, and port `p`. -/
def State.dom (s : State) (d : Nat) : TDom := s.time.doms.getD d TDom.reset
def State.port (s : State) (p : Nat) : TPort := s.time.ports.getD p TPort.reset

/-- Domain `d` changed. -/
def State.modDom (d : Nat) (f : TDom → TDom) (s : State) : State :=
  { s with time := { s.time with doms := modAt s.time.doms d f } }

/-- The indices of the enabled domains with a PTP domain number (R343). -/
def domsOf (s : State) (num : Nat) : List Nat :=
  [0, 1].filter (fun d => decide (s.pO (0xC000 + d) = some num))

/-- Whether a master is strictly better than another under the data set comparison (R343). -/
def betterDs (a b : MasterDs) : Bool :=
  if a.identity = b.identity then decide (a.steps < b.steps)
  else
    let x := [a.prio1, a.cls, a.accuracy, a.variance, a.prio2, a.identity]
    let y := [b.prio1, b.cls, b.accuracy, b.variance, b.prio2, b.identity]
    match (x.zip y).find? (fun p => p.1 != p.2) with
    | some p => decide (p.1 < p.2)
    | none => false

/-- The port that a domain uses (R343). -/
def choosePort (t : TDom) : Nat :=
  match t.master.getD t.port none, t.master.getD (1 - t.port) none with
  | none, some _ => 1 - t.port
  | some a, some b => if betterDs b a then 1 - t.port else t.port
  | _, _ => t.port

/-- A domain whose port or master may have changed: a new port starts afresh (R343, R345). -/
def TDom.settle (t : TDom) : TDom :=
  if choosePort t = t.port then { t with valid := t.valid && (t.master.getD t.port none).isSome }
  else { t with port := choosePort t, valid := false, syncs := [] }

/-- What follows when domain validity has changed: a switch to the other domain, or holdover (R347, R348). -/
def validity (before : State) (s : State) : State :=
  let v := fun (x : State) (d : Nat) => (x.dom d).valid
  let u := s.time.inUse
  let none_ := !v s 0 && !v s 1
  let s1 := if v before u && !v s u && v s (1 - u) && s.time.selDue.isNone then
      { s with time := { s.time with selDue := some (1 - u) } } else s
  if none_ && (v before 0 || v before 1) then
    raise 0x0C u 4 0 { s1 with time := { s1.time with holdover := true, slew := 0 } }
  else if none_ then s1
  else { s1 with time := { s1.time with
    holdover := false, inUse := if s.time.holdover && !v s u then 1 - u else s1.time.inUse } }

/-- PTP_ANNOUNCE (R343). -/
def ptpAnnounce (port domain : Nat) (ds : MasterDs) (s : State) : State :=
  if (s.port port).up then
    validity s ((domsOf s domain).foldl (fun a d => a.modDom d (fun t =>
      let better := match t.master.getD port none with
        | some m => decide (m.identity = ds.identity) || betterDs ds m
        | none => true
      if better then TDom.settle { t with master := t.master.set port (some ds) } else t)) s)
  else s

/-- PTP_ANNOUNCE_TIMEOUT (R343). -/
def ptpAnnounceTimeout (port domain : Nat) (s : State) : State :=
  validity s ((domsOf s domain).foldl (fun a d => a.modDom d (fun t =>
    TDom.settle { t with master := t.master.set port none })) s)

/-- PTP_SYNC_LOSS of domain `d` (R345, R348). -/
def ptpSyncLoss (d : Nat) (s : State) : State :=
  if d < 2 then validity s (s.modDom d (fun t => { t with valid := false })) else s

/-- Latencies of a port in 1/16 ns, its adjustment included: receive and transmit (R344). -/
def lRx (s : State) (p : Nat) : Int := 16 * (if (s.port p).sgmii then 136 else 184) + s.pI (0xC012 + p)
def lTx (s : State) (p : Nat) : Int := 16 * (if (s.port p).sgmii then 88 else 96) + s.pI (0xC014 + p)

/-- The corrected ingress stamp in grid ns, and the corrected egress stamp (R344). -/
def ingress (s : State) (p raw16 : Nat) : Int := tdiv (raw16 - lRx s p) 16
def egress (s : State) (p raw16 : Nat) : Int := tdiv (raw16 + lTx s p) 16

/-- The mean of the last peer delays of a port, none where no delay is usable (R345). -/
def meanPd (s : State) (p : Nat) : Option Int := pdMean (s.port p)

/-! ### The servo (R345–R348) -/

/-- The median of offsets; between the two middle ones of an even number the value is their mean, its rounding open
(DESIGN CHOICE, log 3). -/
def median (l : List Int) : Int :=
  let x := sortBy (fun a b => decide (a < b)) l
  let n := l.length
  if n % 2 = 1 then x.getD (n / 2) 0 else openDiv 6 (x.getD (n / 2 - 1) 0 + x.getD (n / 2) 0) 2

/-- TIME_STEP: eight consecutive offsets of the domain in use that agree (R346). -/
def timeStep (s : State) : State :=
  let u := s.time.inUse
  let t := s.dom u
  let o := s.dom (1 - u)
  let m := median (t.offs.take 8)
  let agree := s.pI 0xC003
  if t.offs.length < 8 ∨ t.ovr < 8 ∨ (t.offs.take 8).any (fun x => decide (agree < (x - m).natAbs)) = true ∨
      s.time.stepDue.isSome = true ∨ s.time.selDue.isSome = true then s
  else
    let step := { s with time := { s.time with stepDue := some m } }
    if o.valid then
      match o.theta with
      | some x => if (x - m).natAbs ≤ agree then step else { s with time := { s.time with selDue := some (1 - u) } }
      | none => { s with time := { s.time with selDue := some (1 - u) } }
    else if s.p 0xC004 = 1 then step
    else raiseIf s.time.held.isNone 0x0C u 2 0 { s with time := { s.time with held := some m, slew := 0 } }

/-- The frequency target (R345, R359). The quotient's rounding is open (DESIGN CHOICE, log 3). -/
def freqGoal (u : Nat) (s : State) : State :=
  let l := (s.dom u).syncs
  let n := s.p 0xC00A
  match l.head?, l[n]? with
  | some (m1, g1), some (m0, g0) =>
    if g1 ≤ g0 then s
    else
      let dg := g1 - g0
      let want := s.time.y + openDiv 7 ((m1 - m0 - (dg : Int)) * 2 ^ 40) dg
      let y := clampI (-219902325) 219902325 want
      let lim := decide (y ≠ want)
      raiseIf (lim && !s.time.freqLim) 0x0C u 6 0 { s with time := { s.time with yGoal := y, freqLim := lim } }
  | _, _ => s

/-- The phase servo of the domain in use (R345, R346). -/
def phaseGoal (u : Nat) (theta : Int) (s : State) : State :=
  let big := decide (s.pI 0xC002 ≤ theta.natAbs) || decide (s.time.epoch = 0)
  if big then
    timeStep ({ s with time := { s.time with slew := 0 } }.modDom u (fun t =>
      { t with ovr := satAdd 8 t.ovr 1, offs := (theta :: t.offs).take 8 }))
  else
    ({ s with time := { s.time with slew := if s.time.held.isSome then 0 else theta, held := none } }.modDom u (fun t =>
      { t with ovr := 0, offs := [] }))

/-- A Sync of domain `d` complete with its Follow_Up: `t1` with the correction, `t2g` its ingress in grid ns (R345). -/
def syncDone (d : Nat) (t1 t2g : Int) (s : State) : State :=
  match meanPd s (s.dom d).port with
  | none => s
  | some pd =>
    let theta := t1 + pd - (t2g + s.time.delta)
    let s1 := validity s (s.modDom d (fun t =>
      { t with theta := some theta, valid := true, syncs := ((t1, t2g.toNat) :: t.syncs).take 65 }))
    if s1.time.inUse = d then phaseGoal d theta (freqGoal d s1)
    else
      let big := decide (s1.pI 0xC002 ≤ theta.natAbs)
      s1.modDom d (fun t => { t with ovr := if big then satAdd 8 t.ovr 1 else 0, offs := [] })

/-- PTP_SYNC (R343, R345). -/
def ptpSync (m : SyncMsg) (s : State) : State :=
  if (s.port m.port).up = false ∨ m.logInt < -4 ∨ 0 < m.logInt then s
  else (domsOf s m.domain).foldl (fun a d =>
    let t := a.dom d
    if t.port ≠ m.port ∨ (t.master.getD m.port none).isNone = true then a
    else if m.twoStep then a.modDom d (fun x => { x with pend := x.pend.set m.port (some m) })
    else syncDone d (m.origin + m.corr) (ingress a m.port m.rawG16) a) s

/-- PTP_FOLLOW_UP (R345). -/
def ptpFollowUp (m : SyncMsg) (s : State) : State :=
  (domsOf s m.domain).foldl (fun a d =>
    match (a.dom d).pend.getD m.port none with
    | some y =>
      if y.seqId = m.seqId ∧ (a.dom d).port = m.port then
        syncDone d (m.origin + y.corr + m.corr) (ingress a m.port y.rawG16)
          (a.modDom d (fun x => { x with pend := x.pend.set m.port none }))
      else a
    | none => a) s

/-- PTP_PDELAY_REQ: the two-step answer (R343). -/
def ptpPdelayReq (port seqId raw16 : Nat) (s : State) : State :=
  if port < 2 ∧ (s.port port).up = true then
    s.emit (.ptp port 1 seqId (ptpT s.toDev (ingress s port raw16).toNat))
  else s

/-- PTP_PDELAY_RESP: a peer delay (R345). Its rounding is open (DESIGN CHOICE, log 3). -/
def ptpPdelayResp (m : PdelayMsg) (s : State) : State :=
  if m.port < 2 ∧ (s.port m.port).up = true then
    let d := openDiv 8 (ingress s m.port m.t4G16 - egress s m.port m.t1G16 - (m.t3 - m.t2)) 2
    if s.pI 0xC009 < d then
      let s1 := raise 0x0C m.port 5 0 s
      if (s.port m.port).pd = [] then
        validity s1 ([0, 1].foldl (fun a k => a.modDom k (fun t =>
          if t.port = m.port then { t with valid := false } else t)) s1)
      else s1
    else { s with time := { s.time with ports := modAt s.time.ports m.port (fun p => { p with pd := (d :: p.pd).take 8 }) } }
  else s

/-- PDELAY_REQ_TIMER (R343). -/
def pdelayReqTimer (s : State) : State :=
  let s1 := [0, 1].foldl (fun a p => if (a.port p).up then a.emit (.ptp p 0 s.time.pdSeq 0) else a) s
  { s1 with time := { s1.time with pdSeq := (s1.time.pdSeq + 1) % 2 ^ 16 } }

/-- ETH_LINK_CHANGE (R342). -/
def ethLinkChange (port : Nat) (up : Bool) (s : State) : State :=
  { s with time := { s.time with ports := modAt s.time.ports port (fun p =>
      { p with up := up, pd := if up then p.pd else [] }) } }

/-! ### Timed outputs (R350–R355) -/

/-- The pair sync output is in use (R355). -/
def pairOut (s : State) : Bool := decide (s.p 0xB000 = 1)

/-- The signed distance from a 32-bit scale time to a target (R351). -/
def dist32 (target t32 : Nat) : Int := sext 32 ((target + 2 ^ 32 - t32 % 2 ^ 32) % 2 ^ 32)

/-- The tick at which an output's target is reached, before the rules of R354. -/
def toutAt (s : State) (o : TOut) : Nat :=
  match o.due with
  | some g => g
  | none =>
    if o.ptp then max o.first ((s.frm.g : Int) + dist32 o.target (ptpPair s.toDev s.frm.g).1).toNat
    else max o.first o.target

/-- The tick of the rising edge, and whether R354 delays it. -/
def toutRise (s : State) (o : TOut) : Nat × Bool :=
  let g := toutAt s o
  let free := o.ends.getD o.idleAt
  if (o.ends.isSome || decide (o.idleAt ≠ 0)) && decide (g < free + 4) then (free + 4, true) else (g, false)

/-- The scale time of a tick. -/
def scaleTime (s : State) (ptp : Bool) (g : Nat) : Nat := if ptp then (ptpPair s.toDev g).1 else g

/-- The target after a pulse at tick `g` that a step had left on the elapsed time (R353). -/
def afterStep (s : State) (o : TOut) (g : Nat) : Nat :=
  let t := (ptpPair s.toDev (g + cdiv o.period 2)).1
  let d := dist32 o.target t
  let k : Int := if 0 ≤ d then -(d / o.period) else cdiv d.natAbs o.period
  toBits 32 (o.target + k * o.period)

/-- TOUT_FIRE (R351, R353, R354). -/
def toutFire (i : Nat) (s : State) : State :=
  let o := s.tout.getD i TOut.reset
  if i < 8 ∧ o.armed = true then
    let r := toutRise s o
    let late := r.2 || o.lateNext
    let per := decide (o.mode = 2)
    let target := if o.due.isSome then afterStep s o r.1
      else if o.ptp then (o.target + o.period) % 2 ^ 32 else o.target + o.period
    let o1 : TOut := { o with
      armed := per, mode := if per then 2 else 0, target := if per then target else o.target,
      fired := !per, late := late, pulses := satAdd 16 o.pulses 1, lates := satAdd 8 o.lates (b2n late),
      last := scaleTime s o.ptp r.1 % 2 ^ 32, ends := some (r.1 + o.width),
      idleAt := match o.ends with | some e => e | none => o.idleAt, due := none, lateNext := false, first := 0 }
    raiseIf late 0x0C i 7 0 { s with tout := s.tout.set i o1 }
  else s

/-- TOUT_PULSE_END (R351). -/
def toutPulseEnd (i : Nat) (s : State) : State :=
  { s with tout := modAt s.tout i (fun o => match o.ends with
    | some e => { o with ends := none, idleAt := e }
    | none => o) }

/-- The events of an output up to tick `g`, in order. -/
def toutRun : Nat → Nat → Nat → State → State
  | 0, _, _, s => s
  | n + 1, i, g, s =>
    let o := s.tout.getD i TOut.reset
    let end_ := match o.ends with | some e => decide (e ≤ g) | none => false
    if o.armed && decide ((toutRise s o).1 ≤ g) && !(end_ && decide (o.ends.getD 0 ≤ (toutRise s o).1)) then
      toutRun n i g (toutFire i s)
    else if end_ then toutRun n i g (toutPulseEnd i s) else s

/-- All outputs up to the rim at `g`; the shortest period gives at most two events in 8 ns. -/
def toutSweep (g : Nat) (s : State) : State :=
  (List.range 8).foldl (fun a i => if (a.tout.getD i TOut.reset).armed || (a.tout.getD i TOut.reset).ends.isSome then
    toutRun 2100 i g a else a) s

/-- The pair sync pulse at a rim (R355). -/
def pairPulse (count g : Nat) (s : State) : State :=
  if pairOut s && decide (count % 16 = 0) then
    { s with tout := modAt s.tout 7 (fun o =>
      { o with pulses := satAdd 16 o.pulses 1, last := g % 2 ^ 32, ends := some (g + 8), late := false }) }
  else s

/-- A step of Δ by `m` at the rim on the outputs of the PTP scale (R353). -/
def toutStep (m : Int) (g : Nat) (s : State) (o : TOut) : TOut :=
  if o.armed && o.ptp then
    let d := dist32 o.target (ptpPair s.toDev g).1
    if o.mode = 2 then { o with due := o.due.orElse (fun _ => some (toutAt s o)) }
    else if 0 ≤ d ∧ d < m then { o with lateNext := true, first := g + 1 }
    else { o with first := g + 1 }
  else o

/-- TOUT_ARM (R350, R352, R356). -/
def toutArm (c : Ctx) (a : ToutArgs) (s : State) : State :=
  let big : Nat := 2 ^ 31
  let ok := decide (a.output < 8) && (decide (a.mode = 1) || decide (a.mode = 2)) && decide (4 ≤ a.width) &&
    decide (a.width < big) &&
    (if a.mode = 2 then decide (8 ≤ a.period) && decide (a.period < big) && decide (a.width + 4 ≤ a.period)
     else decide (a.period = 0)) && (!a.ptp || decide (a.target < 2 ^ 32))
  if ok = false then refuse c 0x0203 s
  else if a.ptp = true ∧ (a.epoch ≠ s.time.epoch ∨ s.time.epoch = 0) then refuse c 0x0212 s
  else if pairOut s = true ∧ a.output = 7 then refuse c 0x0305 s
  else
    let tick := c.h.time + 1
    let behind : Int := if a.ptp then -(dist32 a.target (ptpPair s.toDev tick).1) else (tick : Int) - a.target
    let adv := decide (a.mode = 2) && decide (0 < behind)
    let t0 := a.target + (if adv then cdiv behind.toNat a.period * a.period else 0)
    let late := decide (a.mode = 1) && decide (0 < behind)
    let old := s.tout.getD a.output TOut.reset
    let o : TOut := { old with
      armed := true, mode := a.mode, ptp := a.ptp, target := if a.ptp then t0 % 2 ^ 32 else t0, width := a.width,
      period := a.period, fired := false, due := none, lateNext := late, first := tick }
    let s1 := { s with tout := s.tout.set a.output o }
    let r := toutRise s1 o
    done c ([BitVec.ofNat 8 a.output, BitVec.ofNat 8 (b2n (late || r.2) + 2 * b2n adv)] ++ List.replicate 6 0 ++
      leBytes 8 (scaleTime s1 a.ptp r.1)) s1

/-- An output disarmed (R354). -/
def TOut.stop (o : TOut) : TOut := { o with armed := false, mode := 0, due := none, lateNext := false }

/-- TOUT_STOP (R354–R356). -/
def toutStop (c : Ctx) (i : Nat) (s : State) : State :=
  if 8 ≤ i ∧ i ≠ 0xFF then refuse c 0x0203 s
  else if pairOut s = true ∧ i = 7 then refuse c 0x0305 s
  else done c [] { s with tout := s.tout.mapIdx (fun k o => if i = k ∨ i = 0xFF then o.stop else o) }

/-- TIME_SELECT (R356). -/
def timeSelect (c : Ctx) (d : Nat) (s : State) : State :=
  if 2 ≤ d then refuse c 0x0203 s
  else if (s.dom d).valid = false then refuse c 0x0117 s
  else if s.time.inUse = d then
    done c ([BitVec.ofNat 8 d, 0, 0, 0] ++ leBytes 4 s.frm.count) s
  else if s.time.selHdr.isSome then refuse c 0x0301 s
  else { s with time := { s.time with selDue := some d, selHdr := some c.h } }

/-- TIME_STEP_NOW (R346, R356). -/
def timeStepNow (c : Ctx) (s : State) : State :=
  match s.time.held with
  | none => refuse c 0x0116 s
  | some m =>
    if s.time.stepHdr.isSome then refuse c 0x0301 s
    else { s with time := { s.time with stepDue := some m, stepHdr := some c.h } }

/-! ### At the rim (R345–R349) -/

/-- A change of the domain in use at rim `n` (R347). -/
def timeSwitch (n : Nat) (s : State) : State :=
  match s.time.selDue with
  | none => s
  | some d =>
    let s1 := { s with time := { s.time with selDue := none, selHdr := none } }
    let s2 := if s.time.inUse = d then s1
      else raise 0x0C d 3 0 ({ s1 with time := { s1.time with
        inUse := d, switches := satAdd 16 s1.time.switches 1, slew := 0, held := none } }.modDom d (fun t =>
          { t with ovr := 0, offs := [] }))
    match s.time.selHdr with
    | some h => done { h := h, op := 0x0820 } ([BitVec.ofNat 8 s2.time.inUse, 0, 0, 0] ++ leBytes 4 n) s2
    | none => s2

/-- A step of PTP time at rim `n` at grid time `g` (R340, R346). -/
def timeStepRim (n g : Nat) (s : State) : State :=
  match s.time.stepDue with
  | none => s
  | some m =>
    let e := if s.time.epoch = 255 then 1 else s.time.epoch + 1
    let touts := s.tout.map (toutStep m g s)
    let s1 : State := { s with
      tout := touts,
      time := { s.time with
        stepDue := none, stepHdr := none, held := none, slew := 0, old := ptpPair s.toDev g, delta := s.time.delta + m,
        epoch := e, steps := satAdd 16 s.time.steps 1,
        doms := s.time.doms.map (fun t => { t with ovr := 0, offs := [], theta := t.theta.map (fun x => x - m) }) } }
    let s2 := raise 0x0C s.time.inUse 1 0 { s1 with time := { s1.time with new := ptpPair s1.toDev g } }
    match s.time.stepHdr with
    | some h => done { h := h, op := 0x0821 } ([BitVec.ofNat 8 e, 0, 0, 0] ++ leBytes 4 n ++ leBytes 8 (toBits 64 m)) s2
    | none => s2

/-- m of R349 for a frame period. -/
def slewSpacing (s : State) (P : Nat) : Nat := cdiv 1000000 (s.p 0xC005 * P)

/-- The 1 ns slew of Δ and the frequency word at a rim (R345, R359); `k` is the rim's count. -/
def servoRim (k : Nat) (s : State) : State :=
  let t := s.time
  let go := decide (t.slew ≠ 0) && decide (t.slewAt + t.m ≤ k)
  let d : Int := if go then (if 0 < t.slew then 1 else -1) else 0
  { s with time := { t with
    delta := t.delta + d, slew := t.slew - d, slewAt := if go then k else t.slewAt,
    y := clampI (-219902325) 219902325 (t.y + clampI (-1099512) 1099512 (t.yGoal - t.y)) } }

/-- Whether the device aligns its grid, to PTP time or to its partner (R349). -/
def aligns (s : State) : Bool :=
  if acts s then decide (s.p 0xC006 = 1) && decide (s.time.epoch ≠ 0)
  else decide (s.pair.role = .standby) || decide (s.pair.role = .joining)

/-- The step of the frame after the one that begins at this rim (R349): `k` is the rim's count, `g` its grid time, `P`
the nominal length. -/
def alignRim (k g P : Nat) (s : State) : State :=
  let t := s.time
  let eps : Int :=
    if acts s then ((ptpT s.toDev g + t.s1 - s.p 0xC007 + P / 2) % (P : Int)) - P / 2
    else rdiv s.pair.offset 16
  let m := slewSpacing s P
  let on := aligns s
  let st : Int := if on && decide (t.stepAt + m ≤ k + 1) then (if 0 < eps then -1 else if eps < 0 then 1 else 0) else 0
  { s with time := { t with
    eps := if on then satS 16 eps else 0, m := m, s0 := t.s1, s1 := st, stepAt := if st = 0 then t.stepAt else k + 1 } }

/-- What changed parameters of the time block do at their rim (R365): domains and ports restart, polarities. -/
def timeConfigure (old : State) (s : State) : State :=
  let s1 : State := [0, 1].foldl (fun (a : State) d => if old.pO (0xC000 + d) = a.pO (0xC000 + d) then a
    else validity a (a.modDom d (fun _ => TDom.reset))) s
  let s2 : State := { s1 with time := { s1.time with ports := s1.time.ports.mapIdx (fun p x =>
    if decide (s1.p (0xC010 + p) = 1) = x.sgmii then x
    else { x with sgmii := decide (s1.p (0xC010 + p) = 1), up := false, pd := [] }) } }
  { s2 with tout := s2.tout.mapIdx (fun i o => if o.ends.isSome then o else { o with pol := s2.p (0xC020 + i) }) }

/-! ### PLL (R358, R362) -/

/-- PLL_LOCK (R358). -/
def pllLock (band us : Nat) (s : State) : State :=
  if s.pll.lock = false ∧ tb s.pwr.on 10 = true then
    { s with pll := { s.pll with
      lock := true, band := band % 64, lockUs := min us 0xFFFF, locks := satAdd 16 s.pll.locks 1, outs := 0x1F } }
  else s

/-- SYNC_IN armed (R362). -/
def syncArm (s : State) : State :=
  fireP (fun i => decide (i = 0xD003)) { s with pll := { s.pll with armed := true } }

/-- SYNC_IN_TIMEOUT (R362). -/
def syncInTimeout (s : State) : State :=
  if s.pll.armed then raise 0x0D 0 1 0 { s with pll := { s.pll with armed := false, syncMiss := true } } else s

/-! ### Rows -/

/-- Row TOUT_ARM. -/
def hostToutArm (h : CmdHdr) (a : ToutArgs) : State → State :=
  let c : Ctx := { h := h, op := 0x0810 }
  hostCmd (.toutArm h a) c stUp (toutArm c a)

/-- Row TOUT_STOP. -/
def hostToutStop (h : CmdHdr) (i : Nat) : State → State :=
  let c : Ctx := { h := h, op := 0x0811 }
  hostCmd (.toutStop h i) c stUp (toutStop c i)

/-- Row TIME_SELECT. -/
def hostTimeSelect (h : CmdHdr) (d : Nat) : State → State :=
  let c : Ctx := { h := h, op := 0x0820 }
  hostCmd (.timeSelect h d) c stAny (timeSelect c d)

/-- Row TIME_STEP_NOW. -/
def hostTimeStepNow (h : CmdHdr) : State → State :=
  let c : Ctx := { h := h, op := 0x0821 }
  hostCmd (.timeStepNow h) c stAny (timeStepNow c)

end Sys2Proof.Machine
end

