-- ==== Sys2Proof/Machine/Trc.lean ====
section
/-! DEFINITION. The transient recorder (R426–R443). Words are stored at the rim that closes the window of their samples,
in the order of R428 (DEDUCED, log 30). -/

namespace Sys2Proof.Machine

open Sys2Proof

/-! ### Configuration (R426, R429, R430) -/

/-- The channel of a source code that names samples. -/
def srcCh (c : Nat) : Option Nat := if 0x100 ≤ c ∧ c < 0x1C0 then some (c - 0x100) else none

/-- The value that a per-frame source publishes (R426, R427). -/
def srcFrame (d : Dev) (c : Nat) : Nat :=
  let i := c % 0x100
  match c / 0x100 with
  | 2 => adcRodWord d i
  | 3 => toBits 32 (d.ref.sps.getD i 0)
  | 4 =>
    let n := d.ref.ncos.getD (i / 4) Nco.reset
    toBits 32 (match i % 4 with | 0 => n.cosA | 1 => n.sinA | 2 => n.cosB | _ => n.cosC)
  | 5 =>
    let x := d.ctl.slots.getD (i / 2) Slot.reset
    bfpWord (if i % 2 = 0 then x.out0 else x.out1)
  | 6 =>
    let x := d.obs.rods.getD (i % 16) ObsRod.reset
    if i < 16 then toBits 32 x.vsum else x.energy
  | _ =>
    let x := d.fir.rods.getD (i % 16) FirRod.reset
    if i < 16 then toBits 32 x.vref else toBits 32 (satS 32 (rdiv x.carry 16))

/-- The sources of the 16 slots, by slot. -/
def trcSrcs (p : Nat → Nat) : List Nat := (List.range 16).map (fun c => p (0xF000 + c))

/-- Slots with sample sources and their channels. -/
def sampleSlots (p : Nat → Nat) : List (Nat × Nat) :=
  (List.range 16).filterMap (fun c => (srcCh (p (0xF000 + c))).map (fun ch => (c, ch)))

/-- Slots with per-frame sources. -/
def frameSlots (p : Nat → Nat) : List Nat :=
  (List.range 16).filter (fun c => decide (p (0xF000 + c) ≠ 0) && (srcCh (p (0xF000 + c))).isNone)

/-- Words per second over 720720 · D · P, P in ns, as numerator (R430). -/
def rateNum (p : Nat → Nat) (d per : Nat) : Nat :=
  let smp := sumN ((sampleSlots p).map (fun x =>
    let k := x.2 / 16
    let n := max 1 (p (0x2000 + k))
    let hits := ((List.range n).filter (fun i => decide (p (0x2100 + 16 * k + i) = x.2 % 16))).length
    200000000 * hits * (720720 / n)))
  smp * per + (1 + (frameSlots p).length) * 1000000000 * 720720 * d

/-- The divisor of the word rate. -/
def rateDen (d per : Nat) : Nat := 720720 * d * per

/-- The smallest power of two from D on that keeps the rate (R430). -/
def decimFor (p : Nat → Nat) (per : Nat) : Nat → Nat → Nat
  | 0, d => d
  | n + 1, d => if rateNum p d per ≤ 400000000 * rateDen d per then d else decimFor p per n (2 * d)

/-- Base-two logarithm of a power of two up to 2^31. -/
def log2P (d : Nat) : Nat := ((List.range 32).find? (fun i => decide (d ≤ 2 ^ i))).getD 31

/-- Segments, and the ring words of a segment (R429). -/
def State.segs (s : State) : Nat := max 1 (s.p 0xF011)
def State.ringC (s : State) : Nat := 2097152 / s.segs - 16

/-- The BAR1 offset of the segment in use. -/
def State.segBase (s : State) : Nat := s.trc.seg * (16777216 / s.segs)

/-- Post-trigger words of a capture (R434). -/
def State.postN (s : State) : Nat := min (s.p 0xF014) (s.ringC - s.p 0xF013)

/-! ### The header (R440) -/

/-- The first 124 bytes of the header with the given STATE. -/
def trcHead (s : State) (st : Nat) : List Byte :=
  let t := s.trc
  let trig := t.trigWord.getD t.pos
  let on := decide (st = 2) || decide (st = 3)
  leBytes 2 1 ++ leBytes 1 t.seg ++ leBytes 1 st ++ leBytes 4 t.capture ++
  leBytes 4 (if on then (trig + s.ringC - s.p 0xF013) % s.ringC else 0) ++ leBytes 4 (if on then trig else 0) ++
  leBytes 4 (s.p 0xF013) ++ leBytes 4 (if on then t.post else 0) ++
  leBytes 1 t.topD ++ leBytes 1 (if on then t.src else 0) ++ leBytes 1 (if on then t.trigSlot else 0xFF) ++
  leBytes 1 t.flags ++
  leBytes 8 (if on then t.trigG else 0) ++ leBytes 4 (if on then t.trigT32 else 0) ++
  leBytes 1 (if on then t.trigE else 0) ++ leBytes 1 0 ++
  leBytes 2 (mapOf 16 (fun c => decide (s.p (0xF000 + c) ≠ 0))) ++ leBytes 4 (if on then t.trigFrame % 2 ^ 32 else 0) ++
  leBytes 4 t.missArm ++ leBytes 4 t.rateArm ++ leBytes 8 0 ++
  (trcSrcs s.p).flatMap (leBytes 2) ++ leBytes 28 0

/-- The header of the segment in use written with the given STATE. -/
def trcHeader (st : Nat) (s : State) : State :=
  let b := trcHead s st
  { s with trc := { s.trc with mem := Memory.writeBytes s.trc.mem s.segBase (b ++ leBytes 4 (crc32c b)) } }

/-! ### Triggers (R432, R433, R436) -/

/-- The 64 bits of the word at a ring index. -/
def ringWord (s : State) (i : Nat) : Nat := leNat (Memory.readBytes s.trc.mem (s.segBase + 128 + 8 * i) 8)

/-- The words already stored whose instants lie at or after an instant, searched backwards within the two latest spans:
the ring index of the first of them that is a data word, how many words lie from it on, and the opening of its span
(R434). -/
def trigBack (s : State) (t : Nat) : Nat → Nat → Nat → Option (Nat × Nat × Nat) → Option (Nat × Nat × Nat)
  | 0, _, _, best => best
  | n + 1, open_, k, best =>
    let i := (s.trc.pos + s.ringC - k) % s.ringC
    let w := ringWord s i
    if s.trc.written < k then best
    else if bits 23 22 w = 1 then
      if open_ = s.trc.opened.1 then trigBack s t n s.trc.opened.2 (k + 1) best else best
    else if open_ + w % 2 ^ 14 < t then best
    else trigBack s t n open_ (k + 1) (some (i, k, open_))

/-- The number of the frame whose span opened at a rim that is at most two rims old. -/
def spanFrame (s : State) (open_ : Nat) : Nat :=
  let back := if open_ = s.frm.g then 0 else if open_ = s.trc.opened.1 ∨ s.trc.opened.1 = s.frm.g then 1 else 2
  (s.frm.count + 2 ^ 48 - back) % 2 ^ 48

/-- A fire-line pulse where the unit drives the line (R439). -/
def fireOut (code : Nat) (s : State) : State :=
  if s.p 0xF050 ≠ 0 ∧ s.p 0xF053 = 1 ∧ code ≠ 2 then
    match s.pO 0xF052 with
    | some l => ({ s with trc := { s.trc with fires := satAdd 8 s.trc.fires 1 } }).emit (.trig l)
    | none => s
  else s

/-- A trigger of a source at an instant (R432, R433, R436). -/
def trcTrig (code slot t : Nat) (s : State) : State :=
  let x := s.trc
  if code < 4 ∧ tb (s.p 0xF015) code = false then s
  else if x.st = 2 then
    let e := ptpStamp s.toDev t
    let back := trigBack s t 20000 x.opened.1 1 none
    let s1 : State := { s with trc := { x with
      st := 3, src := code, trigSlot := if code < 2 then slot else 0xFF, trigG := t, trigT32 := e.1, trigE := e.2,
      trigWord := back.map Prod.fst, post := (back.map (fun b => b.2.1)).getD 0, up := false, dn := false,
      trigFrame := (back.map (fun b => spanFrame s b.2.2)).getD 0,
      mem := match back with
        | some (i, _, _) =>
          let a := s.segBase + 128 + 8 * i + 3
          Memory.write x.mem a (Memory.read x.mem a ||| 1)
        | none => x.mem } }
    fireOut code (trcHeader 2 s1)
  else if x.st = 1 ∨ x.st = 4 then
    { s with trc := { x with missed := satAdd 32 x.missed 1, missArm := satAdd 32 x.missArm 1 } }
  else if x.st = 3 ∧ x.trigG = t ∧ code < x.src ∧ x.trigWord = none then
    { s with trc := { x with src := code, trigSlot := if code < 2 then slot else 0xFF } }
  else s

/-! ### Completion (R434, R435) -/

/-- The segments still unused in the arm. -/
def segsLeft (s : State) : Bool := decide (s.trc.seg + 1 < s.segs)

/-- A capture completes (R435). -/
def trcComplete (flag : Nat) (s : State) : State :=
  let s1 : State := { s with trc := { s.trc with flags := bor s.trc.flags flag } }
  let s2 := trcHeader 3 s1
  let s3 := raise 0x0F 0 1 s.trc.seg { s2 with trc := { s2.trc with
    captures := satAdd 32 s2.trc.captures 1, doneMap := setB s2.trc.doneMap s2.trc.seg true, stopAt := none,
    st := if s.p 0xF012 = 1 ∧ segsLeft s = true then 4 else 5, missArm := 0 } }
  raiseIf (decide (s.p 0xF012 = 1) && !segsLeft s) 0x0F 0 3 s.trc.seg s3

/-- TRC_POST_COMPLETE: the post-trigger words of the capture are written. -/
def trcPostComplete (s : State) : State :=
  if s.trc.st = 3 ∧ s.trc.trigWord.isSome = true ∧ s.postN ≤ s.trc.post then trcComplete 0 s else s

/-- TRC_PRE_FULL: TRC_PRE words have been written since the arm (R433). -/
def trcPreFull (s : State) : State := if s.trc.st = 1 then { s with trc := { s.trc with st := 2 } } else s

/-! ### Mask test (R438) -/

/-- A word lies outside its slot's mask. -/
def maskOut (s : State) (slot : Nat) (v : Int) : Bool :=
  decide (s.p (0xF020 + slot) ≠ 0) && !(decide (s.pI (0xF030 + slot) ≤ v) && decide (v < s.pI (0xF040 + slot)))

/-- A violation of a slot at an instant. -/
def maskHit (slot t : Nat) (s : State) : State :=
  let first := !s.trc.violOnce
  let s1 := raiseIf first 0x0F 0 2 slot
    { s with trc := { s.trc with maskViol := satAdd 32 s.trc.maskViol 1, violOnce := true } }
  if s.p (0xF020 + slot) ≠ 2 then s1
  else if s1.trc.st = 3 then
    if s1.trc.src = 1 then s1 else { s1 with trc := { s1.trc with stopAt := some (t, slot) } }
  else trcTrig 1 slot t s1

/-- TRC_MASK_VIOLATION: a word of a slot, seen before the rim that stores it. -/
def trcMaskViolation (slot t : Nat) (v : Int) (s : State) : State :=
  if slot < 16 ∧ 1 ≤ s.trc.st ∧ s.trc.st ≤ 4 ∧ s.trc.masked.getD slot 0 < t ∧ maskOut s slot v = true then
    maskHit slot t { s with trc := { s.trc with masked := s.trc.masked.set slot t } }
  else s

/-! ### Writing (R428, R433, R434) -/

/-- A word of 64 bits put at the ring position. -/
def ringPut (w : Nat) (s : State) : State :=
  let a := s.segBase + 128 + 8 * s.trc.pos
  { s with trc := { s.trc with
      mem := Memory.writeBytes s.trc.mem a (leBytes 8 w), pos := (s.trc.pos + 1) % s.ringC,
      written := satAdd 32 s.trc.written 1, post := if s.trc.trigWord.isSome then s.trc.post + 1 else s.trc.post } }

/-- What follows a word that has been written: the pre-trigger part may be full, the capture complete. -/
def afterPut (s : State) : State :=
  let s1 := if s.trc.st = 1 ∧ s.p 0xF013 ≤ s.trc.written then trcPreFull s else s
  trcPostComplete s1

/-- The recorder writes. -/
def writes (s : State) : Bool := decide (1 ≤ s.trc.st) && decide (s.trc.st ≤ 3)

/-- A frame marker (R428): FN and length of the span that opens. -/
def putMarker (len : Nat) (s : State) : State :=
  if writes s then
    afterPut (ringPut (pack [(32, s.frm.count % 2 ^ 32), (22, 1), (18, s.trc.log2d), (0, len % 2 ^ 14)]) s)
  else s

/-- A data word at an instant, in the span that opened at `open_` (R428, R434, R438): the mask test, the trigger word,
the word, and the end of a capture by a mask stop. -/
def putWord (open_ slot t v flags : Nat) (s : State) : State :=
  if writes s = false then s
  else
    let test := decide (s.trc.masked.getD slot 0 < t) && !tb flags 0 && maskOut s slot (sext 32 v)
    let s1 := if test then maskHit slot t s else s
    let trig := decide (s1.trc.st = 3) && s1.trc.trigWord.isNone && decide (s1.trc.trigG ≤ t)
    let s2 : State := if trig then { s1 with trc := { s1.trc with
      trigWord := some s1.trc.pos, trigFrame := spanFrame s1 open_ } } else s1
    let s3 := ringPut (pack [(32, v % 2 ^ 32), (28, slot), (25, flags % 8), (24, b2n trig), (0, (t - open_) % 2 ^ 14)]) s2
    if trig ∧ s2.postN = 0 then trcComplete 0 s2
    else if s3.trc.st = 3 ∧ s3.trc.stopAt = some (t, slot) then trcComplete 4 s3 else afterPut s3

/-! ### Samples (R427, R437) -/

/-- A sample as the recorder takes it: slot, instant, value in LSB, flags CAL, SAT, CLIP from bit 0 on. -/
structure TSample where
  slot  : Nat
  t     : Nat
  v     : Int
  flags : Nat
deriving DecidableEq, Repr

/-- A sample was taken during a calibration (R50). -/
def inCal (s : State) (ch t : Nat) : Bool :=
  (match s.adc.cal with | some (_, _, t0, m) => tb m (ch / 16) && decide (t0 ≤ t) | none => false) ||
  (match s.adc.calSpan with
    | some (t0, t1, m) => tb m (ch / 16) && decide (t0 ≤ t) && decide (t < t1)
    | none => false)

/-- The samples of a window for the slots, in the order of their instants and then of their slots. -/
def trcSamples (s : State) (inp : RimIn) : List TSample :=
  let feed := feedOf s inp
  let l := (sampleSlots s.p).flatMap (fun x => (feed.filter (fun f => f.1 == x.2)).map (fun f =>
    ({ slot := x.1, t := f.2.1, v := f.2.2.1,
       flags := 4 * b2n f.2.2.2.1 + 2 * b2n f.2.2.2.2 + b2n (inCal s x.2 f.2.1) } : TSample)))
  sortBy (fun a b => decide (a.t < b.t) || (decide (a.t = b.t) && decide (a.slot < b.slot))) l

/-- One value of the trigger slot through the edge test (R437): whether it fires. -/
def edgeTest (v : Int) (s : State) : State × Bool :=
  let L := s.pI 0xF018
  let H := s.pI 0xF019
  let m := s.p 0xF017
  let up := s.trc.up || decide (v ≤ L - H)
  let dn := s.trc.dn || decide (L + H ≤ v)
  let fire := (decide (m ≠ 1) && up && decide (L ≤ v)) || (decide (m ≠ 0) && dn && decide (v ≤ L))
  ({ s with trc := { s.trc with up := up && !fire, dn := dn && !fire } }, fire)

/-- A value of a slot at an instant, tested where the slot is the trigger slot. -/
def edgeValue (slot t : Nat) (v : Int) (s : State) : State :=
  if slot = s.p 0xF016 ∧ s.trc.tested < t ∧ 1 ≤ s.trc.st ∧ s.trc.st ≤ 4 then
    let r := edgeTest v s
    if r.2 then trcTrig 0 slot t r.1 else r.1
  else s

/-- TRC_EDGE_TRIGGER: the crossing, seen before the rim that stores its window. -/
def trcEdgeTrigger (t : Nat) (v : Int) (s : State) : State :=
  let x := s.trc
  let L := s.pI 0xF018
  let m := s.p 0xF017
  if 1 ≤ x.st ∧ x.st ≤ 4 ∧ x.tested < t ∧ ((m ≠ 1 ∧ L ≤ v) ∨ (m ≠ 0 ∧ v ≤ L)) then
    trcTrig 0 (s.p 0xF016) t { s with trc := { x with tested := t, up := false, dn := false } }
  else s

/-- A sample into its slot's block, and the word once the block is full (R427, R428). -/
def blockTake (open_ : Nat) (x : TSample) (s : State) : State :=
  let b := s.trc.blocks.getD x.slot TBlk.reset
  let n := b.n + 1
  let sum := b.sum + x.v
  let fl := bor b.flags x.flags
  let d := 2 ^ s.trc.log2d
  if n < d then { s with trc := { s.trc with blocks := s.trc.blocks.set x.slot { n := n, sum := sum, flags := fl } } }
  else putWord open_ x.slot x.t (toBits 32 (rdiv (16 * sum) d)) fl
    { s with trc := { s.trc with blocks := s.trc.blocks.set x.slot TBlk.reset } }

/-- The samples of one instant: first the edge tests, then the words. -/
def trcInstant (open_ : Nat) (l : List TSample) (s : State) : State :=
  let s1 := l.foldl (fun a x => if tb x.flags 0 then a else edgeValue x.slot x.t (16 * x.v) a) s
  l.foldl (fun a x => if writes a then blockTake open_ x a else a) s1

/-- Samples in groups of one instant. -/
def groupT : List TSample → List (List TSample)
  | [] => []
  | x :: l =>
    match groupT l with
    | (y :: g) :: r => if x.t = y.t then (x :: y :: g) :: r else [x] :: (y :: g) :: r
    | r => [x] :: r

/-! ### Arm (R430–R432, R439) -/

/-- Blocks restart. -/
def freshBlocks : List TBlk := List.replicate 16 TBlk.reset

/-- What an arm does at its instant: the parameters fire, captures go, D is computed; it takes effect at the next rim
(R430, R432). -/
def trcArm (s : State) : State :=
  let s1 := fireP (fun i => decide (0xF000 ≤ i) && decide (i ≤ 0xF054)) s
  let per := periodNs s1.toDev
  let d := decimFor s1.p per 8 (s1.p 0xF010)
  let heads := (List.range s.segs).foldl (fun m i => Memory.zero m (i * (16777216 / s.segs)) 128) s1.trc.mem
  let heads := (List.range s1.segs).foldl (fun m i => Memory.zero m (i * (16777216 / s1.segs)) 128) heads
  let post := decide (s1.ringC - s1.p 0xF013 < s1.p 0xF014)
  { s1 with trc := { s1.trc with
      armDue := true, seg := 0, doneMap := 0, log2d := log2P d, topD := log2P d, mem := heads,
      rate := (openDiv 10 (rateNum s1.p d per) (16 * rateDen d per)).toNat,
      rateArm := (openDiv 9 (rateNum s1.p d per) (rateDen d per)).toNat,
      flags := pack [(0, b2n post), (5, b2n (decide (s1.p 0xF010 < d)))] } }

/-- Filling starts in the segment in use (R432, R435). -/
def trcFill (s : State) : State :=
  let x := s.trc
  let s1 : State := { s with trc := { x with
    st := if s.p 0xF013 = 0 then 2 else 1, armDue := false, pos := 0, post := 0, written := 0, trigWord := none,
    capture := (x.capture + 1) % 2 ^ 32, up := false, dn := false, violOnce := false, stopAt := none,
    blocks := freshBlocks, flags := pack [(0, b2n (tb x.flags 0)), (5, b2n (decide (s.p 0xF010 < 2 ^ x.log2d)))],
    topD := x.log2d } }
  trcHeader 1 s1

/-- The arm line pulled low by a master (R439). -/
def armPulse (s : State) : State :=
  if s.p 0xF050 = 1 then match s.pO 0xF051 with | some l => s.emit (.trig l) | none => s else s

/-- Filling begins at a rim: after an arm in segment 0, or in the next segment after a capture. -/
def trcStart (s : State) : State :=
  if s.trc.armDue then armPulse (trcFill { s with trc := { s.trc with missArm := 0 } })
  else if s.trc.st = 4 then trcFill { s with trc := { s.trc with seg := s.trc.seg + 1 } }
  else s

/-! ### At the rim -/

/-- A domain of a sample source is off (R427). -/
def srcLost (s : State) : Bool := (sampleSlots s.p).any (fun x => !tb s.pwr.on (adcDom (x.2 / 16)))

/-- Changed sequence lists or a changed period (R431): `old` is the state before this rim's changes. -/
def trcRecalc (old : State) (s : State) : State :=
  let key := fun (x : State) => (periodNs x.toDev, (List.range 12).map (fun k => x.p (0x2000 + k)),
    (List.range 192).map (fun k => x.p (0x2100 + k)))
  if 1 ≤ s.trc.st ∧ s.trc.st ≤ 4 ∧ key old ≠ key s then
    let d := max (2 ^ s.trc.log2d) (decimFor s.p (periodNs s.toDev) 8 (2 ^ s.trc.log2d))
    { s with trc := { s.trc with
        log2d := log2P d, topD := max s.trc.topD (log2P d), blocks := freshBlocks, flags := setB s.trc.flags 1 true } }
  else s

/-- The samples of the window that a rim closes, in `s`, the state before the rim's changes; the span opened `len` before
the rim. (DEDUCED, log 30.) -/
def trcWindow (inp : RimIn) (len : Nat) (s : State) : State :=
  let open_ := s.frm.g - len
  let s0 : State := { s with trc := { s.trc with
    level := inp.lines % 16,
    flags := if writes s && srcLost s then setB s.trc.flags 4 true else s.trc.flags } }
  if s.frm.rims ≤ 1 then s0 else (groupT (trcSamples s0 inp)).foldl (fun a g => trcInstant open_ g a) s0

/-- What a rim opens: filling where it is due, the marker of the span of the frame in progress, and the per-frame words
with the values just published (R427, R428). (DEDUCED, log 30.) -/
def trcRim (s : State) : State :=
  let g := s.frm.g
  let s1 := trcStart { s with trc := { s.trc with opened := (g, s.trc.opened.1) } }
  let s2 := (frameSlots s1.p).foldl (fun a c => edgeValue c g (sext 32 (srcFrame a.pub (a.p (0xF000 + c)))) a) s1
  let s3 := putMarker s2.frm.len s2
  (frameSlots s3.p).foldl (fun a c => putWord g c g (srcFrame a.pub (a.p (0xF000 + c))) 0 a) s3

/-! ### Lines and the trip path (R436, R439) -/

/-- TRIG_LINE_FIRE. -/
def trigLineFire (t : Nat) (s : State) : State :=
  if s.p 0xF050 ≠ 0 ∧ (s.pO 0xF052).isSome = true then trcTrig 2 0xFF (t - s.p 0xF054) (s.at t) else s

/-- The recorder can be armed: whether a slot has a source with the parameters as stored, and MEM is on (R432). -/
def trcNoSrc (s : State) : Bool := (List.range 16).all (fun c => decide (pvStored s.toDev (0xF000 + c) = 0))

/-- TRIG_LINE_ARM: a follower listens from the parameters as stored, so that it can be armed a first time by its line
(R439, R442). -/
def trigLineArm (s : State) : State :=
  if pvStored s.toDev 0xF050 ≠ 2 ∨ s.pO 0xF051 = none then s
  else if (s.trc.st = 0 ∨ s.trc.st = 5) ∧ s.trc.armDue = false then
    if trcNoSrc s = true ∨ tb s.pwr.on 4 = false then s else trcArm s
  else { s with trc := { s.trc with armIgn := satAdd 16 s.trc.armIgn 1 } }

/-- A pass of a trip input that set its latch, as a trigger (R436). (DEDUCED, log 46.) -/
def trcTrip (i t : Nat) (before after : State) : State :=
  if tb before.trp.latch i = false ∧ tb after.trp.latch i = true ∧ tb (after.p 0xF01A) i = true then
    trcTrig 3 0xFF t after
  else after

/-! ### Commands (R408, R432, R435) -/

/-- TRC_ARM. -/
def trcArmCmd (c : Ctx) (s : State) : State :=
  if ¬ (s.trc.st = 0 ∨ s.trc.st = 5) ∨ s.trc.armDue = true then refuse c 0x0301 s
  else if trcNoSrc s then refuse c 0x0203 s
  else if tb s.pwr.on 4 = false then refuse c 0x0302 s
  else done c [] (trcArm s)

/-- What TRC_DISARM does in each state (R435). (DEDUCED, log 46.) -/
def trcDisarm (s : State) : State :=
  if s.trc.st = 1 ∨ s.trc.st = 2 then
    let s1 := trcHeader 4 s
    { s1 with trc := { s1.trc with st := 0 } }
  else if s.trc.st = 3 then
    let s1 := trcComplete 8 s
    { s1 with trc := { s1.trc with st := 5 } }
  else s

/-- TRC_TRIGGER: IGNORED where it is not accepted (R408). (DEDUCED, log 46.) -/
def trcTrigger (c : Ctx) (s : State) : State :=
  done c [BitVec.ofNat 8 (b2n (decide (s.trc.st ≠ 2)))] (trcTrig 4 0xFF c.h.time s)

/-- Row TRC_ARM. -/
def hostTrcArm (h : CmdHdr) : State → State :=
  let c : Ctx := { h := h, op := 0x0600 }
  hostCmd (.trcArm h) c stUp (trcArmCmd c)

/-- Row TRC_DISARM. -/
def hostTrcDisarm (h : CmdHdr) : State → State :=
  let c : Ctx := { h := h, op := 0x0601 }
  hostCmd (.trcDisarm h) c stUp (fun s => done c [] (trcDisarm s))

/-- Row TRC_TRIGGER. -/
def hostTrcTrigger (h : CmdHdr) : State → State :=
  let c : Ctx := { h := h, op := 0x0602 }
  hostCmd (.trcTrigger h) c stUp (trcTrigger c)

/-- Row FCS-1 CAPTURE_ARM. -/
def hostFcs1CaptureArm (h : CmdHdr) : State → State :=
  let c : Ctx := { h := h, op := 0x10060 }
  hostCmd (.fcs1CaptureArm h) c stUp (trcArmCmd c)

/-- Row FCS-1 CAPTURE_FORCE. -/
def hostFcs1CaptureForce (h : CmdHdr) : State → State :=
  let c : Ctx := { h := h, op := 0x10061 }
  hostCmd (.fcs1CaptureForce h) c stUp (trcTrigger c)

end Sys2Proof.Machine
end

