-- ==== Sys2Proof/Machine/Flt.lean ====
section
/-! DEFINITION. The fault collector (R412–R425): clears, the drain, the fatal lines, memory errors. -/

namespace Sys2Proof.Machine

open Sys2Proof

/-! ### Clearing (R421, R423) -/

/-- The condition of a kind of class C is absent (R421). -/
def condGone (s : State) (a : Active) : Bool :=
  match a.blk, a.kind with
  | 0x02, 2 => (s.adc.rods.getD a.inst RodI.reset).valid
  | 0x02, 5 => (s.adc.tris.getD a.inst Tri.reset).inside
  | 0x04, 1 => !(s.ctl.slots.getD a.inst Slot.reset).ovf
  | 0x06, 4 => !(s.rnk.spare.getD a.inst Spare.reset).exh
  | 0x06, 5 => !(s.rnk.spare.getD a.inst Spare.reset).short
  | 0x08, 2 => decide ((s.ln a.inst).st ≠ 8)
  | 0x0A, 1 => !tb s.trp.latch a.inst
  | 0x0A, 0x15 => s.sbk.silent.all (fun b => !b)
  | 0x0A, 0x16 => s.sbk.silent.all (fun b => !b)
  | 0x0B, 3 => partnerSynced s
  | 0x0B, 4 => !s.pair.sameSys
  | 0x0B, 9 => s.pair.links.any id
  | 0x11, 1 => if a.inst = 0 then s.jnl.f0 else s.jnl.f1
  | 0x11, 2 => !s.jnl.full
  | 0x11, 5 => s.jnl.f0 || s.jnl.f1
  | 0x12, 4 => s.sch.lvls.all (fun l => l.spill.isEmpty)
  | 0x14, 1 => decide (s.p 0x0500 = s.pwr.compat)
  | _, _ => true

/-- The line of a fatal kind (R422). -/
def lineOf (blk kind : Nat) : Option Nat :=
  match blk, kind with
  | 0x0D, 2 => some 0
  | 0x0E, 3 => some 1
  | 0x0E, 2 => some 2
  | 0x12, 1 => some 3
  | 0x13, 1 => some 4
  | 0x13, 2 => some 5
  | _, _ => none

/-- The block and kind of a line (R422). -/
def lineKind (l : Nat) : Nat × Nat :=
  match l with | 0 => (0x0D, 2) | 1 => (0x0E, 3) | 2 => (0x0E, 2) | 3 => (0x12, 1) | 4 => (0x13, 1) | _ => (0x13, 2)

/-- A line may be cleared: it no longer asserts, and the restart after it has come (R423). -/
def lineFree (s : State) (l : Nat) : Bool := !tb s.flt.asserted l && !s.pwr.dark && !s.pwr.darkNext

/-- Whether an active bit clears (R421, R423). -/
def clears (s : State) (a : Active) : Bool :=
  if a.sev = 3 then
    match lineOf a.blk a.kind with | some l => lineFree s l | none => true
  else match kindInfo a.blk a.kind with
    | some (_, .c) => condGone s a
    | _ => true

/-- SOURCE and KIND of a clear match (R421). -/
def clrMatch (source kind src k : Nat) : Bool :=
  (decide (source = 0x3FF) || decide (source = src)) && (decide (kind = 0xFF) || decide (kind = k))

/-- What a kind's own rule ends with the clear (R34, R62, R108). -/
def clearRule (a : Active) (s : State) : State :=
  match a.blk, a.kind with
  | 0x01, 2 => { s with frm := { s.frm with ovrFault := false } }
  | 0x02, 5 => { s with adc := { s.adc with tris := modAt s.adc.tris a.inst (fun t => { t with fault := false }) } }
  | 0x04, 3 => feClear a.inst s
  | _, _ => s

/-- Slots whose reaction stands without an active bit, under a clear that names them (R108). -/
def feWarned (s : State) (source kind : Nat) : List Nat :=
  (List.range 32).filter (fun k => (s.ctl.slots.getD k Slot.reset).raised && clrMatch source kind (0x04 * 32 + k) 3)

/-- Lines that a clear takes back without an active bit of their kind, after the restart (R423). (DEDUCED, log 33.) -/
def linesClr (s : State) (source kind : Nat) : List Nat :=
  (bitsOf 6 s.flt.lines).filter (fun l =>
    (decide (source = 0x3FF) || decide (source / 32 = (lineKind l).1)) &&
      (decide (kind = 0xFF) || decide (kind = (lineKind l).2)))

/-- One clear at its rim (R421), and its reply. (DEDUCED, log 33.) -/
def fltClearOne (x : CmdHdr × Nat × Nat) (op : Nat) (s : State) : State :=
  let hit := s.flt.active.filter (fun a => clrMatch x.2.1 x.2.2 (a.blk * 32 + a.inst) a.kind)
  let go := hit.filter (clears s)
  let lines := linesClr s x.2.1 x.2.2
  let free := lines.filter (lineFree s)
  let alone := fun l => !(hit.any (fun a => decide (lineOf a.blk a.kind = some l) && decide (a.sev = 3)))
  let nClr := go.length + (free.filter alone).length
  let nNot := hit.length - go.length + (lines.filter (fun l => alone l && !lineFree s l)).length
  let warned := feWarned s x.2.1 x.2.2
  let s1 := go.foldl (fun a y => clearRule y a) s
  let s2 := warned.foldl (fun a k => feClear k a) s1
  let left := bdiff s.flt.lines (maskOf free)
  let s3 := { s2 with flt := { s2.flt with
    active := s.flt.active.filter (fun a => !go.contains a), cleared := satAdd 32 s.flt.cleared go.length, lines := left,
    fatalSrc := if left = 0 then 0 else s.flt.fatalSrc, fatalKind := if left = 0 then 0 else s.flt.fatalKind } }
  done { h := x.1, op := op } (leBytes 2 nClr ++ leBytes 2 nNot) s3

/-- The clears of a rim, in order. -/
def fltClearRim (s : State) : State :=
  s.flt.clears.foldl (fun a x => fltClearOne (x.1, x.2.2) x.2.1 a) { s with flt := { s.flt with clears := [] } }

/-- FLT_CLEAR: it waits for its rim. -/
def fltClear (c : Ctx) (source kind : Nat) (s : State) : State :=
  { s with flt := { s.flt with clears := s.flt.clears ++ [(c.h, c.op, source, kind)] } }

/-- Row FLT_CLEAR. -/
def hostFltClear (h : CmdHdr) (source kind : Nat) : State → State :=
  let c : Ctx := { h := h, op := 0x0A00 }
  hostCmd (.fltClear h source kind) c stAny (fltClear c source kind)

/-- Row FCS-1 CLEAR_FAULTS. -/
def hostFcs1ClearFaults (h : CmdHdr) : State → State :=
  let c : Ctx := { h := h, op := 0x10090 }
  hostCmd (.fcs1ClearFaults h) c stAny (fltClear c 0x3FF 0xFF)

/-! ### Output buffers (R391) and the drain (R420) -/

/-- A result written to the command's output buffer (R391), and the reply with `data`; `eff` is the command's other
effect. (DESIGN CHOICE, log 50.) -/
def toBuffer (c : Ctx) (b : OutBuf) (bytes data : List Byte) (eff : State → State) (s : State) : State :=
  if b.addr % 8 ≠ 0 then refuse c 0x0203 s
  else if b.len < bytes.length then finish c 0x0207 (leBytes 4 bytes.length) s
  else if b.ok then done c data ((eff s).emit (.host b.addr bytes))
  else finish c 0x0306 [] (eff s)

/-- A queue record (R420). -/
def queueBytes (x : FMsg × Nat) : List Byte := leBytes 8 x.1.word ++ leBytes 6 x.2 ++ leBytes 2 0

/-- A record of the coalescing table (R420). -/
def coalBytes (c : Coal) : List Byte :=
  leBytes 8 c.first.word ++ leBytes 4 c.count ++ leBytes 6 c.firstFrame ++ leBytes 6 c.lastFrame ++
  leBytes 4 c.lastDetail ++ leBytes 4 0

/-- FLT_DRAIN (R408, R420). -/
def fltDrain (c : Ctx) (clr : Bool) (b : OutBuf) (s : State) : State :=
  let bytes := s.flt.queue.flatMap queueBytes ++ s.flt.table.flatMap coalBytes
  let data := leBytes 2 s.flt.queue.length ++ leBytes 2 s.flt.table.length ++ leBytes 4 s.flt.lost
  toBuffer c b bytes data (fun x => { x with flt := { x.flt with
    queue := [], table := [], lost := if clr then 0 else x.flt.lost } }) s

/-- Row FLT_DRAIN. -/
def hostFltDrain (h : CmdHdr) (clr : Bool) (b : OutBuf) : State → State :=
  let c : Ctx := { h := h, op := 0x0A01 }
  hostCmd (.fltDrain h clr b) c stAny (fltDrain c clr b)

/-! ### Fatal lines (R422, R423) -/

/-- The device goes dark (R422). -/
def goDark (s : State) : State := { s with pwr := { s.pwr with dark := true, darkNext := false } }

/-- A fatal line asserts (R422, R423): its bit, the source and kind of the first line, the message, and the reaction of
the table. In a device that is off or held in reset no circuit detects anything. (DEDUCED, log 32.) -/
def fatalLine (l inst detail : Nat) (s : State) : State :=
  if s.pwr.inReset then s
  else
    let k := lineKind l
    let s1 := { s with flt := { s.flt with
      lines := setB s.flt.lines l true, asserted := setB s.flt.asserted l true, lastKind := k.2,
      fatalSrc := if s.flt.lines = 0 then k.1 * 32 + inst else s.flt.fatalSrc,
      fatalKind := if s.flt.lines = 0 then k.2 else s.flt.fatalKind } }
    let s2 := raiseSev k.1 inst k.2 3 detail s1
    if l = 0 ∨ (l ≠ 1 ∧ partnerSynced s = true) then goDark s2
    else
      let s3 := injectSafeBlock 0x0B 0 s2.now s2
      { s3 with pwr := { s3.pwr with darkNext := true } }

/-- PLL_UNLOCK (R363): the frame engine stops with the clock. -/
def pllUnlock (s : State) : State :=
  if s.pll.lock then
    fatalLine 0 0 0 { s with
      pll := { s.pll with lock := false, outs := 0, unlocks := satAdd 16 s.pll.unlocks 1 },
      frm := { s.frm with run := false, armed := false } }
  else s

/-- ECC_ERROR (R415, R422). -/
def eccError (region addr : Nat) (corrected : Bool) (s : State) : State :=
  if 6 ≤ region ∨ s.pwr.inReset = true then s
  else if corrected then raise 0x0E region 1 addr s
  else match region with
    | 0 => fatalLine 2 0 addr s
    | 1 => fatalLine 2 1 addr s
    | 5 => fatalLine 1 5 addr s
    | r => raiseSev 0x0E r 2 2 addr s

/-- FLT_SELF. (DEDUCED, log 32.) -/
def fltSelf (s : State) : State := fatalLine 1 5 0 s

/-- SUPPLY_FAIL: a rail of a powered domain other than AON. -/
def supplyFail (d : Nat) (s : State) : State :=
  if d ≠ 0 ∧ tb s.pwr.on d = true then fatalLine 4 d 0 s else s

/-- TEMP_CRIT. -/
def tempCrit (s : State) : State := fatalLine 5 0 0 s

/-- FATAL_DARK: 100 ns after the rim from which a blocking fatal line has the device in SAFE_BLOCKED. -/
def fatalDark (s : State) : State := if s.pwr.darkNext then goDark s else s

/-- FAULT_MESSAGE (R412, R413): the full frame number is the latest whose low bits the message carries. -/
def faultMessage (w : BitVec 64) (s : State) : State :=
  if s.pwr.inReset then s
  else
    let m := FMsg.ofWord w.toNat
    fltTake m ((s.frm.count + 2 ^ 48 - (s.frm.count + 4096 - m.frame) % 4096) % 2 ^ 48) s

end Sys2Proof.Machine
end

