-- ==== Sys2Proof/Machine/Sch.lean ====
section
/-! DEFINITION. The supervisor cores and their scheduler (R463–R474). -/

namespace Sys2Proof.Machine

open Sys2Proof

/-- Level `l`, and a core. -/
def State.lvl (s : State) (l : Nat) : Lvl := s.sch.lvls.getD l Lvl.reset
def State.core (s : State) (c : Nat) : Core := s.sch.cores.getD c Core.reset

/-- A level changed, and a core. -/
def State.modLvl (l : Nat) (f : Lvl → Lvl) (s : State) : State :=
  { s with sch := { s.sch with lvls := modAt s.sch.lvls l f } }
def State.modCore (c : Nat) (f : Core → Core) (s : State) : State :=
  { s with sch := { s.sch with cores := modAt s.sch.cores c f } }

/-- Shared slots in use (R464). -/
def sharedUsed (s : State) : Nat :=
  sumN ((List.range 8).map (fun l => if 5 ≤ l then (s.lvl l).ready.length - 16 else (s.lvl l).ready.length))

/-- A level has a slot for one more descriptor (R464). -/
def slotFree (s : State) (l : Nat) : Bool :=
  (decide (5 ≤ l) && decide ((s.lvl l).ready.length < 16)) || decide (sharedUsed s < 464)

/-- Descriptors spilled in all levels. -/
def spilled (s : State) : Nat := sumN (s.sch.lvls.map (fun l => l.spill.length))

/-- The highest depth of a level kept (R472). -/
def depthMark (l : Nat) (s : State) : State :=
  s.modLvl l (fun x => { x with depthMax := max x.depthMax (x.ready.length + x.spill.length) })

/-- A duration in ns in 1/16 µs, saturating; its rounding is open (DESIGN CHOICE, log 3). -/
def sixteenths (ns : Nat) : Nat := min 0xFFFF (openDiv 12 (ns * 16) 1000).toNat

/-- A task leaves its core at `t`: its running time so far, and the longest one seen (R468). -/
def leaveCore (c t : Nat) (s : State) : State × Option Task :=
  match (s.core c).task with
  | none => (s, none)
  | some k =>
    let used := k.used + (t - (s.core c).since)
    let us := min 0xFFFF (openDiv 13 used 1000).toNat
    let s1 := s.modCore c (fun x => { x with task := none })
    (if s.sch.wdogTime < us then { s1 with sch := { s1.sch with wdogCore := c, wdogTime := us } } else s1,
     some { k with used := used })

/-- A descriptor taken from position `i` of a level's list to a core (R465). -/
def dispatch (c l i t : Nat) (s : State) : State :=
  match (s.lvl l).ready[i]? with
  | none => s
  | some k =>
    let w := sixteenths (t - k.enq)
    (s.modLvl l (fun x => { x with
      ready := x.ready.eraseIdx i, wait := if k.seen then x.wait else w,
      waitMax := if k.seen then x.waitMax else max x.waitMax w })).modCore c (fun x =>
        { x with task := some { k with seen := true }, since := t })

/-- The first descriptor that a core may run, of the highest level that has one: level and position (R465). -/
def pickFor (s : State) (c : Nat) : Option (Nat × Nat) :=
  [7, 6, 5, 4, 3, 2, 1, 0].findSome? (fun l =>
    ((s.lvl l).ready.findIdx? (fun k => (classCores k.cls).contains c)).map (fun i => (l, i)))

/-- The oldest spilled descriptor of the highest level that can take a slot moves into its list (R469). -/
def unspill (s : State) : State :=
  match [7, 6, 5, 4, 3, 2, 1, 0].find? (fun l => !(s.lvl l).spill.isEmpty && slotFree s l) with
  | none => s
  | some l => s.modLvl l (fun x => { x with ready := x.ready ++ x.spill.take 1, spill := x.spill.drop 1 })

/-- Every free core, in ascending order, takes a descriptor; the slot that each frees takes a spilled one (R465,
R469). -/
def serveCores (t : Nat) (s : State) : State :=
  [0, 1, 2, 3].foldl (fun a c =>
    if (a.core c).task.isSome then a
    else match pickFor a c with
      | some (l, i) => unspill (dispatch c l i t a)
      | none => a) s

/-- The core that a descriptor of level `l` preempts (R466): of the eligible ones that run a lower level, the lowest
level, then the latest dispatch, then the higher number. -/
def victim (s : State) (cls l : Nat) : Option Nat :=
  let cs := (classCores cls).filter (fun c => match (s.core c).task with
    | some k => decide (classLevel k.cls < l)
    | none => false)
  let lev := fun c => ((s.core c).task.map (fun k => classLevel k.cls)).getD 0
  let better := fun a b => decide (lev a < lev b) || (decide (lev a = lev b) &&
    (decide ((s.core b).since < (s.core a).since) || (decide ((s.core b).since = (s.core a).since) && decide (b < a))))
  cs.foldl (fun best c => match best with | none => some c | some b => if better c b then some c else some b) none

/-- The last descriptor of a level's list preempts where it may (R466). -/
def preempt (cls l t : Nat) (s : State) : State :=
  match victim s cls l with
  | none => s
  | some c =>
    let n := (s.lvl l).ready.length - 1
    let r := leaveCore c t s
    let s1 := dispatch c l n t (r.1.modCore c (fun x => { x with preempts := satAdd 16 x.preempts 1 }))
    match r.2 with
    | some k => unspill (depthMark (classLevel k.cls) (s1.modLvl (classLevel k.cls) (fun x =>
        { x with ready := k :: x.ready })))
    | none => unspill s1

/-- A descriptor cannot be enqueued (R469). -/
def stall (l : Nat) (s : State) : State :=
  let first := decide ((s.lvl l).stalls = 0) && !(s.lvl l).bp
  raiseIf first 0x12 l 2 0
    ({ s with sch := { s.sch with stalls := satAdd 32 s.sch.stalls 1 } }.modLvl l (fun x =>
      { x with stalls := x.stalls + 1 }))

/-- SCH_OVERFLOW of a level; the default until the journal is restored (R471, R473). -/
def spillMode (s : State) (l : Nat) : Bool :=
  if s.jnl.restored then decide (s.p (0x0300 + l) = 1) else decide (pdflt (0x0300 + l) = 1)

/-- TASK_ENQUEUE (R464–R469). -/
def taskEnqueue (cls src t : Nat) (s0 : State) : State :=
  if 9 ≤ cls ∨ tb s0.pwr.on 3 = false then s0
  else
    let s := s0.at t
    let l := classLevel cls
    let k : Task := { cls := cls, src := src, enq := t, seen := false, used := 0 }
    let full := decide (8192 ≤ spilled s)
    if (s.lvl l).spill.isEmpty && slotFree s l then
      let s1 := depthMark l (s.modLvl l (fun x => { x with ready := x.ready ++ [k] }))
      let s2 := serveCores t s1
      if (s2.lvl l).ready.getLast? = some k then preempt cls l t s2 else s2
    else if (!(s.lvl l).spill.isEmpty || spillMode s l) && !full then
      let s1 := raiseIf (s.lvl l).spill.isEmpty 0x12 l 3 0 (s.modLvl l (fun x => { x with spill := x.spill ++ [k] }))
      depthMark l { s1 with sch := { s1.sch with spillMax := max s1.sch.spillMax (spilled s1) } }
    else stall l (raiseIf (spillMode s l && full) 0x12 l 4 0 s)

/-- CORE_FREE: the core's task has completed or waits (R465, R468). -/
def coreFree (c t : Nat) (s : State) : State :=
  if c < 4 then serveCores t (leaveCore c t (s.at t)).1 else s

/-- SUP_WDOG (R468): line FL3 with the core in the instance. -/
def supWdog (c : Nat) (s : State) : State :=
  if (s.core c).task.isSome then fatalLine 3 c 0 s else s

/-- A core's load in per mille over a window of `ms` ms; its rounding is open (DESIGN CHOICE, log 3). -/
def loadOf (busy ms : Nat) : Nat := min 1000 (openDiv 14 (busy * 1000) (ms * 1000000)).toNat

/-- SCH_LOAD_WINDOW_END: the busy times of the cores over the window, in ns (R472, R474). -/
def schLoadWindowEnd (busy : List Nat) (s : State) : State :=
  let cores := s.sch.cores.mapIdx (fun c x =>
    let v := loadOf (busy.getD c 0) s.sch.loadWin
    { x with load := v, loadMax := max x.loadMax v })
  let s1 : State := { s with sch := { s.sch with cores := cores, loadWin := s.p 0x0309, loadWarn := s.p 0x030A } }
  [0, 1, 2, 3].foldl (fun a c => raiseIf (decide (s.sch.loadWarn < (a.core c).load)) 0x12 c 5 0 a) s1

/-- The levels at a rim: back-pressure as SCH_STATE shows it (R472). -/
def schRim (s : State) : State :=
  { s with sch := { s.sch with lvls := s.sch.lvls.map (fun x => { x with bp := decide (0 < x.stalls), stalls := 0 }) } }

end Sys2Proof.Machine
end

