-- ==== Sys2Proof/Machine/Evr.lean ====
section
/-! DEFINITION. The event recorder (R444–R450): triggers, records, the first and the last area of BAR2. -/

namespace Sys2Proof.Machine

open Sys2Proof

/-- The number `k` records after `num`: numbers run from 1 and wrap to 1 after 0xFFFF_FFFF (R447). -/
def numAfter (num k : Nat) : Nat := (num + k + (2 ^ 32 - 1) - 1) % (2 ^ 32 - 1) + 1

/-- The 256 bytes of a record (R448). -/
def evrBytes (tr : Trig) (num boot flags : Nat) : List Byte :=
  leBytes 4 num ++ leBytes 1 tr.typ ++ leBytes 1 flags ++ leBytes 1 tr.list ++ leBytes 1 (min tr.data.length 48) ++
  leBytes 8 tr.g ++ leBytes 4 tr.t32 ++ leBytes 1 tr.epoch ++ leBytes 1 tr.dev ++ leBytes 2 boot ++
  leBytes 6 tr.frame ++ leBytes 2 0 ++ padTo 8 (tr.cause.flatMap (leBytes 4)) ++ leBytes 8 0 ++
  padTo 192 ((tr.data.take 48).flatMap (leBytes 4)) ++ leBytes 12 0 ++ leBytes 4 num

/-- The BAR2 address of a record in the last area (R447). -/
def lastSlot (num : Nat) : Nat := 0x40000 + 256 * ((num - 1) % 8192)

/-- Triggers that their sources hold move into the queue as it gets room (R446). -/
def evrUnhold (e : Evr) : Evr :=
  let n := 64 - e.queue.length
  { e with queue := e.queue ++ e.held.take n, held := e.held.drop n }

/-- The copy of a record that goes to the first area, while that has room (R447, R450): it is journalled, and the
record that fills the area is reported. -/
def evrFirst (tr : Trig) (num : Nat) (s : State) : State :=
  if s.evr.first < 1024 then
    let b := evrBytes tr num s.jnl.boot 1
    let full := decide (s.evr.first + 1 = 1024)
    raiseIf full 0x10 0 2 0 (jnlAdd (.event b) { s with evr := { s.evr with
      mem := s.evr.mem.writeBytes (256 * s.evr.first) b, first := s.evr.first + 1,
      firstFull := s.evr.firstFull || full } })
  else s

/-- EVR_RECORD_WRITE: the oldest queued trigger becomes a record (R446, R447, R449). -/
def evrRecordWrite (s : State) : State :=
  match s.evr.queue with
  | [] => s
  | tr :: rest =>
    let num := numAfter s.evr.num 1
    let s1 := evrFirst tr num { s with evr := evrUnhold { s.evr with queue := rest, num := num } }
    { s1 with evr := { s1.evr with mem := s1.evr.mem.writeBytes (lastSlot num) (evrBytes tr num s1.jnl.boot 0) } }

/-- The words of CAUSE. -/
def causeWords (cause : Nat) : List Nat := [cause % 2 ^ 32, cause / 2 ^ 32 % 2 ^ 32]

/-- EVR_TRIGGER: a cause of a record comes up (R444, R446). -/
def evrTrigger (typ cause t : Nat) (s0 : State) : State :=
  let s := s0.at t
  match typ with
  | 0 =>
    let l := s.p (0x01C0 + bits 63 59 cause)
    evrPush (mkTrig s 0 l (causeWords cause) (snapWords s l) t) s
  | 1 =>
    let l := s.p 0x01E0
    evrPush (mkTrig s 1 l (causeWords (cause % 2 ^ 16)) (snapWords s l) t) s
  | 2 =>
    let e := s.ent (cause % 2 ^ 16)
    let data := if bits 16 16 cause = 1 then nvWords e ++ trendWords e.trend else nvWords e
    evrPush (mkTrig s 2 0xFF (causeWords (cause % 2 ^ 17)) data t) s
  | 3 => evrPush (mkTrig s 3 0xFF (causeWords (cause % 2 ^ 32)) [] t) s
  | _ => s

/-- EVR_RECORD (R408, R444): the record number is that of the record which the trigger will become; 0 for a trigger
that the full queue drops. -/
def evrRecord (c : Ctx) (cause : Nat) (s : State) : State :=
  let num := if s.evr.queue.length < 64 then numAfter s.evr.num (s.evr.queue.length + 1) else 0
  done c (leBytes 4 num) (evrTrigger 1 cause c.h.time s)

/-- Row EVR_RECORD. -/
def hostEvrRecord (h : CmdHdr) (cause : Nat) : State → State :=
  let c : Ctx := { h := h, op := 0x0610 }
  hostCmd (.evrRecord h cause) c stUp (evrRecord c cause)

/-- The first area cleared (R450). -/
def evrZeroFirst (s : State) : State :=
  { s with evr := { s.evr with mem := s.evr.mem.zero 0 0x40000, first := 0, firstFull := false } }

/-- EVR_CLEAR_FIRST (R408, R450): it replies when the EVR_CLEAR record commits, or that it cannot reach both flashes
(R456). -/
def evrClearFirst (c : Ctx) (s : State) : State :=
  let q := jnlNext s
  let s1 := jnlAdd .evrClear (evrZeroFirst s)
  if jnlBoth s then { s1 with jnl := { s1.jnl with evrClears := s1.jnl.evrClears ++ [(c.h, q)] } }
  else refuse c 0x0405 s1

/-- Row EVR_CLEAR_FIRST. -/
def hostEvrClearFirst (h : CmdHdr) : State → State :=
  let c : Ctx := { h := h, op := 0x0611 }
  hostCmd (.evrClearFirst h) c stStill (evrClearFirst c)

end Sys2Proof.Machine
end

