-- ==== Sys2Proof/Machine/Intake.lean ====
section
/-! DEFINITION. Acceptance of commands (R379–R383): the bases in their order, the form of a packet as R388 judges it
first, and the opening of ring pairs (R370–R372). -/

namespace Sys2Proof.Machine

open Sys2Proof

/-! ### Records of intake -/

/-- A ring pair changed. -/
def State.modPair (k : Nat) (f : RPair → RPair) (s : State) : State :=
  { s with hif := { s.hif with pairs := modAt s.hif.pairs k f } }

/-- A record of intake changed. -/
def State.modFly (pair seq : Nat) (f : Fly → Fly) (s : State) : State :=
  { s with hif := { s.hif with fly := s.hif.fly.map (fun x => if x.pair = pair ∧ x.seq = seq then f x else x) } }

/-- The command of a record of intake. -/
def Fly.ctx (f : Fly) : Ctx :=
  { h := { pair := f.pair, seq := f.seq, tag := f.tag, force := false, rsvd := false, time := 0 },
    op := if f.gen = 1 then 0x10000 + f.opcode else f.opcode }

/-- The ACCEPTED reply (R381, R383). -/
def acceptedReply (c : Ctx) (basis : Nat) (dup : Bool) : Reply :=
  { mkReply c 1 [] with basis := basis, dup := dup, final := false }

/-- SEQ lies in the window of 4,096 numbers below NEXT (R380). -/
def inWindow (next seq : Nat) : Bool := decide ((next + 2 ^ 32 - seq % 2 ^ 32 - 1) % 2 ^ 32 < 4096)

/-- The window with an entry for a new SEQ, and without those that leave it (R383). -/
def RPair.take (seq crc basis : Nat) (p : RPair) : RPair :=
  let next := (seq + 1) % 2 ^ 32
  { p with
    next := next
    window := p.window.filter (fun w => w.seq != seq && inWindow next w.seq) ++
      [{ seq := seq, crc := crc, basis := basis, reply := none }] }

/-! ### The form of a packet (R388, orders 1 and 2; R389) -/

/-- The parameter length that an FCS-2 opcode states, from its parameter bytes; none for an opcode not defined. -/
def fcs2Len (op : Nat) (b : List Byte) : Option Nat :=
  match op with
  | 0x0000 => some 0 | 0x0001 => some 8
  | 0x0100 => some 8 | 0x0101 => some 16 | 0x0102 => some (8 + 16 * fld b 0 2) | 0x0103 => some 16
  | 0x0200 => some 0 | 0x0201 => some 0 | 0x0202 => some 0 | 0x0203 => some 0 | 0x0204 => some 0
  | 0x0205 => some 0 | 0x0206 => some 0 | 0x0207 => some 0 | 0x0208 => some 0 | 0x0209 => some 0
  | 0x0230 => some 8 | 0x0231 => some 8
  | 0x0300 => some 48 | 0x0301 => some 48 | 0x0302 => some 8 | 0x0303 => some 16
  | 0x0400 => some 16 | 0x0401 => some 8 | 0x0402 => some 8 | 0x0403 => some 8 | 0x0404 => some 8
  | 0x0405 => some 8 | 0x0406 => some 8 | 0x0407 => some (8 + 32 * fld b 2 2) | 0x0408 => some 8
  | 0x0502 => some 8
  | 0x0600 => some 0 | 0x0601 => some 0 | 0x0602 => some 0 | 0x0610 => some 8 | 0x0611 => some 0
  | 0x0700 => some 0 | 0x0701 => some 0 | 0x0702 => some 24
  | 0x0810 => some 20 | 0x0811 => some 1 | 0x0820 => some 1 | 0x0821 => some 0
  | 0x0901 => some 0 | 0x0902 => some 0 | 0x0903 => some 0 | 0x0904 => some 0
  | 0x0A00 => some 8 | 0x0A01 => some 24
  | 0x0B00 => some 8 | 0x0B01 => some 0
  | 0x0C00 => some 0
  | 0x0F00 => some 0 | 0x0F20 => some 16 | 0x0F21 => some 2
  | _ => none

/-- The parameter length that an FCS-1 opcode states (R409). -/
def fcs1Len (op : Nat) (b : List Byte) : Option Nat :=
  match op with
  | 0x0001 => some 0 | 0x0002 => some 8
  | 0x0010 => some 8 | 0x0011 => some 8 | 0x0012 => some (8 + 8 * fld b 0 2)
  | 0x0020 => some 0 | 0x0021 => some 0 | 0x0022 => some 0 | 0x0023 => some 0 | 0x0024 => some 0
  | 0x0025 => some 0 | 0x0026 => some 0 | 0x0027 => some 0 | 0x0028 => some 8
  | 0x0030 => some 24 | 0x0031 => some 8
  | 0x0040 => some 16 | 0x0041 => some 8 | 0x0042 => some 8 | 0x0043 => some 8 | 0x0044 => some 8
  | 0x0045 => some 8
  | 0x0050 => some 8 | 0x0060 => some 0 | 0x0061 => some 0 | 0x0070 => some 0 | 0x0080 => some 0
  | 0x0090 => some 0 | 0x00F0 => some 0
  | _ => none

/-- The status of the first check of R388 that a packet's form fails: opcode, then parameter length. (DEDUCED, log 26.) -/
def formStatus (gen op : Nat) (packet : List Byte) : Option Nat :=
  let b := packet.drop (if gen = 1 then 16 else 32)
  match (if gen = 1 then fcs1Len op b else fcs2Len op b) with
  | none => some 0x0205
  | some n => if b.length = 8 * cdiv n 8 then none else some 0x0206

/-- An accepted command whose form fails completes at once with the status of its check. (DEDUCED, log 26.) -/
def judgeForm (f : Fly) (s : State) : State :=
  match formStatus f.gen f.opcode f.packet with
  | some st => refuse f.ctx st (markExec f.ctx s)
  | none => s

/-! ### The bases (R381) -/

/-- A new command is accepted on a basis: the ACCEPTED reply is due, and the count advances. -/
def accept (basis : Nat) (f : Fly) (s : State) : State :=
  let s1 := (s.modFly f.pair f.seq (fun x => { x with basis := basis, mirror := false })).modPair f.pair (fun p =>
    { p with
      acc := satAdd 32 p.acc 1
      window := p.window.map (fun w => if w.seq = f.seq then { w with basis := basis } else w) })
  judgeForm f (pushReply (acceptedReply f.ctx basis false) s1)

/-- VOLATILE, or NO_DURABLE. -/
def offerVolatile (f : Fly) (s : State) : State :=
  if s.p 0x0000 = 1 then accept 3 f s
  else refuse f.ctx 0x0404 (s.modPair f.pair (fun p => { p with refs := satAdd 24 p.refs 1 }))

/-- JOURNALLED: the command record starts, and acceptance waits for its commit. -/
def offerJournal (f : Fly) (s : State) : State :=
  if jnlHealthy s.toDev then
    let q := jnlNext s
    (jnlAdd (.command f.pair f.gen f.seq f.packet) s).modFly f.pair f.seq (fun x => { x with mirror := false, jseq := q })
  else offerVolatile f (s.modFly f.pair f.seq (fun x => { x with mirror := false }))

/-- A new command is offered to the bases in their order (R329, R381). While the partner joins, the command reaches it as
a mirrored command and is accepted under the solo rule (R332). (DEDUCED, log 40.) -/
def offer (f : Fly) (s : State) : State :=
  let tell := fun (x : State) => x.tell (.mirror f.pair f.gen f.seq f.packet)
  if partnerSynced s then tell (s.modFly f.pair f.seq (fun x => { x with mirror := true }))
  else if s.pair.role = .active ∧ s.pair.ptnrRole = 2 then offerJournal f (tell s)
  else offerJournal f s

/-- MIRROR_TIMEOUT: PAIR_MIRROR_TO passes without a MIR_ACK (R329, R381). -/
def mirrorTimeoutCmd (pair seq : Nat) (s : State) : State :=
  match s.hif.fly.find? (fun f => f.pair == pair && f.seq == seq && f.mirror && f.basis == 0) with
  | some f => offerJournal f s
  | none => s

/-! ### Opening and closing (R370–R373) -/

/-- A pair closed: replies owed to its ring remain in the window only (R371, R373). -/
def closePair (k : Nat) (s : State) : State := s.modPair k (fun p => { p with open_ := false, replies := [] })

/-- A pair opens: the indices at 0, and a fresh start with its NEXT and an empty window (R372). -/
def openPair (o : OpenReq) (s : State) : State :=
  { s with hif := { s.hif with
      openReq := none
      pairs := modAt s.hif.pairs o.pair (fun p => { p with
        open_ := true, gen := o.gen, vector := o.vector, openErr := 0, next := o.fresh.getD p.next,
        window := if o.fresh.isSome then [] else p.window, cmdBase := o.cmdBase, rplBase := o.rplBase,
        cmdUnits := o.cmdUnits, rplEnts := o.rplEnts, cmdProd := 0, cmdCons := 0, rplProd := 0, rplCons := 0,
        replies := [] }) } }

/-- A fresh start is journalled before the pair opens; where no record can commit, the pair opens without (R372). (DEDUCED, log 29.) -/
def openJournal (o : OpenReq) (s : State) : State :=
  if jnlHealthy s.toDev then
    let q := jnlNext s
    let s1 := jnlAdd (.session o.pair o.gen (o.fresh.getD 0)) s
    { s1 with hif := { s1.hif with openReq := some { o with jseq := q } } }
  else openPair o s

/-- A checked descriptor: a resume opens at once, a fresh start is first mirrored to a synchronised standby, or
journalled (R372). -/
def openStart (o : OpenReq) (s : State) : State :=
  match o.fresh with
  | none => openPair o s
  | some q =>
    if partnerSynced s then
      ({ s with hif := { s.hif with openReq := some o } }).tell (.mirror o.pair o.gen q [])
    else openJournal o s

/-- MIRROR_TIMEOUT of a fresh start. -/
def mirrorTimeoutOpen (pair seq : Nat) (s : State) : State :=
  match s.hif.openReq with
  | some o => if o.pair = pair ∧ o.fresh = some seq ∧ o.jseq = 0 then openJournal o s else s
  | none => s

/-- Row MIRROR_TIMEOUT. -/
def mirrorTimeout (pair seq : Nat) (s : State) : State := mirrorTimeoutOpen pair seq (mirrorTimeoutCmd pair seq s)

end Sys2Proof.Machine
end

