-- ==== Sys2Proof/Machine/Jnl.lean ====
section
/-! DEFINITION. The flash journal (R451–R461): commits and what waits for them, failures of a flash, compaction, the
power-fail sequence, the restore. -/

namespace Sys2Proof.Machine

open Sys2Proof

/-! ### Records that the device starts on its own -/

/-- The entry of a batch for a cell (R454). -/
def batchEnt (s : State) (k : Nat) : BatchEnt :=
  let e := s.ent k
  { entry := k, cEst := e.cEst, tally := slice e.nvHead 0x14 8, trend := e.trend }

/-- A list cut into parts of `n`, by fuel. -/
def parts {α : Type} (n : Nat) : Nat → List α → List (List α)
  | 0, _ => []
  | _ + 1, [] => []
  | fuel + 1, l => l.take n :: parts n fuel (l.drop n)

/-- A batch over entries, in parts of up to 256, the last with END (R131, R454). -/
def jnlBatch (ckpt : Bool) (ks : List Nat) (s : State) : State :=
  let ps := parts 256 24 (ks.map (batchEnt s))
  let num := (s.jnl.batchNum + 1) % 2 ^ 32
  if ps = [] then s
  else
    let j := (List.range ps.length).foldl (fun a i =>
      let p := ps.getD i []
      let first := match p with | e :: _ => e.entry | [] => 0
      jnlStart (.batch num first p) (decide (i + 1 = ps.length)) ckpt a) s.jnl
    jnlFullCheck { s with jnl := { j with batchNum := num }, rnk := { s.rnk with dirty := [] } }

/-- TALLY_BATCH: the entries whose tally or C_EST changed since the last batch (R131). -/
def tallyBatch (s : State) : State := if jnlTakes s then jnlBatch false s.rnk.dirty s else s

/-- A record can reach both flashes in time: a flash that the running checkpoint brings back counts (R456, R459). -/
def jnlReach (s : State) : Bool :=
  (s.jnl.f0 || s.jnl.behind0) && (s.jnl.f1 || s.jnl.behind1) && s.jnl.restored && decide (s.jnl.pwrFail ≠ 1)

/-- Flash 0 and flash 1 are written with a record (R456, R459). -/
def writes0 (j : Jnl) (r : JRec) : Bool := j.f0 || (j.behind0 && j.compact && decide (j.ckBegin ≤ r.jseq))
def writes1 (j : Jnl) (r : JRec) : Bool := j.f1 || (j.behind1 && j.compact && decide (j.ckBegin ≤ r.jseq))

/-- A record that is neither committed nor void. -/
def JRec.open_ (r : JRec) : Bool := !r.c0 && !r.c1 && !r.void

/-! ### Compaction (R457) -/

/-- The identities of all parameters, every one of which is journalled. -/
def allParams : List Nat := (List.range 0x10000).filter (fun i => (pspec i).isSome)

/-- The checkpoint records that come before the full batch: every parameter, every bound entry (R457). -/
def ckptFirst (s : State) : List JPayload :=
  (parts 512 128 allParams).map (fun l => JPayload.param (l.map (fun i => (i, pvStored s.toDev i)))) ++
  s.boundL.map (fun e => JPayload.cellNv e.1 e.2.nvBytes)

/-- The checkpoint records that come after the full batch (R457). -/
def ckptRest (s : State) : List JPayload :=
  let pairs := (List.range 4).map (fun k => (k, s.hif.pairs.getD k RPair.reset))
  [JPayload.adcFact ((List.range 192).map (fun ch => factWord (factOf s.adc ch)))] ++
  (List.range s.evr.first).map (fun i => JPayload.event (s.evr.mem.readBytes (256 * i) 256)) ++
  pairs.flatMap (fun x => x.2.window.filterMap (fun w => w.reply.map (fun r =>
    JPayload.completion x.1 w.basis w.seq w.crc r []))) ++
  (s.hif.fly.filter (fun f => f.basis == 2)).map (fun f => JPayload.command f.pair f.gen f.seq f.packet) ++
  pairs.map (fun x => JPayload.session x.1 x.2.gen x.2.next)

/-- Checkpoint records started in order. -/
def ckptAdd (l : List JPayload) (s : State) : State :=
  { s with jnl := l.foldl (fun a p => jnlStart p false true a) s.jnl }

/-- A compaction starts: the checkpoint from CKPT_BEGIN to CKPT_END, and the command that waits for its end. -/
def compactStart (h : Option CmdHdr) (s : State) : State :=
  let q := s.jnl.next
  let s1 := ckptAdd (ckptFirst s) (ckptAdd [.ckptBegin] s)
  let s2 := ckptAdd (ckptRest s) (jnlBatch true (s1.boundL.map Prod.fst) s1)
  let s3 := ckptAdd [.ckptEnd q] s2
  jnlFullCheck { s3 with jnl := { s3.jnl with compact := true, ckBegin := q, ckEnd := s2.jnl.next, compHdr := h } }

/-- The blocks in use have reached JNL_COMPACT_AT (R457). -/
def compactDue (s : State) : Bool := decide (s.p 0x0200 * 2048 ≤ 100 * s.jnl.blocks.length)

/-- JNL_COMPACTION_START. -/
def jnlCompactionStart (s : State) : State :=
  if jnlTakes s && !s.jnl.compact && compactDue s then compactStart none s else s

/-- JNL_COMPACT (R408, R457). -/
def jnlCompact (c : Ctx) (s : State) : State :=
  if s.jnl.compact then refuse c 0x0301 s
  else if jnlReach s then compactStart (some c.h) s
  else refuse c 0x0405 (if jnlTakes s then compactStart none s else s)

/-- Row JNL_COMPACT. -/
def hostJnlCompact (h : CmdHdr) : State → State :=
  let c : Ctx := { h := h, op := 0x0701 }
  hostCmd (.jnlCompact h) c stUp (jnlCompact c)

/-- The checkpoint's CKPT_END commits (R457, R459): the blocks before it are freed, a flash that was behind is in
service, and the command that waits has its reply. -/
def ckptDone (s : State) : State :=
  let j := s.jnl
  let gone := j.blocks.filter (fun b => decide (b.last < j.ckBegin))
  let ids := gone.map JBlk.id
  let s1 := { s with jnl := { j with
    compact := false, ckpt := j.ckBegin, compHdr := none, dirty := j.dirty + gone.length,
    blocks := j.blocks.filter (fun b => !ids.contains b.id), recs := j.recs.filter (fun r => !ids.contains r.blk),
    f0 := j.f0 || j.behind0, f1 := j.f1 || j.behind1, behind0 := false, behind1 := false } }
  let s2 := jnlFullCheck s1
  match j.compHdr with
  | some h => done { h := h, op := 0x0701 } [] s2
  | none => s2

/-- BLOCK_ERASE_DONE: a freed block is erased (R457). -/
def blockEraseDone (s : State) : State :=
  if s.jnl.dirty = 0 then s else jnlFullCheck { s with jnl := { s.jnl with dirty := s.jnl.dirty - 1 } }

/-! ### What waits for a commit -/

/-- Acceptances, opens and replies that wait for a record to commit in both flashes proceed (R134, R372, R381, R404,
R450, R455). -/
def commitWaiters (q : Nat) (s : State) : State :=
  let s1 := match s.hif.fly.find? (fun f => f.basis == 0 && !f.mirror && f.jseq == q) with
    | some f => accept 2 f s
    | none => s
  let s2 := match s1.hif.openReq with
    | some o => if o.jseq = q then openPair o s1 else s1
    | none => s1
  let due := s2.hif.due.filter (fun d => d.jseq == q)
  let s3 := due.foldl (fun a d =>
      let c : Ctx := { h := d.hdr, op := d.opcode }
      let r := mkReply c 0 d.data
      deliver c.op r (complete r a))
    { s2 with hif := { s2.hif with due := s2.hif.due.filter (fun d => d.jseq != q) } }
  let clr := s3.jnl.evrClears.filter (fun x => x.2 == q)
  let s4 := clr.foldl (fun a x => done { h := x.1, op := 0x0611 } [] a)
    { s3 with jnl := { s3.jnl with evrClears := s3.jnl.evrClears.filter (fun x => x.2 != q) } }
  let left := s4.jnl.syncs.map (fun x => (x.1, x.2.1, x.2.2.filter (fun i => i != q)))
  let ready := left.filter (fun x => x.2.2 == [])
  ready.foldl (fun a x => done { h := x.1, op := x.2.1 } [] a)
    { s4 with jnl := { s4.jnl with syncs := left.filter (fun x => x.2.2 != []) } }

/-- JNL_RECORD_COMMIT: COMMIT of a record is programmed in every flash that is written (R453). -/
def jnlRecordCommit (q : Nat) (s : State) : State :=
  match s.jnl.recs.find? (fun r => r.jseq == q && r.open_) with
  | none => s
  | some r =>
    let c0 := writes0 s.jnl r
    let c1 := writes1 s.jnl r
    if c0 || c1 then
      let s1 := { s with jnl := { s.jnl with
        recs := s.jnl.recs.map (fun x => if x.jseq = q then { x with c0 := c0, c1 := c1 } else x),
        committed := max s.jnl.committed q } }
      let s2 := match r.pl with
        | .batch _ _ _ => if r.last then { s1 with rnk := { s1.rnk with batchFrame := s1.frm.count % 2 ^ 32 } } else s1
        | .ckptEnd b => if s1.jnl.compact && decide (b = s1.jnl.ckBegin) then ckptDone s1 else s1
        | _ => s1
      if c0 && c1 then commitWaiters q s2 else s2
    else s

/-! ### JNL_SYNC and JNL_EXPORT (R408) -/

/-- The records pending at an instant. -/
def pendingSeqs (s : State) : List Nat := (s.jnl.recs.filter JRec.open_).map JRec.jseq

/-- JNL_SYNC (R408). -/
def jnlSync (c : Ctx) (s : State) : State :=
  if jnlHealthy s.toDev then
    match pendingSeqs s with
    | [] => done c [] s
    | l => { s with jnl := { s.jnl with syncs := s.jnl.syncs ++ [(c.h, c.op, l)] } }
  else refuse c 0x0405 s

/-- Row JNL_SYNC. -/
def hostJnlSync (h : CmdHdr) : State → State :=
  let c : Ctx := { h := h, op := 0x0700 }
  hostCmd (.jnlSync h) c stAny (jnlSync c)

/-- Row FCS-1 SAVE. -/
def hostFcs1Save (h : CmdHdr) : State → State :=
  let c : Ctx := { h := h, op := 0x10070 }
  hostCmd (.fcs1Save h) c stAny (jnlSync c)

/-- JNL_EXPORT: the layout of the log over the flash is not in the manual, so its bytes are open (DESIGN CHOICE, log 5). -/
def jnlExport (c : Ctx) (flash off len : Nat) (b : OutBuf) (s : State) : State :=
  if 1 < flash ∨ len < 8 ∨ 1048576 < len ∨ len % 8 ≠ 0 ∨ 2 ^ 27 < off + len then refuse c 0x0203 s
  else
    let bytes := (List.range len).map (fun i => Config.flashByte s.free (flash * 2 ^ 27 + off + i))
    toBuffer c b bytes [] State.draw s

/-- Row JNL_EXPORT. -/
def hostJnlExport (h : CmdHdr) (flash off len : Nat) (b : OutBuf) : State → State :=
  let c : Ctx := { h := h, op := 0x0702 }
  hostCmd (.jnlExport h flash off len b) c stAny (jnlExport c flash off len b)

/-! ### Failures (R456) and power failure (R458) -/

/-- What waits for records that will not commit in both flashes: a command goes on to the next basis, a pair opens,
a reply carries JNL_FAULT and its change stays (R381, R456). -/
def waitersFail (lost : Nat → Bool) (s : State) : State :=
  let s1 := (s.hif.fly.filter (fun f => f.basis == 0 && !f.mirror && lost f.jseq)).foldl
    (fun (a : State) f => offerVolatile f a) s
  let s2 := match s1.hif.openReq with
    | some o => if o.jseq ≠ 0 ∧ lost o.jseq = true then openPair o s1 else s1
    | none => s1
  let s3 := (s2.hif.due.filter (fun d => lost d.jseq)).foldl (fun (a : State) d =>
      let c : Ctx := { h := d.hdr, op := d.opcode }
      let r := mkReply c 0x0405 []
      deliver c.op r (complete r a))
    { s2 with hif := { s2.hif with due := s2.hif.due.filter (fun d => !lost d.jseq) } }
  let s4 := (s3.jnl.evrClears.filter (fun x => lost x.2)).foldl (fun (a : State) x => refuse { h := x.1, op := 0x0611 } 0x0405 a)
    { s3 with jnl := { s3.jnl with evrClears := s3.jnl.evrClears.filter (fun x => !lost x.2) } }
  (s4.jnl.syncs.filter (fun x => x.2.2.any lost)).foldl (fun (a : State) x => refuse { h := x.1, op := x.2.1 } 0x0405 a)
    { s4 with jnl := { s4.jnl with syncs := s4.jnl.syncs.filter (fun x => !x.2.2.any lost) } }

/-- The command that waits for the running checkpoint fails; `stop` ends the compaction too. -/
def compactFail (stop : Bool) (s : State) : State :=
  let s1 := { s with jnl := { s.jnl with compHdr := none, compact := s.jnl.compact && !stop } }
  match s.jnl.compHdr with
  | some h => refuse { h := h, op := 0x0701 } 0x0405 s1
  | none => s1

/-- JNL_FLASH_FAIL: a flash leaves service (R456). -/
def jnlFlashFail (flash addr : Nat) (s : State) : State :=
  let j := s.jnl
  if (flash = 0 ∧ (j.f0 || j.behind0) = true) ∨ (flash = 1 ∧ (j.f1 || j.behind1) = true) then
    let j1 := if flash = 0 then { j with f0 := false, behind0 := false, err0 := satAdd 16 j.err0 1 }
      else { j with f1 := false, behind1 := false, err1 := satAdd 16 j.err1 1 }
    let s1 := { s with jnl := j1 }
    let none_ := !(j1.f0 || j1.f1 || j1.behind0 || j1.behind1)
    raise 0x11 flash 1 addr (compactFail none_ (waitersFail (fun _ => true) s1))
  else s

/-- The entries of batches that do not stand (R458). -/
def voidEntries (l : List JRec) : List Nat :=
  l.flatMap (fun r => match r.pl with | .batch _ _ es => es.map BatchEnt.entry | _ => [])

/-- The power-fail sequence up to its SHUTDOWN record (R458): open records whose pages are all programmed commit, the
others are void; then the final batch and the SHUTDOWN record start. -/
def jnlPowerFail (done : List Nat) (s : State) : State :=
  if s.jnl.pwrFail = 1 ∨ s.jnl.restored = false then s
  else
    let s0 := { s with jnl := { s.jnl with pwrFail := 1 } }
    let opens := s0.jnl.recs.filter JRec.open_
    let s1 := ((opens.map JRec.jseq).filter (fun q => done.contains q)).foldl (fun (a : State) q => jnlRecordCommit q a) s0
    let gone := opens.filter (fun r => !done.contains r.jseq)
    let lost := fun q => gone.any (fun r => r.jseq == q)
    let s2 := { s1 with jnl := { s1.jnl with
      recs := s1.jnl.recs.map (fun r => if r.open_ then { r with void := true } else r) } }
    let s3 := waitersFail lost s2
    let s4 := if s3.jnl.compact && lost s3.jnl.ckEnd then compactFail true s3 else s3
    let s5 := markDirty (voidEntries gone) s4
    if s5.jnl.f0 || s5.jnl.f1 then
      let s6 := jnlBatch false s5.rnk.dirty s5
      { s6 with jnl := jnlStart (.shutdown true) true false s6.jnl }
    else s5

/-- The power-fail sequence ends: its records have committed, and the journal goes on where PWR_FAIL_N is high again
(R458). -/
def jnlPowerEnd (high : Bool) (s : State) : State :=
  if s.jnl.pwrFail = 1 then
    let s1 := (pendingSeqs s).foldl (fun (a : State) q => jnlRecordCommit q a) s
    if high then { s1 with jnl := { s1.jnl with pwrFail := 2 } } else s1
  else s

/-! ### Restore (R459, R132, R46) -/

/-- Opcode, TAG and CRC of a packet (R377). -/
def pktOp (b : List Byte) : Nat := fld b 4 2
def pktTag (gen : Nat) (b : List Byte) : Nat := if gen = 1 then fld b 8 4 else fld b 12 4
def pktCrc (gen : Nat) (b : List Byte) : Nat := if gen = 1 then fld b 12 4 else fld b 28 4

/-- A factor word of the journal; the word of the reset values marks no calibrated factors (R46). -/
def factOfWord (w : Nat) : Fact :=
  { ofs := sext 16 (w % 65536), gain := w / 65536, cal := decide (w ≠ factWord Fact.reset) }

/-- A non-volatile part as the restore judges it (R132). -/
def nvGood (b : List Byte) : Bool :=
  let e := Entry.ofNv b
  decide (crc32c (b.take 28) = fld b 28 4) && (!e.bound || (decide (e.cNom ≠ 0) && decide (e.cEst ≠ 0)))

/-- A part taken from the journal, its volatile fields at their reset values but for the state that DISP gives and its
CAUSE 0x15, or the loss of its entry (R132). -/
def nvRestore (k : Nat) (b : List Byte) (s : State) : State :=
  if nvGood b then
    let e := Entry.load b Entry.reset
    s.setEnt k { e with nvSeq := 0, cause := if e.cause = 0x15 then 0x15 else 0 }
  else
    raise 0x06 0x1F 8 k
      { s.setEnt k { Entry.reset with cause := 0x14 } with rnk := { s.rnk with nvErr := satAdd 32 s.rnk.nvErr 1 } }

/-- An entry of a batch applied to a bound entry (R131). -/
def batchRestore (x : BatchEnt) (s : State) : State :=
  let e := s.ent x.entry
  if e.bound then
    let w := fld x.tally 4 4
    let e1 := { e with cEst := x.cEst, edges := fld x.tally 0 4 + 2 ^ 32 * bits 7 0 w, hard := bits 31 8 w,
                       trend := x.trend }
    s.setEnt x.entry { e1 with nvCrc := crc32c e1.nvHead }
  else s

/-- Parameters taken from the journal (R459). -/
def paramRestore (l : List (Nat × Int)) (s : State) : State :=
  { s with params := (l.filter (fun x => (pspec x.1).isSome)).foldl (fun a x => a.put x.1 x.2) s.params }

/-- The factors of a record. -/
def factRestore (ws : List Nat) (s : State) : State :=
  { s with adc := { s.adc with fact := (List.range 192).foldl (fun a ch =>
      Tab.set Fact.reset ch (factOfWord (ws.getD ch (factWord Fact.reset))) a) s.adc.fact } }

/-- A journalled change of a command. -/
def changeRestore (c : JChange) (s : State) : State :=
  match c with
  | .param l => paramRestore l s
  | .cellNv k b => nvRestore k b s
  | .adcFact ws => factRestore ws s

/-- NEXT after a journalled SEQ. -/
def nextAfter (next seq : Nat) : Nat := if inWindow next seq then next else (seq + 1) % 2 ^ 32

/-- A window entry restored. -/
def winRestore (k seq crc basis : Nat) (r : Option Reply) (s : State) : State :=
  s.modPair k (fun p =>
    let next := nextAfter p.next seq
    { p with next := next, window := (p.window.filter (fun w => w.seq != seq && inWindow next w.seq)) ++
        [{ seq := seq, crc := crc, basis := basis, reply := r }] })

/-- A committed record applied (R459); `acc` holds the parts of a batch whose END has not come. -/
def recRestore (r : JRec) (x : State × List BatchEnt) : State × List BatchEnt :=
  let s := x.1
  match r.pl with
  | .param l => (paramRestore l s, x.2)
  | .cellNv k b => (nvRestore k b s, x.2)
  | .batch num _ es =>
    let old := if s.jnl.batchNum = num then x.2 else []
    let s1 := { s with jnl := { s.jnl with batchNum := num } }
    if r.last then ((old ++ es).foldl (fun a e => batchRestore e a) s1, []) else (s1, old ++ es)
  | .adcFact ws => (factRestore ws s, x.2)
  | .command k gen seq b =>
    let f : Fly := { pair := k, gen := gen, seq := seq, crc := pktCrc gen b, opcode := pktOp b, tag := pktTag gen b,
                     packet := b, basis := 2, mirror := false, jseq := r.jseq, since := 0, exec := false, old := true }
    let s1 := winRestore k seq f.crc 2 none s
    ({ s1 with hif := { s1.hif with fly := s1.hif.fly ++ [f] } }, x.2)
  | .completion k basis seq crc rep chg =>
    let s1 := winRestore k seq crc basis (some rep) s
    let s2 := { s1 with hif := { s1.hif with fly := s1.hif.fly.filter (fun f => !(f.pair == k && f.seq == seq)) } }
    (chg.foldl (fun a c => changeRestore c a) s2, x.2)
  | .event b =>
    let b1 := b.set 5 (b.getD 5 0 ||| 2)
    let e := s.evr
    if e.first < 1024 then
      ({ s with evr := { e with mem := e.mem.writeBytes (256 * e.first) b1, first := e.first + 1,
                                firstFull := decide (e.first + 1 = 1024) } }, x.2)
    else (s, x.2)
  | .evrClear => (evrZeroFirst s, x.2)
  | .session k _ next =>
    (s.modPair k (fun p => { p with next := next, window := if r.ckpt then p.window else [] }), x.2)
  | .boot _ _ _ => (s, x.2)
  | .shutdown _ => (s, x.2)
  | .ckptBegin => (s, x.2)
  | .ckptEnd _ => (s, x.2)

/-- The restore from the flashes that answer (R459): the latest complete checkpoint, the records from it on but for those
of a checkpoint without its end (R457), the findings, the BOOT record. `ms` is its duration. -/
def jnlRestore (flash0 flash1 : Bool) (ms : Nat) (s : State) : State :=
  let v0 := fun (r : JRec) => flash0 && r.c0 && !r.void
  let v1 := fun (r : JRec) => flash1 && r.c1 && !r.void
  let log := s.jnl.recs.filter (fun r => v0 r || v1 r)
  let top0 := maxN ((s.jnl.recs.filter v0).map JRec.jseq)
  let top1 := maxN ((s.jnl.recs.filter v1).map JRec.jseq)
  let ends := log.filterMap (fun r => match r.pl with | .ckptEnd b => some (b, r.jseq) | _ => none)
  let from_ := (ends.getLast?.getD (0, 0)).1
  let upTo := (ends.getLast?.getD (0, 0)).2
  let l := log.filter (fun r => decide (from_ ≤ r.jseq) && (!r.ckpt || decide (r.jseq ≤ upTo)))
  let boot := min 0xFFFF (maxN (log.map JRec.boot) + 1)
  let next := maxN (s.jnl.recs.map JRec.jseq) + 1
  let b0 := flash0 && flash1 && decide (top0 < top1)
  let b1 := flash0 && flash1 && decide (top1 < top0)
  let r := l.foldl (fun a x => recRestore x a) (s, [])
  let s1 := { r.1 with jnl := { r.1.jnl with
    boot := boot, next := next, restored := true, restoreMs := ms, f0 := flash0 && !b0, f1 := flash1 && !b1,
    behind0 := b0, behind1 := b1, ckpt := from_, committed := max top0 top1, compact := false, compHdr := none } }
  let differ := flash0 && flash1 && l.any (fun x => v0 x != v1 x)
  let s2 := raiseIf (!flash0 && !flash1) 0x11 0 5 0 s1
  let s3 := raiseIf ((flash0 || flash1) && log.isEmpty) 0x11 0 6 0 s2
  let s4 := raiseIf (match log.getLast? with | some x => (match x.pl with | .shutdown _ => false | _ => true) | none => false)
    0x11 0 7 0 s3
  let s5 := raiseIf (!r.2.isEmpty) 0x11 0 4 0 s4
  let s6 := raiseIf differ 0x11 0 3 0 s5
  let s7 := jnlAdd (.boot boot revLetter s6.pwr.compat) s6
  if differ then compactStart none s7 else s7

end Sys2Proof.Machine
end

