-- ==== Sys2Proof/Machine/Hif.lean ====
section
/-! DEFINITION. The host interface (R366–R387, R400): accesses of the host, sessions, doorbells, intake, replies. -/

namespace Sys2Proof.Machine

open Sys2Proof

/-! ### The port (R366–R368) -/

/-- An access of the host shows the link up; the width and generation that it was trained to are open (DESIGN CHOICE, log 2). -/
def hostSeen (s : State) : State :=
  if s.hif.linkUp then s
  else { s with
    hif := { s.hif with linkUp := true, width := 2 ^ (s.freeV % 3), speed := 1 + (s.draw).freeV % 4 }
    free := s.free + 2 }

/-- HOST_PORT_RESET (R368). -/
def hostPortReset (s : State) : State :=
  { s with hif := { s.hif with
      pairs := s.hif.pairs.map (fun p => { p with open_ := false, replies := [] }),
      downs := satAdd 16 s.hif.downs 1, linkUp := false, width := 0, speed := 0, openLo := 0, opening := none,
      openReq := none } }

/-- PCIE_LINK_DOWN (R368). -/
def pcieLinkDown (s : State) : State :=
  { s with hif := { s.hif with downs := satAdd 16 s.hif.downs 1, linkUp := false, width := 0, speed := 0 } }

/-- BAR_WRITE_DISCARDED: a write to anything but a doorbell changes nothing (R367). -/
def barWriteDiscarded (_bar _off _v : Nat) (s : State) : State := if s.st = .off then s else hostSeen s

/-- FRM_COUNT_LO_READ: the high part is latched from the publication in force (R37). -/
def frmCountLoRead (s : State) : State :=
  if s.st = .off then s
  else
    let s1 := hostSeen s
    { s1 with frm := { s1.frm with
      hiLatch := pack [(16, s.pub.frm.wrap % 2 ^ 16), (0, s.pub.frm.count / 2 ^ 32 % 2 ^ 16)] } }

/-! ### Sessions (R369–R373) -/

/-- HIF_DB_OPEN_LO. -/
def hifDbOpenLo (v : Nat) (s : State) : State :=
  if s.st = .off then s
  else let s1 := hostSeen s; { s1 with hif := { s1.hif with openLo := v % 2 ^ 32 } }

/-- HIF_DB_OPEN_HI starts the open; before READY it is held (R370, R485). -/
def hifDbOpenHi (v : Nat) (s : State) : State :=
  if s.st = .off then s
  else
    let s1 := hostSeen s
    { s1 with hif := { s1.hif with opening := some (v % 2 ^ 32 * 2 ^ 32 + s1.hif.openLo) } }

/-- A failed open leaves its pair closed (R371). -/
def openFail (k err : Nat) (s : State) : State := (closePair k s).modPair k (fun p => { p with openErr := err })

/-- A ring size is a power of two from 64 to 16,384. -/
def ringSizeOk (n : Nat) : Bool := (List.range 9).any (fun i => n == 2 ^ (6 + i))

/-- The descriptor's ranges hold (R370, R371 code 0x2). -/
def descOk (addr : Nat) (b : List Byte) : Bool :=
  decide (addr % 64 = 0) && decide (fld b 0 8 % 4096 = 0) && decide (fld b 8 8 % 4096 = 0) && ringSizeOk (fld b 16 4) &&
  ringSizeOk (fld b 20 4) && (decide (fld b 25 1 = 1) || decide (fld b 25 1 = 2)) && decide (fld b 26 1 ≤ 7) &&
  decide (fld b 27 1 ≤ 1)

/-- A descriptor read and checked (R370–R372). -/
def openCheck (addr : Nat) (b : List Byte) (s : State) : State :=
  let k := fld b 24 1
  if crc32c (b.take 60) ≠ fld b 60 4 ∨ fld b 32 28 ≠ 0 ∨ b.length ≠ 64 then openFail k 1 s
  else if descOk addr b = false then openFail k 2 s
  else if fld b 27 1 = 1 ∧ s.hif.fly.any (fun f => f.pair == k) = true then openFail k 3 s
  else openStart { pair := k, gen := fld b 25 1, vector := fld b 26 1,
                   fresh := if fld b 27 1 = 1 then some (fld b 28 4) else none, cmdBase := fld b 0 8,
                   rplBase := fld b 8 8, cmdUnits := fld b 16 4, rplEnts := fld b 20 4, jseq := 0 } (closePair k s)

/-- SESSION_OPEN_COMPLETE: the descriptor of the started open has been read, or could not be; which register then
reports is open (DESIGN CHOICE, log 2). Nothing opens before READY (R485). (DESIGN CHOICE, log 50.) -/
def sessionOpenComplete (desc : Option (List Byte)) (s : State) : State :=
  match s.hif.opening with
  | none => s
  | some addr =>
    if s.st = .off ∨ s.st = .starting then s
    else
      let s1 := { s with hif := { s.hif with opening := none } }
      match desc with
      | some b => openCheck addr b s1
      | none => openFail (s1.freeV % 4) 4 s1.draw

/-- HIF_DB_CLOSE (R373). -/
def hifDbClose (v : Nat) (s : State) : State := if s.st = .off then s else closePair (v % 4) (hostSeen s)

/-! ### Doorbells (R374) -/

/-- The distance from one index to another, modulo 2^16. -/
def idxDist (from_ to_ : Nat) : Nat := (to_ + 2 ^ 16 - from_ % 2 ^ 16) % 2 ^ 16

/-- A doorbell that would move its index backwards or past the other end is ignored and counted. -/
def badDoorbell (p : RPair) : RPair := { p with badDb := satAdd 8 p.badDb 1 }

/-- HIF_DBk_CMD. -/
def hifDbCmd (k v : Nat) (s : State) : State :=
  if s.st = .off then s
  else (hostSeen s).modPair k (fun p =>
    if p.open_ then
      let n := idxDist p.cmdCons v
      if n ≤ p.cmdUnits ∧ idxDist p.cmdCons p.cmdProd ≤ n then { p with cmdProd := v % 2 ^ 16 } else badDoorbell p
    else p)

/-- HIF_DBk_RPL. -/
def hifDbRpl (k v : Nat) (s : State) : State :=
  if s.st = .off then s
  else (hostSeen s).modPair k (fun p =>
    if p.open_ then
      if idxDist p.rplCons v ≤ idxDist p.rplCons p.rplProd then { p with rplCons := v % 2 ^ 16 } else badDoorbell p
    else p)

/-! ### Intake (R375, R377, R379, R380, R383, R384) -/

/-- LEN of a packet and the length of its header. -/
def pktLen (gen : Nat) (b : List Byte) : Nat := if gen = 1 then fld b 6 2 else fld b 8 4
def pktHead (gen : Nat) : Nat := if gen = 1 then 16 else 32

/-- LEN lies in the range of its generation. -/
def lenOk (gen n : Nat) : Bool :=
  decide (n % 8 = 0) && decide (pktHead gen ≤ n) && decide (n ≤ if gen = 1 then 4096 else 11264)

/-- The CRC over a packet, its CRC field taken as zero (R377). -/
def pktSum (gen : Nat) (b : List Byte) : Nat :=
  let i := if gen = 1 then 12 else 28
  crc32c (b.take i ++ leBytes 4 0 ++ b.drop (i + 4))

/-- The pair whose turn it is: the next open pair, from the last served on, with an unread packet (R379). -/
def nextPair (s : State) : Option Nat :=
  ((List.range 4).map (fun i => (s.hif.turn + 1 + i) % 4)).find? (fun k =>
    let p := s.hif.pairs.getD k RPair.reset
    p.open_ && decide (p.cmdCons ≠ p.cmdProd))

/-- The device reads rings: from READY on, with journalled commands executed and fewer than 64 commands in flight
(R379, R385, R485). -/
def readsRings (s : State) : Bool :=
  decide (s.st ≠ .off) && decide (s.st ≠ .starting) && decide (s.hif.fly.length < 64) &&
    s.hif.fly.all (fun f => !f.old || f.exec)

/-- A refusal at intake: one final reply, counted; the sequence stays (R380). -/
def refuseIntake (c : Ctx) (st : Nat) (data : List Byte) (s : State) : State :=
  (pushReply (mkReply c st data) s).modPair c.h.pair (fun p => { p with refs := satAdd 24 p.refs 1 })

/-- A command outside the sequence whose form fails is refused at intake; any other executes as its own row
(R384, R388). (DEDUCED, log 26.) -/
def outsideSeq (gen : Nat) (c : Ctx) (b : List Byte) (s : State) : State :=
  match formStatus gen (pktOp b) b with
  | some st => pushReply (mkReply c st []) s
  | none => if acts s || isSession c.op || isPairOp c.op then s else notActive c s

/-- A duplicate is answered from the window (R383). -/
def answerDup (c : Ctx) (w : WinE) (s : State) : State :=
  let s1 := s.modPair c.h.pair (fun p => { p with dups := satAdd 32 p.dups 1 })
  match w.reply with
  | some r => pushReply { r with dup := true } s1
  | none => if w.basis = 0 then s1 else pushReply (acceptedReply c w.basis true) s1

/-- A packet whose LEN and CRC hold, in a device that executes commands (R380, R381). -/
def inSequence (k gen t : Nat) (c : Ctx) (b : List Byte) (s : State) : State :=
  let p := s.hif.pairs.getD k RPair.reset
  let crc := pktCrc gen b
  let seq := c.h.seq
  if isSession c.op then
    if seq = 0 then outsideSeq gen c b s else refuseIntake c 0x0403 (leBytes 4 p.next) s
  else if seq = p.next then
    let f : Fly := { pair := k, gen := gen, seq := seq, crc := crc, opcode := pktOp b, tag := c.h.tag, packet := b,
                     basis := 0, mirror := false, jseq := 0, since := t, exec := false, old := false }
    let s1 := s.modPair k (RPair.take seq crc 0)
    offer f { s1 with hif := { s1.hif with fly := s1.hif.fly ++ [f] } }
  else if inWindow p.next seq then
    match p.window.find? (fun w => w.seq == seq) with
    | some w => if w.crc = crc then answerDup c w s else refuseIntake c 0x0402 [] s
    | none => refuseIntake c 0x0402 [] s
  else refuseIntake c 0x0403 (leBytes 4 p.next) s

/-- PACKET_INTAKE: the next packet of the pair whose turn it is; `b` are the bytes of the ring from its consumer index
on. (DESIGN CHOICE, log 50.) -/
def packetIntake (k : Nat) (b : List Byte) (t : Nat) (s0 : State) : State :=
  if readsRings s0 = true ∧ nextPair s0 = some k then
    let s := s0.at t
    let p := s.hif.pairs.getD k RPair.reset
    let n := pktLen p.gen b
    let c : Ctx := { h := { pair := k, seq := fld b 0 4, tag := pktTag p.gen b, force := false, rsvd := false, time := t },
                     op := if p.gen = 1 then 0x10000 + pktOp b else pktOp b }
    let s1 := { s with hif := { s.hif with turn := k } }
    if lenOk p.gen n = false ∨ 64 * idxDist p.cmdCons p.cmdProd < n ∨ b.length < n then
      refuseIntake c 0x0204 [] (s1.modPair k (fun x => { x with cmdCons := x.cmdProd }))
    else
      let s2 := s1.modPair k (fun x => { x with cmdCons := (x.cmdCons + cdiv n 64) % 2 ^ 16 })
      let q := b.take n
      if pktSum p.gen q ≠ pktCrc p.gen q then refuseIntake c 0x0401 [] s2
      else if acts s2 then inSequence k p.gen t c q s2
      else outsideSeq p.gen c q s2
  else s0

/-! ### Replies (R376, R378) -/

/-- The 64 bytes of a reply entry. -/
def replyBytes (phase : Bool) (r : Reply) : List Byte :=
  leBytes 4 r.seq ++ leBytes 2 r.opcode ++ leBytes 2 r.status ++ leBytes 4 r.tag ++
  leBytes 1 (pack [(4, b2n r.final), (2, r.basis % 4), (1, b2n r.dup), (0, b2n phase)]) ++ leBytes 1 r.pair ++
  leBytes 2 0 ++ padTo 48 r.data

/-- REPLY_WRITE: the oldest reply due to a pair is written to its ring, unless the ring is full (R376). -/
def replyWrite (k : Nat) (s : State) : State :=
  let p := s.hif.pairs.getD k RPair.reset
  match p.replies with
  | [] => s
  | r :: rest =>
    if p.open_ ∧ k < 4 ∧ idxDist p.rplCons p.rplProd < p.rplEnts then
      let phase := decide (p.rplProd / p.rplEnts % 2 = 0)
      let at_ := p.rplBase + 64 * (p.rplProd % p.rplEnts)
      ((s.modPair k (fun x => { x with replies := rest, rplProd := (x.rplProd + 1) % 2 ^ 16 })).emit
        (.host at_ (replyBytes phase r))).emit (.msi p.vector)
    else s

/-! ### Session and identity commands (R400) -/

/-- SESSION_INFO. (DEDUCED, log 55.) -/
def sessionInfo (c : Ctx) (s : State) : State :=
  let p := s.hif.pairs.getD c.h.pair RPair.reset
  done c (leBytes 1 (roleCode s.pair.role) ++ leBytes 1 (b2n s.pair.sys) ++ leBytes 1 (devCode s.st) ++
    leBytes 1 revLetter ++ leBytes 2 s.pwr.compat ++ leBytes 2 (Config.firmware % 2 ^ 16) ++ leBytes 1 p.gen ++
    leBytes 1 c.h.pair ++ leBytes 2 0 ++ leBytes 4 p.next ++ leBytes 8 s.frm.g ++ leBytes 8 (Config.uid % 2 ^ 64)) s

/-- Row SESSION_INFO. -/
def hostSessionInfo (h : CmdHdr) : State → State :=
  let c : Ctx := { h := h, op := 0x0000 }
  hostCmd (.sessionInfo h) c stAny (sessionInfo c)

/-- Row ECHO. -/
def hostEcho (h : CmdHdr) (v : Nat) : State → State :=
  let c : Ctx := { h := h, op := 0x0001 }
  hostCmd (.echo h v) c stAny (done c (leBytes 8 v))

/-- Row FCS-1 IDENT. -/
def hostFcs1Ident (h : CmdHdr) : State → State :=
  let c : Ctx := { h := h, op := 0x10001 }
  hostCmd (.fcs1Ident h) c stAny (sessionInfo c)

/-- Row FCS-1 NOP. -/
def hostFcs1Nop (h : CmdHdr) (v : Nat) : State → State :=
  let c : Ctx := { h := h, op := 0x10002 }
  hostCmd (.fcs1Nop h v) c stAny (done c (leBytes 8 v))

end Sys2Proof.Machine
end

