-- ==== Sys2Proof/Machine/Conv.lean ====
section
/-! DEFINITION. The converter state machine: transitions and what each brings with it, the converter-state commands
(R36, R54, R295–R303, R395–R399). -/

namespace Sys2Proof.Machine

open Sys2Proof

/-! ### Transitions -/

/-- What leaving a state ends: RUNNING its following-error counts (R103), MAINTENANCE a calibration and every test
(R60, R204, R395). -/
def leaveState (s : State) : State :=
  if s.st = .running then feReset s
  else if s.st = .maintenance then testEnd (fun _ => true) (calAbort s)
  else s

/-- The requests that a state does not act on lapse with it (R107). (DEDUCED, log 21.) -/
def dropDue (s : State) : State :=
  { s with sbk := { s.sbk with stopDue := none, blockDue := none, injDue := none } }

/-- The entry into SAFE_STOP at the rim of frame `n` (R85, R295, R296, R302, R403). -/
def enterSafeStop (cause n : Nat) (s : State) : State :=
  fireP (fun i => decide (i / 256 = 0xA1)) (spStopAll { leaveState s with
    st := .safeStop
    sbk := { s.sbk with
      step := 0, tail := false, viol := false, vrestHeld := false, stopCause := cause, detail := 0,
      entry := n % 2 ^ 32, stopDue := none } })

/-- The entry into SAFE_BLOCKED at the rim of frame `n` (R85, R301, R302). -/
def enterSafeBlocked (cause detail n : Nat) (s : State) : State :=
  spStopAll (dropDue { leaveState s with
    st := .safeBlocked
    sbk := { s.sbk with step := 0, blockCause := cause, detail := detail, entry := n % 2 ^ 32 } })

/-- A transition that brings nothing of its own with it. -/
def plainTo (d : DevState) (s : State) : State := { leaveState s with st := d }

/-- CONV_RECOVER at its rim: the Safe Block latch clears and A_r is taken afresh (R303). -/
def recoverTo (s : State) : State :=
  tripUpdate s.frm.g { s with st := .blocked, trp := { s.trp with sbLatch := false } }

/-- The commanded transition of the rim of frame `n`, from the state before (R395). -/
def convApply (n : Nat) (before target : DevState) (s : State) : State :=
  match target with
  | .safeStop => enterSafeStop 0x11 n s
  | .safeBlocked => enterSafeBlocked 0x06 0 n s
  | .blocked => if before = .safeBlocked then recoverTo s else plainTo .blocked s
  | d => plainTo d s

/-- The commanded transition that waits for this rim (R395). -/
def convRim (n : Nat) (s : State) : State :=
  match s.hif.conv with
  | some (_, _, target, before) => convApply n before target s
  | none => s

/-- The transitions by rule at the rim of frame `n` (R295, R300, R301, R398): SAFE_BLOCKED by the injected path or by
the rim path, and otherwise Safe Stop from RUNNING. Other requests lapse (R107). (DEDUCED, log 21.) -/
def ruleRim (n : Nat) (s : State) : State :=
  let s1 := safeStopComplete s
  let movable := decide (s1.st = .ready) || decide (s1.st = .blocked) || decide (s1.st = .running) ||
    decide (s1.st = .safeStop)
  match s1.sbk.injDue, s1.sbk.blockDue, s1.sbk.stopDue with
  | some x, _, _ => if movable then enterSafeBlocked x.1 x.2 n s1 else dropDue s1
  | none, some c, _ =>
    if movable || decide (s1.st = .maintenance) then enterSafeBlocked c 0 n s1 else dropDue s1
  | none, none, some c => if s1.st = .running then enterSafeStop c n s1 else dropDue s1
  | none, none, none => s1

/-! ### Replies (R399) -/

/-- Rods with A_r other than none. -/
def trippedMask (s : State) : Nat := maskOf ((List.range 12).filter (fun r => decide (s.trp.act.getD r 0 ≠ 0)))

/-- The reply data of the group. -/
def convData (s : State) (before : DevState) (noEffect : Bool) (frame : Nat) : List Byte :=
  [BitVec.ofNat 8 (devCode before), BitVec.ofNat 8 (devCode s.st), BitVec.ofNat 8 s.sbk.stopCause,
    BitVec.ofNat 8 s.sbk.blockCause, BitVec.ofNat 8 (b2n noEffect), 0] ++ leBytes 2 (trippedMask s) ++ leBytes 4 frame

/-- The reply of the commanded transition once the rim of frame `n` has passed. -/
def convReply (n : Nat) (s : State) : State :=
  match s.hif.conv with
  | some (h, op, _, before) =>
    done { h := h, op := op } (convData s before false n) { s with hif := { s.hif with conv := none } }
  | none => s

/-! ### The commands (R396, R397) -/

/-- A transition passed its checks and waits for its rim. -/
def convWait (c : Ctx) (target : DevState) (s : State) : State :=
  { s with hif := { s.hif with conv := some (c.h, c.op, target, s.st) } }

/-- A command that changes nothing. -/
def convNone (c : Ctx) (s : State) : State := done c (convData s s.st true s.frm.count) s

/-- CONV_STATUS. (DEDUCED, log 55.) -/
def convStatus (c : Ctx) (s : State) : State := done c (convData s s.st false s.frm.count) s

/-- A rod with bound entries has no primary channel (R54). -/
def noChannel (s : State) : Bool :=
  (List.range 12).any (fun r => !(s.rodL r).isEmpty && (s.pO (0x2300 + r)).isNone)

/-- CONV_RUN (R397). -/
def convRun (c : Ctx) (s : State) : State :=
  if s.frm.budgetOk = false then refuse c 0x0118 s
  else if noChannel s then refuse c 0x0119 s
  else if anyShort s then refuse c 0x0111 s
  else if s.fir.tx < txMin s.p then refuse c 0x0112 s
  else convWait c .running s

/-- CONV_SAFE_STOP (R295, R396). -/
def convSafeStop (c : Ctx) (s : State) : State := if s.st = .running then convWait c .safeStop s else convNone c s

/-- CONV_SAFE_BLOCK. -/
def convSafeBlock (c : Ctx) (s : State) : State :=
  if s.st = .safeBlocked then convNone c s else convWait c .safeBlocked s

/-- A latch with TRP_ESC = 1, or the telegram latch, is set (R303). -/
def escLatched (s : State) : Bool :=
  s.trp.tgLatch || (bitsOf 16 s.trp.latch).any (fun i => (tripCfg s i).esc)

/-- The fault of a cause of Safe Block is not cleared (R303): envelope, Vrest, FRM_OVERRUN2, a telegram fault with
reaction 5, a fatal line. -/
def safetyFault (s : State) : Bool :=
  s.flt.active.any (fun a =>
    (a.blk == 0x0A && (a.kind == 0x10 || a.kind == 0x11)) || (a.blk == 0x01 && a.kind == 2) || a.sev == 3 ||
      (a.blk == 0x0A && decide (0x13 ≤ a.kind) && decide (a.kind ≤ 0x16) && s.p (0xA1F2 + a.kind) == 5)) ||
    decide (s.flt.lines ≠ 0)

/-- CONV_RECOVER (R303). -/
def convRecover (c : Ctx) (s : State) : State :=
  if escLatched s then refuse c 0x0114 s
  else if safetyFault s then refuse c 0x0115 s
  else convWait c .blocked s

/-! ### Rows -/

/-- All but OFF and STARTING is `stUp`; a single state. -/
def stIs (d : DevState) : DevState → Bool := fun x => decide (x = d)

/-- Row CONV_STATUS. -/
def hostConvStatus (h : CmdHdr) : State → State :=
  let c : Ctx := { h := h, op := 0x0200 }
  hostCmd (.convStatus h) c stAny (convStatus c)

/-- Row CONV_ARM. -/
def hostConvArm (h : CmdHdr) : State → State :=
  let c : Ctx := { h := h, op := 0x0201 }
  hostCmd (.convArm h) c (stIs .ready) (convWait c .blocked)

/-- Row CONV_DISARM. -/
def hostConvDisarm (h : CmdHdr) : State → State :=
  let c : Ctx := { h := h, op := 0x0202 }
  hostCmd (.convDisarm h) c (stIs .blocked) (convWait c .ready)

/-- Row CONV_RUN. -/
def hostConvRun (h : CmdHdr) : State → State :=
  let c : Ctx := { h := h, op := 0x0203 }
  hostCmd (.convRun h) c (stIs .blocked) (convRun c)

/-- Row CONV_BLOCK. -/
def hostConvBlock (h : CmdHdr) : State → State :=
  let c : Ctx := { h := h, op := 0x0204 }
  hostCmd (.convBlock h) c (stIs .running) (convWait c .blocked)

/-- Row CONV_SAFE_STOP. -/
def hostConvSafeStop (h : CmdHdr) : State → State :=
  let c : Ctx := { h := h, op := 0x0205 }
  hostCmd (.convSafeStop h) c stUp (convSafeStop c)

/-- Row CONV_SAFE_BLOCK. -/
def hostConvSafeBlock (h : CmdHdr) : State → State :=
  let c : Ctx := { h := h, op := 0x0206 }
  hostCmd (.convSafeBlock h) c stUp (convSafeBlock c)

/-- Row CONV_RECOVER. -/
def hostConvRecover (h : CmdHdr) : State → State :=
  let c : Ctx := { h := h, op := 0x0207 }
  hostCmd (.convRecover h) c (stIs .safeBlocked) (convRecover c)

/-- READY and BLOCKED. -/
def stMaintFrom (d : DevState) : Bool := decide (d = .ready) || decide (d = .blocked)

/-- Row CONV_MAINT. -/
def hostConvMaint (h : CmdHdr) : State → State :=
  let c : Ctx := { h := h, op := 0x0208 }
  hostCmd (.convMaint h) c stMaintFrom (convWait c .maintenance)

/-- Row CONV_MAINT_END. -/
def hostConvMaintEnd (h : CmdHdr) : State → State :=
  let c : Ctx := { h := h, op := 0x0209 }
  hostCmd (.convMaintEnd h) c (stIs .maintenance) (convWait c .ready)

/-- Row FCS-1 ENABLE. -/
def hostFcs1Enable (h : CmdHdr) : State → State :=
  let c : Ctx := { h := h, op := 0x10020 }
  hostCmd (.fcs1Enable h) c (stIs .ready) (convWait c .blocked)

/-- Row FCS-1 DISABLE. -/
def hostFcs1Disable (h : CmdHdr) : State → State :=
  let c : Ctx := { h := h, op := 0x10021 }
  hostCmd (.fcs1Disable h) c (stIs .blocked) (convWait c .ready)

/-- Row FCS-1 START. -/
def hostFcs1Start (h : CmdHdr) : State → State :=
  let c : Ctx := { h := h, op := 0x10022 }
  hostCmd (.fcs1Start h) c (stIs .blocked) (convRun c)

/-- Row FCS-1 STOP. -/
def hostFcs1Stop (h : CmdHdr) : State → State :=
  let c : Ctx := { h := h, op := 0x10023 }
  hostCmd (.fcs1Stop h) c stUp (convSafeStop c)

/-- Row FCS-1 BLOCK. -/
def hostFcs1Block (h : CmdHdr) : State → State :=
  let c : Ctx := { h := h, op := 0x10024 }
  hostCmd (.fcs1Block h) c stUp (convSafeBlock c)

/-- Row FCS-1 RESET_BLOCK. -/
def hostFcs1ResetBlock (h : CmdHdr) : State → State :=
  let c : Ctx := { h := h, op := 0x10025 }
  hostCmd (.fcs1ResetBlock h) c (stIs .safeBlocked) (convRecover c)

/-- Row FCS-1 SERVICE. -/
def hostFcs1Service (h : CmdHdr) : State → State :=
  let c : Ctx := { h := h, op := 0x10026 }
  hostCmd (.fcs1Service h) c stMaintFrom (convWait c .maintenance)

/-- Row FCS-1 SERVICE_END. -/
def hostFcs1ServiceEnd (h : CmdHdr) : State → State :=
  let c : Ctx := { h := h, op := 0x10027 }
  hostCmd (.fcs1ServiceEnd h) c (stIs .maintenance) (convWait c .ready)

end Sys2Proof.Machine
end

