-- ==== Sys2Proof/Machine/Param.lean ====
section
/-! DEFINITION. Parameter commands (R19, R401–R404): checks, the rim at which a write takes effect, replies; with the
statistics clear and the start of a calibration (R55, R408). -/

namespace Sys2Proof.Machine

open Sys2Proof

/-! ### The range of a value (R401) -/

/-- A source code of R91. -/
def sourceOk (c : Nat) : Bool :=
  decide (c ≤ 1) || inRun c 0x0100 192 || inRun c 0x0200 12 || inRun c 0x0300 64 || inRun c 0x0400 16 ||
    inRun c 0x0500 64 || inRun c 0x0600 12 || inRun c 0x0610 12

/-- A recorder source of R426. -/
def trcSrcOk (c : Nat) : Bool :=
  decide (c = 0) || (sourceOk c && decide (c ≠ 1)) || inRun c 0x0700 12 || inRun c 0x0710 12

/-- A word of the equalisation table (R221). -/
def eqRowOk (w : Nat) : Bool :=
  decide (bits 30 28 w = 0) && decide (bits 19 16 w = 0) && decide (bits 15 10 w + bits 9 5 w + bits 4 0 w ≤ 63)

/-- The check of a kind beyond the range. -/
def kindOk (id : Nat) (k : PKind) (v : Nat) : Bool :=
  match k with
  | .plain => true
  | .bfp => decide (id / 0x1000 ≠ 4 ∨ id % 32 ≠ 6 ∨ 0x4400 ≤ id) || decide (0 ≤ (bfpOfWord v).m)
  | .source => sourceOk v
  | .bar => decide (v = 0xFFFFFFFF) || (decide (v % 4 = 0) && decide (v ≤ 0x9FFFC))
  | .eqRow => eqRowOk v
  | .react => decide (v = 1) || decide (v = 4) || decide (v = 5)
  | .pow2 => decide (v = 2 ^ log2P v)
  | .trcSrc => trcSrcOk v
  | .latch => tb v 2

/-- A value lies in its parameter's range (R401). -/
def valueOk (id : Nat) (sp : PSpec) (v : Int) : Bool :=
  (sp.none && decide (v = 0xFFFF)) || (decide (sp.lo ≤ v) && decide (v ≤ sp.hi) && kindOk id sp.kind v.toNat)

/-! ### Cross-checks (R403) -/

/-- The parameters as they would stand with entries applied. -/
def standWith (s : State) (es : List (Nat × Int)) (id : Nat) : Int :=
  match es.find? (fun e => e.1 == id) with
  | some e => e.2
  | none => pStand s id

/-- A lane is enabled without a valid row (R221). -/
def rowless (p : Nat → Int) (k : Nat) : Bool :=
  decide (p (0x8120 + k) = 1) && (List.range 8).all (fun j => !tb (p (0x8000 + 8 * k + j)).toNat 31)

/-- The cross-checks with 0x0203 that an entry is subject to, under the parameters `p` as they would stand. (DEDUCED, log 25.) -/
def crossRange (p : Nat → Int) (id : Nat) : Bool :=
  if inRun id 0x2400 32 then
    let b := 0x2400 + 4 * ((id - 0x2400) / 4)
    decide (p (b + 3) ≠ 0) && [0, 1, 2].any (fun j => decide (p (b + j) = 0xFFFF))
  else if id = 0x2450 ∨ id = 0x2451 then decide (p 0x2451 ≤ p 0x2450)
  else if inRun id 0x2300 12 ∨ inRun id 0x2310 12 then
    let r := id % 16
    decide (p (0x2300 + r) ≠ 0xFFFF) && decide (p (0x2300 + r) = p (0x2310 + r))
  else if inRun id 0x3140 192 then
    let m := id % 64
    decide (p (0x31C0 + m) < p (0x3180 + m)) || decide (p (0x3140 + m) < p (0x3180 + m)) ||
      decide (p (0x31C0 + m) < p (0x3140 + m))
  else if inRun id 0x4000 1024 ∧ (id % 32 = 4 ∨ id % 32 = 5) then
    let b := id - id % 32
    !bfpLt (bfpOfWord (p (b + 4))) (bfpOfWord (p (b + 5)))
  else if inRun id 0x4000 1024 ∧ (id % 32 = 8 ∨ id % 32 = 9) then
    let b := id - id % 32
    decide (p (b + 8) = 3) && decide (p (b + 9) = 0)
  else if inRun id 0x4400 384 ∧ (id % 32 = 0x12 ∨ id % 32 = 0x13) then
    let b := id - id % 32
    decide (p (b + 0x13) < p (b + 0x12))
  else if id = 0x5047 ∨ id = 0x5048 then decide (p 0x5048 ≤ p 0x5047)
  else if id = 0x5049 ∨ id = 0x504A then decide (p 0x5049 ≤ p 0x504A)
  else if inRun id 0x6820 12 ∨ inRun id 0x6830 12 ∨ inRun id 0x6840 12 then
    let r := id % 16
    decide (p (0x6820 + r) < p (0x6830 + r)) || decide (p (0x6830 + r) < p (0x6840 + r))
  else if inRun id 0x8000 192 then rowless p ((id - 0x8000) / 8)
  else if inRun id 0x8120 24 then rowless p (id - 0x8120)
  else if id = 0xC000 ∨ id = 0xC001 then decide (p 0xC000 = p 0xC001)
  else if inRun id 0xF030 16 ∨ inRun id 0xF040 16 then decide (p (0xF040 + id % 16) ≤ p (0xF030 + id % 16))
  else if id = 0xF011 ∨ id = 0xF013 then decide (2097152 / (p 0xF011) - 16 < p 0xF013)
  else if id = 0xF015 ∨ (0xF050 ≤ id ∧ id ≤ 0xF053) then
    (decide (p 0xF052 ≠ 0xFFFF) && decide (p 0xF051 = p 0xF052)) ||
      (decide (p 0xF050 ≠ 0) && decide (p 0xF051 = 0xFFFF)) ||
      ((tb (p 0xF015).toNat 2 || decide (p 0xF053 = 1)) && decide (p 0xF052 = 0xFFFF))
  else false

/-- The lane that a lane parameter belongs to. -/
def laneOf (id : Nat) : Option Nat :=
  if inRun id 0x8100 24 then some (id - 0x8100)
  else if inRun id 0x8120 24 then some (id - 0x8120)
  else if inRun id 0x9000 24 then some (id - 0x9000)
  else none

/-- A change that would make a supervised rod SHORT in RUNNING: of its counts and thresholds (R136), or of a lane
switched off (R230). -/
def crossShort (s : State) (p : Nat → Int) (id : Nat) (v : Int) : Bool :=
  if s.st ≠ .running then false
  else if inRun id 0x6800 12 ∨ inRun id 0x6810 12 ∨ inRun id 0x6820 12 ∨ inRun id 0x6830 12 ∨ inRun id 0x6840 12 then
    let r := id % 16
    let l := (s.rodL r).filter (fun e => availSt e.2.st)
    let a : Int := l.length - p (0x6800 + r)
    let f : Int := (l.filter (fun e => e.2.fb)).length - p (0x6810 + r)
    decide (p (0x6800 + r) ≠ 0) &&
      decide ((if p (0x6810 + r) = 0 then a else min a f) < p (0x6840 + r))
  else if inRun id 0x8120 24 then
    decide (v = 0) && decide (s.pI id = 1) && lanesShort s (2 ^ (id - 0x8120))
  else false

/-- The statuses of the cross-checks, in their order (R403). -/
def crossOrder : List Nat := [0x0203, 0x0208, 0x0209, 0x0210, 0x0211, 0x0111, 0x0114]

/-- Whether an entry fails the cross-check with a status, under the parameters `p` as they would stand. (DEDUCED, log 24.) -/
def crossBad (s : State) (p : Nat → Int) (st id : Nat) (v : Int) : Bool :=
  let pn := fun i => (p i).toNat
  match st with
  | 0x0203 => crossRange p id
  | 0x0208 =>
    (decide (id = 0x1000) || (inRun id 0x4000 1024 && decide (id % 32 ≤ 1))) &&
      decide (budgetOf (pn 0x1000) < tcIn pn (staged s))
  | 0x0209 =>
    (decide (id = 0x7000) || (laneOf id).isSome) && decide (pn 0x7000 < txMin pn)
  | 0x0210 => inRun id 0x8100 24 && !genOk pn (staged s) (id - 0x8100)
  | 0x0211 =>
    (decide (id = 0x1000) && (List.range 24).any (fun k => !gapOk pn (staged s) k)) ||
      (inRun id 0x9000 24 && !gapOk pn (staged s) (id - 0x9000))
  | 0x0111 => crossShort s p id v
  | _ =>
    (inRun id 0xA020 16 || inRun id 0xA030 16 || inRun id 0xA040 16) && tb s.trp.latch (id % 16) &&
      decide (v ≠ pStand s id)

/-! ### A write (R402–R404) -/

/-- The first entry for which a test holds, with its index. -/
def firstBad (es : List (Nat × Int)) (t : Nat → Nat × Int → Bool) : Option (Nat × Nat) :=
  (es.mapIdx (fun i e => (i, e))).findSome? (fun x => if t x.1 x.2 then some (x.1, x.2.1) else none)

/-- The refusal of a write: status, index and ID of the entry (R403). `forced` overrides SPARE_SHORT (R390). (DEDUCED, log 24.) -/
def writeBad (s : State) (es : List (Nat × Int)) (forced : Bool) : Option (Nat × Nat × Nat) :=
  let own := [
    (0x0202, fun (_ : Nat) (e : Nat × Int) => (pspec e.1).isNone),
    (0x0100, fun _ e => ((pspec e.1).map PSpec.calm).getD false && !stCalm s.st),
    (0x0203, fun i e => (es.take i).any (fun d => d.1 == e.1) ||
      !(((pspec e.1).map (fun sp => valueOk e.1 sp e.2)).getD false))]
  let p := standWith s es
  match own.findSome? (fun x => (firstBad es x.2).map (fun b => (x.1, b.1, b.2))) with
  | some r => some r
  | none => (crossOrder.filter (fun st => !(forced && st == 0x0111))).findSome? (fun st =>
      (firstBad es (fun _ e => crossBad s p st e.1 e.2)).map (fun b => (st, b.1, b.2)))

/-- The rim count at which a write takes effect (R19, R184, R393, R403). -/
def writeRim (s : State) (es : List (Nat × Int)) : Nat :=
  let after := match s.params.waits.getLast? with | some w => w.rim + 1 | none => 0
  let first := max (s.frm.rims + 1) after
  let first := if es.any (fun e => e.1 == 0x7000) then max first (s.frm.rims + 5) else first
  let edge := es.any (fun e => decide (((pspec e.1).map PSpec.wait) = some PWhen.boundary))
  if edge then first + (16 - (s.frm.count + (first - s.frm.rims)) % 16) % 16 else first

/-- A parameter write (R403); `single` for PARAM_SET. -/
def paramWrite (c : Ctx) (single : Bool) (es : List (Nat × Int)) (s : State) : State :=
  if es = [] ∨ 512 < es.length then refuse c 0x0203 s
  else match writeBad s es c.h.force with
  | some (st, i, id) => finish c st (if single then [] else leBytes 2 i ++ leBytes 2 id) s
  | none =>
    let rim := writeRim s es
    let forced := c.h.force && (es.any (fun e => crossShort s (standWith s es) e.1 e.2))
    let tx := (es.find? (fun e => e.1 == 0x7000)).map (fun e =>
      (e.2.toNat, (s.frm.count + (rim - s.frm.rims)) % 2 ^ 48))
    { s with
      params := { s.params with waits := s.params.waits ++
        [{ hdr := c.h, opcode := c.op, entries := es, single := single, forced := forced, rim := rim }] }
      fir := { s.fir with txNew := tx.orElse (fun _ => s.fir.txNew) } }

/-- Whether a parameter's entry waits for an event (R403). -/
def eventId (id : Nat) : Bool := decide (((pspec id).map PSpec.wait) = some PWhen.event)

/-- One entry of a write at its rim (R403): stored for its event, or in force. -/
def Params.entry (p : Params) (e : Nat × Int) : Params :=
  if eventId e.1 then { p with event := Tab.set none e.1 (some e.2) p.event } else p.put e.1 e.2

/-- The writes that take effect at a rim, in order. -/
def writesDue (s : State) : List PWrite := s.params.waits.filter (fun w => decide (w.rim ≤ s.frm.rims))

/-- One write at its rim; a new period stops the set-point groups (R85), FORCE starts Safe Stop (R390). -/
def writeApply (w : PWrite) (s : State) : State :=
  let s1 : State := { s with
    params := w.entries.foldl Params.entry s.params
    frm := if w.entries.all (fun e => eventId e.1) then s.frm else { s.frm with cfgFrame := s.frm.count % 2 ^ 32 } }
  let s2 := if w.entries.any (fun e => e.1 == 0x1000 && decide (e.2 ≠ s.pI 0x1000)) then spStopAll s1 else s1
  if w.forced then askSafeStop 0x13 s2 else s2

/-- The writes whose rim this is. -/
def paramRim (s : State) : State :=
  let ws := writesDue s
  ws.foldl (fun (a : State) w => writeApply w a)
    { s with params := { s.params with waits := s.params.waits.filter (fun w => decide (s.frm.rims < w.rim)) } }

/-- The reply data of a write (R404). -/
def writeData (w : PWrite) (s : State) : List Byte :=
  let id := (w.entries.head?.map Prod.fst).getD 0
  leBytes 2 id ++ leBytes 2 w.entries.length ++ [BitVec.ofNat 8 (b2n (w.entries.any (fun e => eventId e.1))), 0, 0, 0] ++
    leBytes 4 s.frm.cfgFrame ++ leBytes 4 0 ++ (if w.single then leBytes 8 (toBits 64 (s.pI id)) else [])

/-- The replies of the writes of a rim: each waits for the journal (R404). -/
def writeReplies (ws : List PWrite) (s : State) : State :=
  ws.foldl (fun (a : State) w =>
    finishCommit { h := w.hdr, op := w.opcode } (writeData w a) [.param w.entries] a) s

/-! ### Reads -/

/-- A parameter with a written value that has not taken effect, and that value. -/
def pendingOf (s : State) (id : Nat) : Option Int :=
  match (s.params.waits.flatMap PWrite.entries).reverse.find? (fun e => e.1 == id) with
  | some e => some e.2
  | none => Tab.get none s.params.event id

/-- PARAM_GET. -/
def paramGet (c : Ctx) (id : Nat) (s : State) : State :=
  if (pspec id).isNone then refuse c 0x0202 s
  else
    let q := pendingOf s id
    done c (leBytes 2 id ++ [BitVec.ofNat 8 (b2n q.isSome), 0, 0, 0, 0, 0] ++ leBytes 8 (toBits 64 (s.pI id)) ++
      leBytes 8 (toBits 64 (q.getD 0))) s

/-- A value outside the range of 32 bits. -/
def wideVal (v : Int) : Bool := decide (v < -(2 ^ 31)) || decide (2 ^ 31 ≤ v)

/-- FCS-1 GET_PARAM (R409). -/
def getParam1 (c : Ctx) (id : Nat) (s : State) : State :=
  if (pspec id).isNone then refuse c 0x0202 s
  else
    let q := pendingOf s id
    done c (leBytes 2 id ++ [BitVec.ofNat 8 (b2n q.isSome + 4 * b2n (wideVal (s.pI id) || wideVal (q.getD 0))),
      0, 0, 0, 0, 0] ++ leBytes 4 (toBits 32 (s.pI id)) ++ leBytes 4 (toBits 32 (q.getD 0))) s

/-- The 24 bytes of an ID in the buffer of PARAM_BLOCK_GET. -/
def blockGetBytes (s : State) (id : Nat) : List Byte :=
  if (pspec id).isNone then leBytes 2 id ++ List.replicate 22 0
  else
    let q := pendingOf s id
    leBytes 2 id ++ [BitVec.ofNat 8 (1 + 2 * b2n q.isSome), 0, 0, 0, 0, 0] ++ leBytes 8 (toBits 64 (s.pI id)) ++
      leBytes 8 (toBits 64 (q.getD 0))

/-- PARAM_BLOCK_GET. -/
def paramBlockGet (c : Ctx) (first count : Nat) (b : OutBuf) (s : State) : State :=
  if count = 0 ∨ 4096 < count ∨ 0x10000 < first + count then refuse c 0x0203 s
  else toBuffer c b ((List.range count).flatMap (fun i => blockGetBytes s (first + i))) (leBytes 4 (24 * count)) id s

/-! ### Calibration and diagnostics (R55, R408) -/

/-- ADC_CAL. -/
def adcCal (c : Ctx) (s : State) : State :=
  if s.adc.cal.isSome then refuse c 0x0301 s
  else if convUp s = 0 then refuse c 0x0302 s
  else { s with adc := { s.adc with cal := some (c.h, c.op, c.h.time, convUp s) } }

/-- STATS_CLEAR: it waits for the rim. -/
def statsClear (c : Ctx) (s : State) : State :=
  { s with frm := { s.frm with stats := s.frm.stats ++ [(c.h, c.op)] } }

/-- STATS_CLEAR at its rim (R408). -/
def statsRim (s : State) : State :=
  if s.frm.stats = [] then s
  else
    s.frm.stats.foldl (fun (a : State) x => done { h := x.1, op := x.2 } [] a)
      { s with frm := { s.frm with stats := [], slackMin := 0x7FFF, stMax := 60 :: List.replicate 6 0 } }

/-! ### Rows -/

/-- Row PARAM_GET. -/
def hostParamGet (h : CmdHdr) (id : Nat) : State → State :=
  let c : Ctx := { h := h, op := 0x0100 }
  hostCmd (.paramGet h id) c stAny (paramGet c id)

/-- Row PARAM_SET. -/
def hostParamSet (h : CmdHdr) (id : Nat) (v : Int) : State → State :=
  let c : Ctx := { h := h, op := 0x0101 }
  hostCmd (.paramSet h id v) c stUp (paramWrite c true [(id, v)])

/-- Row PARAM_BLOCK_SET. -/
def hostParamBlockSet (h : CmdHdr) (es : List (Nat × Int)) : State → State :=
  let c : Ctx := { h := h, op := 0x0102 }
  hostCmd (.paramBlockSet h es) c stUp (paramWrite c false es)

/-- Row PARAM_BLOCK_GET. -/
def hostParamBlockGet (h : CmdHdr) (first count : Nat) (b : OutBuf) : State → State :=
  let c : Ctx := { h := h, op := 0x0103 }
  hostCmd (.paramBlockGet h first count b) c stAny (paramBlockGet c first count b)

/-- Row FCS-1 GET_PARAM. -/
def hostFcs1GetParam (h : CmdHdr) (id : Nat) : State → State :=
  let c : Ctx := { h := h, op := 0x10010 }
  hostCmd (.fcs1GetParam h id) c stAny (getParam1 c id)

/-- Row FCS-1 SET_PARAM. -/
def hostFcs1SetParam (h : CmdHdr) (id : Nat) (v : Int) : State → State :=
  let c : Ctx := { h := h, op := 0x10011 }
  hostCmd (.fcs1SetParam h id v) c stUp (paramWrite c true [(id, v)])

/-- Row FCS-1 LOAD_PARAMS: 1 to 255 entries (R409). -/
def hostFcs1LoadParams (h : CmdHdr) (es : List (Nat × Int)) : State → State :=
  let c : Ctx := { h := h, op := 0x10012 }
  hostCmd (.fcs1LoadParams h es) c stUp (fun s =>
    if 255 < es.length then refuse c 0x0203 s else paramWrite c false es s)

/-- Row ADC_CAL. -/
def hostAdcCal (h : CmdHdr) : State → State :=
  let c : Ctx := { h := h, op := 0x0C00 }
  hostCmd (.adcCal h) c (stIs .maintenance) (adcCal c)

/-- Row FCS-1 CALIBRATE. -/
def hostFcs1Calibrate (h : CmdHdr) : State → State :=
  let c : Ctx := { h := h, op := 0x10080 }
  hostCmd (.fcs1Calibrate h) c (stIs .maintenance) (adcCal c)

/-- Row STATS_CLEAR. -/
def hostStatsClear (h : CmdHdr) : State → State :=
  let c : Ctx := { h := h, op := 0x0F00 }
  hostCmd (.statsClear h) c stAny (statsClear c)

/-- Row FCS-1 STATS_RESET. -/
def hostFcs1StatsReset (h : CmdHdr) : State → State :=
  let c : Ctx := { h := h, op := 0x100F0 }
  hostCmd (.fcs1StatsReset h) c stAny (statsClear c)

end Sys2Proof.Machine
end

