-- ==== Sys2Proof/Machine/Pair.lean ====
section
/-! DEFINITION. The redundant pair (R312–R338): roles, messages, heartbeats, takeover, hand-over, joining, split cases,
the pair commands. -/

namespace Sys2Proof.Machine

open Sys2Proof

/-! ### Roles (R312, R333) -/

/-- PAIR_EN in force: a partner is considered. -/
def paired (s : State) : Bool := decide (s.p 0xB000 = 1)

/-- The device follows an active partner. -/
def follows (s : State) : Bool := decide (s.pair.role = .standby) || decide (s.pair.role = .joining)

/-- A new role; what a hand-over had under way ends with it. -/
def setRole (r : Role) (synced : Bool) (step : Nat) (s : State) : State :=
  { s with pair := { s.pair with
    role := r, last := s.frm.count, synced := synced, step := step, progress := 0, hover := false, hoverAck := false,
    hoverReq := none, hoverGo := false, splitRun := 0, crcRun := 0, gridRun := 0, inRod := none, inCell := [],
    inLoop := [], inObs := [], inDev := none } }

/-- JOINING from step 1 (R332, R333). -/
def joinStart (s : State) : State :=
  let s1 := if s.pair.role = .joining then
      { s with pair := { s.pair with step := 1, progress := 0 } }
    else setRole .joining false 1 s
  { s1 with pair := { s1.pair with image := [], imageDone := false, rotation := 0 } }

/-- DETACHED (R313, R332, R334, R336). -/
def detach (s : State) : State := if s.pair.role = .detached then s else setRole .detached false 0 s

/-- The lanes in OBSERVE go to ACTIVE with the launch of R325 (R324, R328). -/
def lanesTake (s : State) : State :=
  { s with
    lnk := { s.lnk with lanes := s.lnk.lanes.map (fun l =>
      if l.st = 7 then { l with st := 6, losRun := 0, locked := true } else l) }
    pair := { s.pair with lanes := s.pair.lanes.map (fun x => { x with launch := 768 - x.delta }) } }

/-- ACTIVE by takeover or hand-over (R324, R325, R328). -/
def takeRole (s : State) : State :=
  let s1 := lanesTake (setRole .active false 0 s)
  { s1 with pair := { s1.pair with missed := 0, imageSent := false } }

/-! ### Messages received (R316) -/

/-- A message of a partner link: discarded and counted where it fails its checks, and taken once of the two links. -/
def pairMsg (p : PHdr) (f : State → State) (s0 : State) : State :=
  if paired s0 = false ∨ s0.st = .off ∨ s0.pair.links.getD p.link false = false then s0
  else
    let s := s0.at (p.time / 16)
    if p.good = false then { s with pair := { s.pair with bad := satAdd 16 s.pair.bad 1 } }
    else if s.pair.mseqRx.contains p.mseq then s
    else f { s with pair := { s.pair with mseqRx := (p.mseq :: s.pair.mseqRx).take 64 } }

/-- The message arrives in the frame of the sender that it belongs to. -/
def inFrame (p : PHdr) (s : State) : Bool := decide (p.fn % 2 ^ 16 = s.frm.count % 2 ^ 16)

/-- Two devices of one name (R313). -/
def sameName (sys : Nat) (s : State) : State :=
  if sys = b2n s.pair.sys then
    if s.pair.sameSys then s
    else detach (raise 0x0B 0 4 0 { s with pair := { s.pair with sameSys := true } })
  else { s with pair := { s.pair with sameSys := false } }

/-- TABLE_CRC: the CRC over bytes 0x20–0x23 of every entry (R318). -/
def tableCrc (d : Dev) : Nat :=
  crc32c ((List.range 6144).flatMap (fun k => leBytes 4 (cellWord (Tab.get Entry.reset d.cells k) 8)))

/-- PAIR_TABLE_DIFF: the difference has lasted 16 frames; it is raised once (R323). -/
def pairTableDiff (s : State) : State :=
  if s.pair.crcRun = 16 then raise 0x0B 0 7 0 { s with pair := { s.pair with crcRun := 17 } } else s

/-- The comparison of TABLE_CRC for a rim (R323). -/
def tableCompare (crc : Nat) (s : State) : State :=
  if tableCrc s.pub = crc then { s with pair := { s.pair with crcRun := 0 } }
  else pairTableDiff { s with pair := { s.pair with
    diffTable := satAdd 16 s.pair.diffTable 1, crcRun := if s.pair.crcRun < 16 then s.pair.crcRun + 1 else s.pair.crcRun } }

/-- What every HB gives: RX_OFS, the grid offset, GRID_OK and what the partner says of itself (R318, R321). The halves
are rounded in an open direction (DESIGN CHOICE, log 3). -/
def hbFields (p : PHdr) (m : HbMsg) (s : State) : State :=
  let rx := satS 16 ((p.time : Int) - 16 * s.frm.g)
  let diff := if acts s then rx - m.rxOfs else m.rxOfs - rx
  let g := openDiv 17 diff 2
  { s with
    trp := if follows s && decide (m.role = 1) then { s.trp with seq := m.tripSeq % 256 } else s.trp
    pair := { s.pair with
      rxOwn := rx, rxPtnr := m.rxOfs, offset := g, cable := openDiv 18 (rx + m.rxOfs) 2 - 768,
      gridOk := follows s && decide (g.natAbs ≤ 64), ptnrRole := m.role % 8, ptnrDev := m.devState % 16,
      ptnrSync := m.synced, ptnrRel := m.release, ptnrCrc := some m.tableCrc, ptnrTrip := m.tripSeq, hbRun := 0,
      heardActive := s.pair.heardActive || decide (m.role = 1), imageSent := s.pair.imageSent && decide (m.role = 2) } }

/-- The heartbeat of the last rim, inside its window (R324), and the state it carries (R320). -/
def hbActive (p : PHdr) (m : HbMsg) (s : State) : State :=
  let now := decide (m.fn = lastFrame s.toDev)
  let s1 := { s with pair := { s.pair with
    hbLink := s.pair.hbLink || (now && decide (16 * s.frm.g ≤ p.time) && decide (p.time < 16 * (s.frm.g + 300))),
    inDev := if inFrame p s then some m.devState else s.pair.inDev } }
  if now && decide (s.pair.role = .standby) then tableCompare m.tableCrc s1 else s1

/-- A hand-over that does not come ends in the standby too (R328). -/
def standbyVoid (s : State) : State :=
  let s1 := { s with pair := { s.pair with hover := false, hoverAck := false, hoverWhy := none } }
  match s.pair.hoverWhy with
  | some (.switch h) => refuse { h := h, op := 0x0901 } 0x0803 s1
  | _ => s1

/-- The announcement of a hand-over as the standby reads it (R328). -/
def hbHover (m : HbMsg) (s : State) : State :=
  if s.pair.role ≠ .standby then s
  else if m.hover then
    if s.pair.synced && !(s.pair.hoverAck && decide (s.pair.hoverFn = m.hoverFn)) then
      ({ s with pair := { s.pair with hover := true, hoverFn := m.hoverFn, hoverAck := true } }).tell (.hoverAck m.hoverFn)
    else s
  else if (s.pair.hoverAck || s.pair.hoverWhy.isSome) && decide (s.pair.hoverFn ≤ m.fn) then standbyVoid s
  else s

/-- HB (R318). -/
def hbTake (p : PHdr) (m : HbMsg) (s : State) : State :=
  let s1 := sameName m.sys (hbFields p m s)
  if follows s1 && decide (m.role = 1) then hbHover m (hbActive p m s1) else s1

/-- ROD (R320): it acts at the next rim. -/
def rodTake (p : PHdr) (rods : List RodRec) (phases : List Nat) (s : State) : State :=
  if follows s && inFrame p s then { s with pair := { s.pair with inRod := some (rods, phases) } } else s

/-- CELL (R320). -/
def cellTake (p : PHdr) (l : List CellRec) (s : State) : State :=
  if follows s && inFrame p s then { s with pair := { s.pair with inCell := s.pair.inCell ++ l } } else s

/-- LOOP (R322); a rotation record counts in step 6 of joining. -/
def loopTake (p : PHdr) (l : List LoopRec) (s : State) : State :=
  if follows s && inFrame p s then
    { s with pair := { s.pair with inLoop := s.pair.inLoop ++ l, rotation := s.pair.rotation + l.length,
                                   progress := if s.pair.step = 6 then s.pair.progress + l.length else s.pair.progress } }
  else s

/-- OBS (R322). -/
def obsTake (p : PHdr) (l : List ObsRec) (s : State) : State :=
  if follows s && inFrame p s then
    { s with pair := { s.pair with inObs := s.pair.inObs ++ l, rotation := s.pair.rotation + l.length,
                                   progress := if s.pair.step = 6 then s.pair.progress + l.length else s.pair.progress } }
  else s

/-- MIRROR (R329): the follower stores the command, accepted by its mirror, and answers. An empty packet is a fresh
start of the pair (R372). (DEDUCED, log 40.) -/
def mirrorTake (pair gen seq : Nat) (bytes : List Byte) (s : State) : State :=
  if follows s = false then s
  else
    let s1 := s.tell (.mirAck pair seq)
    if bytes = [] then s1.modPair pair (fun p => { p with gen := gen, next := seq, window := [] })
    else if (winOf s pair seq).isSome then s1
    else
      let f : Fly := { pair := pair, gen := gen, seq := seq, crc := pktCrc gen bytes, opcode := pktOp bytes,
                       tag := pktTag gen bytes, packet := bytes, basis := 1, mirror := false, jseq := 0, since := s.now,
                       exec := false, old := false }
      let s2 := s1.modPair pair (RPair.take seq f.crc 1)
      judgeForm f { s2 with hif := { s2.hif with fly := s2.hif.fly ++ [f] } }

/-- A mirrored command is accepted (R329, R381). The rounding of the mirror time is open (DESIGN CHOICE, log 3). -/
def mirAckCmd (pair seq t : Nat) (s : State) : State :=
  match s.hif.fly.find? (fun f => f.pair == pair && f.seq == seq && f.mirror && f.basis == 0) with
  | some f =>
    accept 1 f { s with pair := { s.pair with mirT := min 0xFFFF (openDiv 16 (16 * ((t : Int) - f.since)) 1000).toNat } }
  | none => s

/-- A mirrored fresh start opens its pair (R372). -/
def mirAckOpen (pair seq : Nat) (s : State) : State :=
  match s.hif.openReq with
  | some o => if o.pair = pair ∧ o.fresh = some seq ∧ o.jseq = 0 then openPair o s else s
  | none => s

/-- MIR_ACK (R329). -/
def mirAckTake (pair seq t : Nat) (s : State) : State :=
  if acts s then mirAckOpen pair seq (mirAckCmd pair seq t (s.at t)) else s

/-- EXEC in the follower (R330): stored and acknowledged; the command may execute. -/
def execTake (pair seq num : Nat) (s : State) : State :=
  if follows s = false then s
  else
    let more := if (flyOf s pair seq).isSome then [(num, pair, seq, true)] else []
    ({ s with pair := { s.pair with execNo := num, execs := s.pair.execs ++ more } }).tell (.execAck num)

/-- EXEC_ACK in the active device (R330). -/
def execAckTake (num : Nat) (s : State) : State :=
  if acts s then
    { s with pair := { s.pair with execs := s.pair.execs.map (fun e => if e.1 = num then (e.1, e.2.1, e.2.2.1, true) else e) } }
  else s

/-- IMAGE in a joining device (R332); how many bytes it counts in PAIR_JOIN is open (DESIGN CHOICE, log 2). -/
def imageTake (m : ImageMsg) (s : State) : State :=
  if s.pair.role = .joining then
    let s1 := s.draw
    { s1 with pair := { s1.pair with image := s1.pair.image ++ [m], imageDone := s1.pair.imageDone || m.last,
                                     progress := if s.pair.step = 3 then s1.pair.progress + s.freeV else s1.pair.progress } }
  else s

/-- The partner's level and silicon fit (R332). -/
def helloFits (m : HelloMsg) (s : State) : Bool :=
  decide (m.compat = s.pwr.compat) && decide (s.pwr.compat / 256 ≤ m.rev)

/-- HELLO (R314, R332). -/
def helloTake (m : HelloMsg) (s : State) : State :=
  let bad := !helloFits m s
  let s1 := sameName m.sys { s with pair := { s.pair with
    heardHello := true, helloBad := bad, imageSent := false, ptnrPres := true,
    lanes := s.pair.lanes.mapIdx (fun k x => { x with ptnrLat := m.latDev.getD k 0 }) } }
  if bad && decide (s1.pair.role = .joining) then detach (raise 0x0B 0 5 0 s1) else s1

/-- HOVER_ACK (R328): it counts up to the guard of the announced rim. -/
def hoverAckTake (fn : Nat) (s : State) : State :=
  if s.pair.role = .active ∧ s.pair.hover = true ∧ fn = s.pair.hoverFn ∧ s.frm.count = fn then
    { s with pair := { s.pair with hoverAck := true } }
  else s

/-! ### Heartbeat, takeover (R324) -/

/-- The takeover. -/
def takeover (s : State) : State :=
  raise 0x0B 0 1 0 (takeRole { s with pair := { s.pair with takeovers := satAdd 32 s.pair.takeovers 1 } })

/-- PAIR_LOST, once (R314, R324, R334). -/
def partnerLost (s : State) : State :=
  if s.pair.lostRaised ∨ s.pair.ptnrPres = false then s
  else raise 0x0B 0 3 0 { s with pair := { s.pair with lostRaised := true } }

/-- HEARTBEAT_JUDGE: the heartbeat of the last rim judged once (R324). -/
def heartbeatJudge (s : State) : State :=
  let p := s.pair
  if paired s = false ∨ p.hbJudged = true ∨ ¬ (p.role = .standby ∨ (p.role = .joining ∧ p.heardActive = true)) then s
  else
    let here := p.hbLink || p.hbMx
    let s1 := { s with pair := { p with
      hbJudged := true, linkLast := p.hbLink, mxLast := p.hbMx, missed := if here then 0 else min 2 (p.missed + 1),
      losses := if here then p.losses else satAdd 8 p.losses 1, lostRaised := p.lostRaised && !here } }
    if s1.pair.missed = 2 then (if p.role = .standby ∧ p.synced = true then takeover s1 else partnerLost s1) else s1

/-! ### Hand-over (R328) -/

/-- The path of a removal without a synchronised partner (R334): Safe Block by the injected path, lasers off by the rim
after. The spec names no cause code for it (DESIGN CHOICE, log 2). -/
def removalPath (s : State) : State :=
  let s1 := injectSafeBlock s.freeV 0 s.now s.draw
  { s1 with pair := { s1.pair with offAt := some (s1.frm.rims + 2) } }

/-- A hand-over is void: the cause takes its other path. -/
def handoverVoid (s : State) : State :=
  let s1 := raise 0x0B 0 0xD 0 { s with pair := { s.pair with hover := false, hoverAck := false, hoverGo := false, hoverWhy := none } }
  match s.pair.hoverWhy with
  | some (.switch h) => refuse { h := h, op := 0x0901 } 0x0803 s1
  | some .overrun => injectSafeBlock 0x07 0 s1.now s1
  | some .fault => s1
  | some .removal => removalPath s1
  | none => s1

/-- HANDOVER_JUDGE at rim m − 128 ns. -/
def handoverJudge (s : State) : State :=
  if s.pair.role = .active ∧ s.pair.hover = true ∧ s.pair.hoverGo = false ∧ s.frm.count = s.pair.hoverFn then
    if s.pair.hoverAck then { s with pair := { s.pair with hoverGo := true } } else handoverVoid s
  else s

/-- Rim m of an acknowledged hand-over in the device that gives the role away. -/
def handoverRim (s0 : State) : State :=
  let s := handoverJudge s0
  if s.pair.role = .active ∧ s.pair.hoverGo = true ∧ s.frm.count = s.pair.hoverFn then
    let s1 := setRole .standby true 0 s
    { s1 with
      lnk := { s1.lnk with lanes := s1.lnk.lanes.map (fun l => if l.st = 6 then { l with st := 7, adopted := true, light := true } else l) }
      pair := { s1.pair with switchAt := some (s1.frm.rims + 2), hbJudged := true } }
  else s

/-- HANDOVER_MONITOR_CHECK at rim m + 300 ns. -/
def handoverMonitorCheck (s : State) : State :=
  if s.pair.role = .standby ∧ s.pair.hoverAck = true ∧ s.pair.hoverFn = lastFrame s.toDev then
    if (List.range 24).any (fun k => decide ((s.ln k).st = 7) &&
        decide ((s.pair.lanes.getD k PLane.reset).mxSeen = s.frm.rims)) then standbyVoid s
    else
      let s1 := raise 0x0B 0 2 0 (takeRole { s with pair := { s.pair with handovers := satAdd 32 s.pair.handovers 1 } })
      { s1 with pair := { s1.pair with hoverAt := some s1.frm.rims, switchAt := some (s1.frm.rims + 1) } }
  else s

/-- The reply of PAIR_SWITCH once the new active device has released its first plan (R336, R408). (DEDUCED, log 44.) -/
def switchReply (s : State) : State :=
  match s.pair.switchAt with
  | some at_ =>
    if at_ ≤ s.frm.rims then
      let s1 := { s with pair := { s.pair with switchAt := none, hoverWhy := none } }
      match s.pair.hoverWhy with
      | some (.switch h) =>
        let sys := if acts s then b2n s.pair.sys else 1 - b2n s.pair.sys
        done { h := h, op := 0x0901 } (leBytes 4 sys ++ leBytes 4 (s.frm.count % 2 ^ 32)) s1
      | _ => s1
    else s
  | none => s

/-- A hand-over is asked for; it is announced at the next rim. -/
def askHandover (w : HoverWhy) (s : State) : State :=
  if s.pair.hoverReq.isSome ∨ s.pair.hover = true then s else { s with pair := { s.pair with hoverReq := some w } }

/-- The announcement that the HB of this rim carries, for the rim that ends the frame in progress. -/
def announce_ (s : State) : State :=
  match s.pair.hoverReq with
  | some w =>
    if s.pair.role = .active then
      { s with pair := { s.pair with hover := true, hoverFn := s.frm.count, hoverWhy := some w, hoverAck := false,
                                     hoverReq := none } }
    else { s with pair := { s.pair with hoverReq := none } }
  | none => s

/-! ### Monitor inputs (R320, R324, R325, R334) -/

/-- The level that a wire code orders (R242). -/
def unwire (c : Nat) : Nat := match c with | 1 => 0 | 2 => 1 | 3 => 2 | 0 => 4 | _ => 5

/-- The order that an observed frame gives the cell of a slot (R181, R242, R243). -/
def seenOrder (f : MxFrame) (slot : Nat) : Order :=
  match f.edges.find? (fun x => x.slot == slot) with
  | some x =>
    let a := unwire x.lv0
    let b := unwire x.lv1
    { code := unwire (f.codes.getD slot 0), lv0 := a, lv1 := b, e := if x.off < f.len then some x.off else none,
      part := !x.test, dep := false, test := x.test,
      ps := if x.test then 0 else if a = 1 ∨ b = 1 then 1 else if a = 2 ∨ b = 2 then 2 else 0 }
  | none => Order.flat (unwire (f.codes.getD slot 0))

/-- The oldest instant that the observer still needs. (DEDUCED, log 53.) -/
def horizon (s : State) : Nat := match s.obs.wins.getLast? with | some w => w.t0 | none => s.frm.g

/-- The plan of a lane as the standby observed it (R177, R320). -/
def observePlan (k : Nat) (f : MxFrame) (s : State) : State :=
  let ks := (s.laneL k).map Prod.fst
  let take := fun (_ : Nat) (e : Entry) =>
    if e.bound && e.lane == k then
      Entry.order (s.frm.g + f.tx) (horizon s) (hardFrame s e.rod) (seenOrder f e.slot) e
    else e
  markDirty ks { s with cells := mapCells take s.cells }

/-- A WEAVE message as observed (R259): the schedule holds from its epoch on. -/
def observeWeave (k : Nat) (m : Mgt) (s : State) : State :=
  if m.mtype ≠ 5 then s
  else
    let e := bits 47 16 m.arg
    let at_ := ((s.frm.rims : Int) + sext 32 ((e + 2 ^ 32 - s.frm.count % 2 ^ 32) % 2 ^ 32)).toNat
    let w : Weave := { fc := bits 4 0 m.arg, wd := bits 8 5 m.arg, k := bits 15 9 m.arg, epoch := at_, wtag := m.tag,
                       win := (pvStored s.toDev (0x9000 + k)).toNat }
    s.modCv k (fun c => if at_ ≤ s.frm.rims then { c with weave := some w, next := none, wtag := m.tag }
                        else { c with next := some w, wtag := m.tag })

/-- A frame of the active device observed on a lane in OBSERVE. -/
def observeFrame (k : Nat) (f : MxFrame) (s : State) : State :=
  let s1 := f.mgt.foldl (fun a m => observeWeave k m a) { s with trp := { s.trp with seq := f.tripSeq % 256 } }
  if f.plan then observePlan k f s1 else s1

/-- PAIR_SPLIT: the partner's frames seen for two consecutive frames while ACTIVE (R334). The spec names no cause code
for its Safe Block (DESIGN CHOICE, log 2). -/
def pairSplit (s : State) : State :=
  let now := s.pair.lanes.any (fun x => decide (x.mxSeen = s.frm.rims) && decide (x.mxSeen ≠ 0))
  if paired s = true ∧ s.pair.role = .active ∧ (2 ≤ s.pair.splitRun ∨ (1 ≤ s.pair.splitRun ∧ now = true)) then
    detach (injectSafeBlock s.freeV 0 s.now (raise 0x0B 0 0xB 0 s.draw))
  else s

/-- MX_FS_DETECT: a frame start on a monitor input, with the frame's content where it is received whole (R324). -/
def mxFsDetect (k fn sys t : Nat) (f : Option MxFrame) (s0 : State) : State :=
  if paired s0 = false ∨ s0.st = .off ∨ 24 ≤ k ∨ sys = b2n s0.pair.sys then s0
  else
    let s := s0.at t
    let obs := decide ((s.ln k).st = 7) && decide (fn = lastFrame s.toDev)
    let path := (t : Int) - s.frm.g - 48
    let s1 := { s with pair := { s.pair with
      darkRun := 0, heardActive := s.pair.heardActive || decide (s.p (0x8120 + k) = 1),
      hbMx := s.pair.hbMx || (obs && decide (s.frm.g ≤ t) && decide (t < s.frm.g + 300)),
      lanes := modAt s.pair.lanes k (fun x => { x with
        mxSeen := s.frm.rims, mxPath := if obs then path.toNat else x.mxPath,
        mxSlow := if obs then decide (150 < path) else x.mxSlow }) } }
    let s2 := if follows s1 && obs then (match f with | some x => observeFrame k x s1 | none => s1) else s1
    pairSplit s2

/-! ### Links and presence (R317, R334) -/

/-- FCS generations in use: bit 0 FCS-1, bit 1 FCS-2 on an open pair. -/
def gensUsed (s : State) : Nat :=
  mapOf 2 (fun i => s.hif.pairs.any (fun p => p.open_ && p.gen == i + 1))

/-- PARTNER_LINK_LOCK (R317). -/
def partnerLinkLock (l : Nat) (s : State) : State :=
  if paired s = false ∨ s.st = .off ∨ 2 ≤ l ∨ s.pair.links.getD l false = true then s
  else ({ s with pair := { s.pair with links := s.pair.links.set l true, ptnrPres := true } }).tell
    (.hello { sys := b2n s.pair.sys, rev := revLetter, compat := s.pwr.compat, gens := gensUsed s,
              latDev := s.cev.lanes.map CevLane.latDev })

/-- PARTNER_LINK_DOWN (R334). -/
def partnerLinkDown (l : Nat) (s : State) : State :=
  if s.pair.links.getD l false = false then s
  else
    let s1 := { s with pair := { s.pair with links := s.pair.links.set l false, downs := satAdd 16 s.pair.downs 1 } }
    if s1.pair.links.any id then raise 0x0B l 8 0 s1
    else raise 0x0B 0 9 0 { s1 with pair := { s1.pair with heardHello := false } }

/-- MONITOR_LOST (R334): a standby loses the active device's downstream on a lane while the links remain. -/
def monitorLost (k : Nat) (s : State) : State :=
  if k < 24 ∧ s.pair.role = .standby ∧ (s.ln k).st = 7 ∧ s.pair.links.any id = true then raise 0x0B k 0xA 0 s else s

/-- BRD_PRES_HIGH: the board leaves (R334). -/
def brdPresHigh (s : State) : State :=
  if s.pair.brdPres = false then s
  else
    let s1 := { s with pair := { s.pair with brdPres := false } }
    if paired s = false ∨ s.st = .off then s1
    else
      let s2 := raise 0x0B 0 0xC 0 s1
      match s.pair.role with
      | .active => if partnerSynced s then askHandover .removal s2 else removalPath s2
      | .standby => detach s2
      | .joining => detach s2
      | _ => s2

/-- PTNR_PRES_HIGH (R334). -/
def ptnrPresHigh (s : State) : State := { s with pair := { s.pair with ptnrPres := false, lostRaised := false } }

/-! ### Start-up and joining (R314, R332, R333) -/

/-- PAIR_WAIT_END: the role that a starting device takes (R314). -/
def pairWaitEnd (s : State) : State :=
  if s.st = .starting ∧ paired s = true ∧ s.pwr.roleDone = false ∧ s.jnl.restored = true then
    let s1 := { s with pwr := { s.pwr with roleDone := true } }
    if s.pair.sameSys then detach s1
    else if s.pair.heardActive then joinStart s1
    else if s.pair.heardHello && s.pair.sys then joinStart s1
    else setRole .active false 0 s1
  else s

/-- The image applied to a joining device's own tables (R332). -/
def imageApply (s : State) : State :=
  let ms := s.pair.image
  let s1 : State := ms.foldl (fun (a : State) m => paramRestore m.params a) s
  let s2 : State := ms.foldl (fun (a : State) m => m.cells.foldl (fun (b : State) x => nvRestore x.1 x.2 b) a) { s1 with cells := [] }
  let s3 : State := ms.foldl (fun (a : State) m => m.ramps.foldl (fun (b : State) e => spAppend e 0 b) a) (spStopAll s2)
  let s4 : State := ms.foldl (fun (a : State) m => m.window.foldl (fun (b : State) w =>
    winRestore w.pair w.seq w.crc w.basis (w.reply.map (fun r =>
      ({ pair := w.pair, seq := w.seq, opcode := r.1, status := r.2.2.1, tag := r.2.1, dup := false, basis := 0, final := true,
         data := r.2.2.2 } : Reply))) b) a) s3
  let flyOf' : Nat × Nat × Nat × List Byte → Fly := fun c =>
    { pair := c.1, gen := c.2.1, seq := c.2.2.1, crc := pktCrc c.2.1 c.2.2.2, opcode := pktOp c.2.2.2,
      tag := pktTag c.2.1 c.2.2.2, packet := c.2.2.2, basis := 1, mirror := false, jseq := 0, since := s.now, exec := false,
      old := false }
  let s5 : State := ms.foldl (fun (a : State) m =>
    { a with hif := { a.hif with fly := a.hif.fly ++ m.cmds.map flyOf' } }) s4
  ms.foldl (fun (a : State) m => { a with hif := { a.hif with
    pairs := a.hif.pairs.mapIdx (fun k p => { p with next := m.next.getD k p.next }) } }) s5

/-- Enabled slots, ascending. -/
def slotsOn (s : State) : List Nat := (List.range 32).filter (fun k => decide (s.p (0x4000 + 32 * k) = 1))

/-- The next step of joining. -/
def joinTo (n : Nat) (s : State) : State := { s with pair := { s.pair with step := n, progress := 0 } }

/-- The enabled lanes are in OBSERVE. -/
def allObserve (s : State) : Bool :=
  (List.range 24).all (fun k => decide (s.p (0x8120 + k) = 0) || decide ((s.ln k).st = 7))

/-- JOIN_STEP_DONE: the step in progress is complete (R332). -/
def joinStepDone (s : State) : State :=
  if s.pair.role ≠ .joining then s
  else match s.pair.step with
    | 1 =>
      if s.pair.links.any id && s.pair.heardHello && !s.pair.helloBad then
        joinTo 2 (syncArm { s with pll := { s.pll with syncDone := false } })
      else s
    | 2 => if s.pll.syncDone && s.pair.gridOk then joinTo 3 s else s
    | 3 => if s.pair.imageDone then joinTo 4 (compactStart none (imageApply s)) else s
    | 4 => if s.jnl.compact then s else joinTo 5 s
    | 5 => if allObserve s then joinTo 6 { s with pair := { s.pair with rotation := 0 } } else s
    | 6 =>
      if (slotsOn s).length + s.boundL.length ≤ s.pair.rotation ∧ s.pair.lanes.any (fun x => x.skew) = false then
        setRole .standby true 0 s
      else s
    | _ => s

/-- PAIR_JOIN_SLOW (R332). -/
def pairJoinSlow (s : State) : State := if s.pair.role = .joining then joinStart (raise 0x0B 0 6 0 s) else s

/-- SYNCED_LOSS (R333). (DEDUCED, log 43.) -/
def syncedLoss (s : State) : State :=
  if s.pair.role = .standby ∧ (s.p 0xB003 < s.pair.hbRun ∨ 1024 ≤ s.pair.gridRun ∨
      s.pair.lanes.any (fun x => x.skew) = true) then joinStart s
  else s

/-! ### Followers at the rim (R320, R322) -/

/-- An entry takes the words that a CELL message carries of R320's row. -/
def cellAdopt (g : Nat) (ws : List (Nat × BitVec 32)) (e0 : Entry) : Entry :=
  ws.foldl (fun (e : Entry) w =>
    let x := w.2.toNat
    match w.1 with
    | 0 => { e with id := e.id / 2 ^ 32 * 2 ^ 32 + x }
    | 1 => { e with id := bits 15 0 x * 2 ^ 32 + e.id % 2 ^ 32, disp := bits 25 24 x, hw := bits 23 20 x, gen := bits 19 16 x }
    | 3 => { e with wear := bits 23 22 x }
    | 8 =>
      let e1 := if bits 3 0 x = e.st then { e with cause := bits 23 16 x } else e.enter g (bits 3 0 x) (bits 23 16 x)
      { e1 with missed := bits 31 24 x, skips := bits 15 8 x }
    | 9 => { e with delay := bits 15 0 x }
    | _ => e) e0

/-- A CELL record at its rim; a changed non-volatile part goes into the device's own journal. -/
def cellAdoptAt (c : CellRec) (s : State) : State :=
  let old := s.ent c.entry
  let new := cellAdopt s.frm.g c.words old
  if 6144 ≤ c.entry then s
  else if new.nvHead = old.nvHead then s.setEnt c.entry new
  else nvRule c.entry (fun _ => new) s

/-- The rods of a ROD message at their rim: carry, sense, rest, previous partial cell, vc_last, and the phases. -/
def rodAdopt (rods : List RodRec) (phases : List Nat) (s : State) : State :=
  { s with
    fir := { s.fir with rods := s.fir.rods.mapIdx (fun r x => match rods[r]? with
      | some m => { x with carry := m.carry, vcLast := m.vcLast }
      | none => x) }
    rnk := { s.rnk with rods := s.rnk.rods.mapIdx (fun r x => match rods[r]? with
      | some m => { x with rest := m.rest, neg := decide (m.sigma < 0),
                           prev := m.partEnt.map (fun k => (k, if m.partPos then 1 else 2)),
                           blk := decide (m.release = 3) || (decide (m.release = 2) && decide (s.trp.act.getD r 0 ≠ 3)) ||
                             (decide (m.release = 1) && x.blk) }
      | none => x) }
    ref := { s.ref with ncos := s.ref.ncos.mapIdx (fun i o => { o with phase := phases.getD i o.phase }) }
    cells := mapCells (fun k e => match rods[e.rod]? with
      | some m => if e.bound && e.ord.part && m.partEnt != some k then
          { e with part := false, ord := { e.ord with part := false, dep := true } } else e
      | none => e) s.cells }

/-- A section corrected by a difference, at the least exponent, and normalised (R95, R322). -/
def sectAdopt (v a o : Sect) : Sect :=
  let e := min v.e (min a.e o.e)
  let at_ := fun (x : Sect) (m : Int) => shl m (x.e - e).toNat
  let w1 := at_ v v.w1 + at_ a a.w1 - at_ o o.w1
  let w2 := at_ v v.w2 + at_ a a.w2 - at_ o o.w2
  let sh := ((List.range 300).find? (fun n => decide ((rshr w1 n).natAbs < 2 ^ 23) && decide ((rshr w2 n).natAbs < 2 ^ 23))).getD 300
  { w1 := rshr w1 sh, w2 := rshr w2 sh, e := min 127 (e + sh) }

/-- A value corrected by a difference (R322). -/
def bfpAdopt (v a o : Bfp) : Bfp := (bfpSum [v, a, { m := -o.m, e := o.e }]).1

/-- A LOOP record at its rim. -/
def loopAdopt (r : LoopRec) (s : State) : State :=
  match s.pair.ownLoop.find? (fun x => x.slot == r.slot) with
  | some o =>
    { s with ctl := { s.ctl with slots := modAt s.ctl.slots r.slot (fun x => { x with
      out0 := bfpAdopt x.out0 r.out0 o.out0, out1 := bfpAdopt x.out1 r.out1 o.out1,
      count := (satU 16 ((x.count : Int) + r.count - o.count)),
      sects := x.sects.mapIdx (fun j v => sectAdopt v (r.sects.getD j v) (o.sects.getD j v)) }) } }
  | none => s

/-- An OBS record at its rim. -/
def obsAdopt (r : ObsRec) (s : State) : State :=
  let e := s.ent r.entry
  if e.bound = false then s
  else
    let own := ((s.pair.ownV.find? (fun x => x.1 == r.entry)).map Prod.snd).getD e.v
    let e1 := { e with v := e.v + r.v - own, seeded := e.seeded || decide (r.v ≠ 0), sqq := r.sqq, sqv := r.sqv, nq := r.nq,
                       trend := r.trend }
    if e.cEst = r.cEst then s.setEnt r.entry e1
    else markDirty [r.entry] (s.setEnt r.entry ({ e1 with cEst := r.cEst }.touch))

/-- The loop states as a LOOP record carries them (R317). -/
def loopRec (s : State) (k : Nat) : LoopRec :=
  let x := s.ctl.slots.getD k Slot.reset
  { slot := k, out0 := x.out0, out1 := x.out1, count := x.count, flags := ctlReg s.toDev (0x10C + 32 * k), sects := x.sects }

/-- The observer's state of an entry as an OBS record carries it. -/
def obsRec (e : Nat × Entry) : ObsRec :=
  { entry := e.1, v := e.2.v, cEst := e.2.cEst, sqq := e.2.sqq, sqv := e.2.sqv, nq := e.2.nq, trend := e.2.trend }

/-- The device state that a code names (R318). -/
def devOf (c : Nat) : DevState :=
  match c with
  | 0 => .off | 1 => .starting | 2 => .ready | 3 => .blocked | 4 => .running | 5 => .safeStop | 6 => .safeBlocked
  | _ => .maintenance

/-- The device state of the active partner's last HB (R320). -/
def devAdopt (s : State) : State :=
  match s.pair.inDev with
  | some c =>
    let s1 := { s with pair := { s.pair with inDev := none } }
    if decide (s.pair.role = .standby) && decide (s.st ≠ .off) && decide (s.st ≠ .starting) && decide (2 ≤ c) && decide (c ≤ 7) then
      { s1 with st := devOf c } else s1
  | none => s

/-- What the followed messages of the frame that ends do at its rim. No message carries the partner's rod currents, so
what PAIR_DIFF.ROD counts of a frame is open (DESIGN CHOICE, log 2). -/
def followRim (s : State) : State :=
  if follows s = false then s
  else
    let s1 := match s.pair.inRod with | some (rs, ph) => rodAdopt rs ph s | none => s
    let s2 : State := s.pair.inCell.foldl (fun (a : State) c => cellAdoptAt c a) s1
    let s3 : State := s.pair.inLoop.foldl (fun (a : State) r => loopAdopt r a) s2
    let s4 : State := s.pair.inObs.foldl (fun (a : State) r => obsAdopt r a) s3
    let n := s4.freeV % 13
    let s5 := s4.draw
    { s5 with pair := { s5.pair with
      inRod := none, inCell := [], inLoop := [], inObs := [], diffRod := satAdd 16 s5.pair.diffRod n,
      ownLoop := (slotsOn s5).map (loopRec s5), ownV := s5.boundL.map (fun e => (e.1, e.2.v)) } }

/-- The cells of lanes in OBSERVE whose plan was not observed in the frame that ended hold (R320); `old` is the state
before the rim. -/
def unseenHold (old s : State) : State :=
  if follows s = false then s
  else
    let hold := fun (k : Nat) (e : Entry) =>
      if e.bound && decide ((s.ln e.lane).st = 7) && decide ((s.pair.lanes.getD e.lane PLane.reset).mxSeen ≠ s.frm.rims) then
        let t0 := old.frm.g + old.fir.tx
        Entry.order t0 (horizon s) (hardFrame s e.rod) (heldOrder t0 old.frm.len (old.ent k) e) e
      else e
    { s with cells := mapCells hold s.cells }

/-- δ of a lane over the clean bursts of the last 1,024 frames (R325). Its rounding is open (DESIGN CHOICE, log 3). -/
def deltaRim (rims : Nat) (x : PLane) : PLane :=
  let l := x.samples.filter (fun y => decide (rims < y.1 + 1024))
  if l = [] then { x with samples := [] }
  else
    let d := openDiv 15 (sumI (l.map Prod.snd)) (100 * l.length)
    { x with samples := l, delta := satS 12 d, skew := decide (640 < d.natAbs) }

/-- The runs of frames that a rim counts, and what they decide (R324, R333, R334, R336); it stands before the frame
counter advances. (DEDUCED, log 43.) -/
def pairRuns (s : State) : State :=
  if paired s = false then s
  else
    let seen := s.pair.lanes.any (fun x => decide (x.mxSeen = s.frm.rims) && decide (x.mxSeen ≠ 0))
    let s1 := heartbeatJudge (handoverMonitorCheck (pairSplit s))
    syncedLoss { s1 with pair := { s1.pair with
      hbRun := s1.pair.hbRun + 1, darkRun := s1.pair.darkRun + 1, hbLink := false, hbMx := false, hbJudged := false,
      gridRun := if s1.pair.gridOk then 0 else s1.pair.gridRun + 1,
      splitRun := if s1.pair.role = .active ∧ seen = true then s1.pair.splitRun + 1 else 0,
      lanes := if follows s1 then s1.pair.lanes.map (deltaRim s1.frm.rims) else s1.pair.lanes } }

/-! ### Sending (R317–R319) -/

/-- HB of this rim. -/
def hbOf (rel : List Nat) (s : State) : HbMsg :=
  { fn := lastFrame s.toDev, role := roleCode s.pair.role, devState := devCode s.st, sys := b2n s.pair.sys,
    synced := decide (s.pair.role = .standby) && s.pair.synced,
    hover := if s.pair.role = .active then s.pair.hover else s.pair.hoverAck, leaving := !s.pair.brdPres,
    rxOfs := s.pair.rxOwn, hoverFn := if s.pair.hover then s.pair.hoverFn else 0, execNo := s.pair.execNo,
    tripSeq := s.trp.seq, release := pack (rel.mapIdx (fun r x => (2 * r, x))), tableCrc := tableCrc s.toDev,
    laser := mapOf 24 (fun k => laserOn s k (s.ln k)) }

/-- ROD of this rim. -/
def rodRecs (rel : List Nat) (s : State) : List RodRec :=
  (List.range 12).map (fun r =>
    let x := s.rnk.rods.getD r RnkRod.reset
    let f := s.fir.rods.getD r FirRod.reset
    { carry := f.carry, sigma := if x.neg then -1 else 1, rest := x.rest, partEnt := x.prev.map Prod.fst,
      partPos := decide ((x.prev.map Prod.snd) = some 1), vcLast := f.vcLast, release := rel.getD r 3 })

/-- The words of an entry that CELL carries (R320). (DEDUCED, log 42.) -/
def cellWordNos : List Nat := [0, 1, 3, 8, 9]

/-- The changed words of an entry against the last publication, as a mask. -/
def changedWords (old new : Entry) : Nat := maskOf (cellWordNos.filter (fun w => cellWord old w != cellWord new w))

/-- Entries and words that still wait for a CELL message, joined with those that changed. -/
def cellWaits (s : State) : List (Nat × Nat) :=
  let old := s.pair.cellTodo
  let new := (s.cells.map (fun e => (e.1, changedWords (Tab.get Entry.reset s.pub.cells e.1) e.2))).filter (fun x => decide (x.2 ≠ 0))
  old.map (fun x => (x.1, bor x.2 (((new.find? (fun y => y.1 == x.1)).map Prod.snd).getD 0))) ++
    new.filter (fun x => !old.any (fun y => y.1 == x.1))

/-- The entries that fit the reserve of 80 bytes: 4 bytes of index and mask, and 4 for each word (R317). -/
def cellFit : Nat → List (Nat × Nat) → List (Nat × Nat)
  | _, [] => []
  | room, x :: xs => let n := 4 + 4 * popN 16 x.2; if n ≤ room then x :: cellFit (room - n) xs else []

/-- CELL of this rim. (DEDUCED, log 42.) -/
def cellSend (s : State) : State :=
  let todo := cellWaits s
  let now := cellFit 80 todo
  let s1 := { s with pair := { s.pair with cellTodo := todo.drop now.length } }
  if now = [] then s1
  else s1.tell (.cell (now.map (fun x => { entry := x.1, words := (bitsOf 16 x.2).map (fun w =>
    (w, BitVec.ofNat 32 (cellWord (s.ent x.1) w))) })))

/-- The next `n` of an ascending rotation from a position on, and the position after them. -/
def rotate (l : List Nat) (pos n : Nat) : List Nat × Nat :=
  let r := (l.filter (fun x => decide (pos ≤ x)) ++ l.filter (fun x => decide (x < pos))).take n
  (r, match r.getLast? with | some x => x + 1 | none => 0)

/-- LOOP and OBS of this rim: equal shares of what the fixed messages leave of the frame (R317, R319). (DEDUCED, log 41.) -/
def rotationSend (s : State) : State :=
  let room := (1280 * 2 ^ s.frm.period - 368) / 2
  let a := rotate (slotsOn s) s.pair.rotLoop (room / 72)
  let b := rotate (s.boundL.map Prod.fst) s.pair.rotObs (room / 48)
  let s1 := { s with pair := { s.pair with rotLoop := a.2, rotObs := b.2 } }
  (s1.tell (.loop (a.1.map (loopRec s)))).tell (.obs (b.1.map (fun k => obsRec (k, s.ent k))))

/-- The image of this frame (R332). -/
def imageOf (s : State) : ImageMsg :=
  { params := allParams.map (fun i => (i, pvStored s.toDev i)), cells := s.boundL.map (fun e => (e.1, e.2.nvBytes)),
    ramps := s.ref.grps.flatMap (fun g => (match g.wait with | some q => [q.e] | none => []) ++ g.queue.map QEnt.e),
    cmds := (s.hif.fly.filter (fun f => f.basis ≠ 0)).map (fun f => (f.pair, f.gen, f.seq, f.packet)),
    window := s.hif.pairs.mapIdx (fun k p => p.window.map (fun w =>
      ({ pair := k, seq := w.seq, crc := w.crc, basis := w.basis,
         reply := w.reply.map (fun r => (r.opcode, r.tag, r.status, r.data)) } : ImgWin))) |>.flatten,
    next := s.hif.pairs.map RPair.next, last := true }

/-- IMAGE, once to a partner that joins; the volatile words of every bound entry follow as CELL. (DEDUCED, log 41.) (DEDUCED, log 42.) -/
def imageSend (s : State) : State :=
  if s.pair.ptnrRole = 2 ∧ s.pair.imageSent = false ∧ s.pair.links.any id = true then
    ({ s with pair := { s.pair with imageSent := true, cellTodo := s.boundL.map (fun e : Nat × Entry => (e.1, maskOf cellWordNos)) } }).tell
      (.image (imageOf s))
  else s

/-- The messages of a rim; `rel` gives the release kind of each rod. (DEDUCED, log 41.) -/
def pairSend (rel : List Nat) (s : State) : State :=
  if paired s = false ∨ s.pair.role = .solo then s
  else
    let s1 := s.tell (.hb (hbOf rel s))
    if s.pair.role = .active then
      imageSend (rotationSend (cellSend (s1.tell (.rod (rodRecs rel s) (s.ref.ncos.map Nco.phase)))))
    else s1

/-! ### Commands (R336) -/

/-- A second request for the next rim is refused while one waits. -/
def askChange (c : Ctx) (r : Role) (s : State) : State :=
  { s with pair := { s.pair with change := s.pair.change ++ [(c.h, c.op, r)] } }

/-- PAIR_SWITCH. In the standby, the mirrored command waits for the hand-over. -/
def pairSwitch (c : Ctx) (s : State) : State :=
  if s.pair.role = .standby ∧ (flyOf s c.h.pair c.h.seq).isSome = true then
    if s.pair.hoverWhy.isSome then refuse c 0x0301 s
    else { s with pair := { s.pair with hoverWhy := some (.switch c.h), hoverFn := s.frm.count + 1 } }
  else if s.pair.role ≠ .active ∨ s.pair.links.any id = false ∨ ¬ (s.pair.ptnrRole = 2 ∨ s.pair.ptnrRole = 3) then refuse c 0x0802 s
  else if partnerSynced s = false then refuse c 0x0803 s
  else if s.pair.hover = true ∨ s.pair.hoverReq.isSome = true then refuse c 0x0301 s
  else askHandover (.switch c.h) s

/-- PAIR_LEAVE. -/
def pairLeave (c : Ctx) (s : State) : State := if follows s then askChange c .detached s else refuse c 0x0805 s

/-- PAIR_CLAIM: no partner light and no good HB for 8 frames. (DEDUCED, log 43.) -/
def pairClaim (c : Ctx) (s : State) : State :=
  if acts s = false ∧ 8 < s.pair.darkRun ∧ 8 < s.pair.hbRun then askChange c .active s else refuse c 0x0806 s

/-- PAIR_REJOIN. -/
def pairRejoin (c : Ctx) (s : State) : State :=
  if s.pair.role = .detached ∧ s.pair.helloBad = false then askChange c .joining s else refuse c 0x0804 s

/-- A role change at its rim, the rim of frame `n`. A claim leaves the device in SAFE_BLOCKED; the spec names no cause
code for it (DESIGN CHOICE, log 2). -/
def roleChange (n : Nat) (r : Role) (s : State) : State :=
  match r with
  | .detached => if follows s then detach s else s
  | .joining => if s.pair.role = .detached then joinStart s else s
  | _ => if acts s then s else enterSafeBlocked s.freeV 0 n (lanesTake (setRole .active false 0 s.draw))

/-- The role changes of a rim with their replies: the new ROLE, and FRAME (R408). -/
def changeRim (n : Nat) (s : State) : State :=
  s.pair.change.foldl (fun (a : State) x =>
    let b := roleChange n x.2.2 a
    pushReply (mkReply { h := x.1, op := x.2.1 } 0 (leBytes 4 (roleCode b.pair.role) ++ leBytes 4 n)) b)
    { s with pair := { s.pair with change := [] } }

/-- Row PAIR_SWITCH. -/
def hostPairSwitch (h : CmdHdr) : State → State :=
  let c : Ctx := { h := h, op := 0x0901 }
  hostCmd (.pairSwitch h) c stUp (pairSwitch c)

/-- Row PAIR_LEAVE. -/
def hostPairLeave (h : CmdHdr) : State → State :=
  let c : Ctx := { h := h, op := 0x0902 }
  hostCmd (.pairLeave h) c stUp (pairLeave c)

/-- Row PAIR_CLAIM. -/
def hostPairClaim (h : CmdHdr) : State → State :=
  let c : Ctx := { h := h, op := 0x0903 }
  hostCmd (.pairClaim h) c stUp (pairClaim c)

/-- Row PAIR_REJOIN. -/
def hostPairRejoin (h : CmdHdr) : State → State :=
  let c : Ctx := { h := h, op := 0x0904 }
  hostCmd (.pairRejoin h) c stUp (pairRejoin c)

end Sys2Proof.Machine
end

