-- ==== Sys2Proof/Machine/Pwr.lean ====
section
/-! DEFINITION. Power domains, resets, the start-up sequence, temperature (R475–R492), SYNC_IN (R362). -/

namespace Sys2Proof.Machine

open Sys2Proof

/-! ### Resets (R476, R479–R481) -/

/-- What the flashes hold through any loss of power: the records; those not committed never will be. -/
def flashKeep (j : Jnl) : Jnl :=
  { Jnl.reset with
    recs := j.recs.map (fun r => if r.open_ then { r with void := true } else r), blocks := j.blocks, nextBlk := j.nextBlk,
    dirty := j.dirty }

/-- The whole device reset, as power-on and a loss of VDD_AON leave it (R476, R479). (DEDUCED, log 34.) (DEDUCED, log 35.) -/
def fullReset (s : State) : State :=
  { s with toDev := { Dev.reset with jnl := flashKeep s.jnl, free := s.free }, pub := Dev.reset }

/-- A reset of all but AON (R479): the trip latches and their configuration, FLT_FATAL, PWR_CAUSE, PWR_RESETS and the
retained PLL mode stay. (DEDUCED, log 34.) -/
def aonReset (cause : Nat) (s : State) : State :=
  let d : Dev := { Dev.reset with
    jnl := flashKeep s.jnl
    free := s.free
    trp := { Trp.reset with latch := s.trp.latch, cfg := s.trp.cfg, ins := s.trp.ins }
    flt := { Flt.reset with
      lines := s.flt.lines, fatalSrc := s.flt.fatalSrc, fatalKind := s.flt.fatalKind, asserted := s.flt.asserted,
      lastKind := s.flt.lastKind }
    pair := { Pair.reset with ptnrPres := s.pair.ptnrPres }
    pwr := { Pwr.reset with
      halted := s.pwr.halted, romBad := s.pwr.romBad, fatalRun := s.pwr.fatalRun, lastCause := cause,
      fatals := s.pwr.fatals, resets := satAdd 16 s.pwr.resets 1, fatalAt := s.pwr.fatalAt, limitKind := s.pwr.limitKind,
      pllMode := s.pwr.pllMode } }
  { s with toDev := d, pub := { Dev.reset with pwr := d.pwr, flt := d.flt } }

/-- POWER_ON. -/
def powerOn (s : State) : State := fullReset s

/-- POWER_LOSS. -/
def powerLoss (s : State) : State := fullReset s

/-- BOARD_RESET: held off while the power-fail sequence runs (R503). (DEDUCED, log 36.) -/
def boardReset (s : State) : State := if s.jnl.pwrFail = 1 then s else aonReset 2 s

/-- FATAL_RESTART: no line asserts any more; the fourth restart of a run halts the device (R480). `t` is in seconds. (DEDUCED, log 34.) -/
def fatalRestart (t : Nat) (s : State) : State :=
  if s.pwr.dark = false ∨ s.pwr.inReset = true then s
  else
    let s1 := { s with flt := { s.flt with asserted := 0 } }
    let n := if s.pwr.fatalRun = 0 ∨ s.pwr.fatalAt + 600 < t then 1 else s.pwr.fatalRun + 1
    if 4 ≤ n then
      let s2 := aonReset s.pwr.lastCause s1
      { s2 with pwr := { s2.pwr with
        halted := true, stopped := true, resets := s.pwr.resets, limitKind := some s.flt.lastKind } }
    else
      let s2 := aonReset 3 s1
      { s2 with pwr := { s2.pwr with fatalRun := n, fatals := satAdd 16 s.pwr.fatals 1, fatalAt := t } }

/-- DEV_RESTART_EXPIRE: 1 ms after the reply of DEV_RESTART (R479). -/
def devRestartExpire (s : State) : State := if s.pwr.restart then aonReset 4 s else s

/-- LEAVE_RESET (R481): `sys` is the level at PAIR_SEL. -/
def leaveReset (sys : Nat) (s : State) : State :=
  if s.pwr.inReset = true ∧ s.pwr.stopped = false then
    { s with
      st := .starting
      pwr := { s.pwr with inReset := false, step := 1, rails := 0x3F, on := 1 }
      pair := { s.pair with sys := decide (sys ≠ 0), brdPres := true } }
  else s

/-! ### Domains (R475, R478) -/

/-- A domain on. -/
def domainOn (d : Nat) (s : State) : State := { s with pwr := { s.pwr with on := setB s.pwr.on d true } }

/-- The switch of the next domain starts; a switch of an ADC domain ends a calibration (R60). -/
def switchStart (s : State) : State :=
  match s.pwr.switching with
  | some x =>
    match x.todo with
    | d :: _ =>
      let s1 := { s with pwr := { s.pwr with moving := 2 ^ d } }
      if d = 5 ∨ d = 6 then calAbort s1 else s1
    | [] => done { h := x.hdr, op := 0x0B00 } [] { s with pwr := { s.pwr with switching := none, moving := 0 } }
  | none => s

/-- A domain is switched off: its lanes are disabled (R230), its window is not whole (R47). -/
def domainOff (d : Nat) (s : State) : State :=
  let s1 := { s with pwr := { s.pwr with on := setB s.pwr.on d false } }
  if d = 7 then (List.range 12).foldl (fun (a : State) k => laneDomainOff k a) s1
  else if d = 8 then (List.range 12).foldl (fun (a : State) k => laneDomainOff (12 + k) a) s1
  else if d = 5 ∨ d = 6 then { s1 with adc := { s1.adc with whole := s1.adc.whole.set (d - 5) false } }
  else s1

/-- DOMAIN_SWITCHED: the next named domain follows (R478). -/
def domainSwitched (s : State) : State :=
  match s.pwr.switching with
  | some x =>
    match x.todo with
    | d :: rest =>
      let s1 := if x.on then domainOn d s else domainOff d s
      switchStart { s1 with pwr := { s1.pwr with switching := some { x with todo := rest }, moving := 0 } }
    | [] => switchStart s
  | none => s

/-- PWR_DOMAIN (R408, R477). -/
def pwrDomain (c : Ctx) (mask on : Nat) (s : State) : State :=
  let todo := (bitsOf 12 mask).filter (fun d => tb s.pwr.on d != decide (on = 1))
  if 4096 ≤ mask then refuse c 0x0201 s
  else if on = 0 ∧ stStill s.st = false then refuse c 0x0100 s
  else if (bitsOf 12 mask).any (fun d => decide (d < 5) || decide (8 < d)) = true ∨ 2 ≤ on then refuse c 0x0203 s
  else if s.pwr.switching.isSome then refuse c 0x0301 s
  else switchStart { s with pwr := { s.pwr with switching := some { hdr := c.h, on := decide (on = 1), todo := todo } } }

/-- Row PWR_DOMAIN. -/
def hostPwrDomain (h : CmdHdr) (mask on : Nat) : State → State :=
  let c : Ctx := { h := h, op := 0x0B00 }
  hostCmd (.pwrDomain h mask on) c stUp (pwrDomain c mask on)

/-- DEV_RESTART (R408): the completion goes to the journal, DONE to the ring, and the restart follows. -/
def devRestart (c : Ctx) (s : State) : State := done c [] { s with pwr := { s.pwr with restart := true } }

/-- Row DEV_RESTART. -/
def hostDevRestart (h : CmdHdr) : State → State :=
  let c : Ctx := { h := h, op := 0x0B01 }
  hostCmd (.devRestart h) c stStill (devRestart c)

/-! ### Supply (R458, R487) -/

/-- PWR_FAIL_ASSERT: the journal's sequence starts, with the records `ends` whose programming completes; a calibration is
aborted; a start-up stops at the end of its step. -/
def pwrFailAssert (ends : List Nat) (s : State) : State :=
  if s.pwr.inReset then s
  else
    let s1 := calAbort { s with pwr := { s.pwr with pwrFail := true, stopped := s.pwr.stopped || decide (s.st = .starting) } }
    jnlPowerFail ends s1

/-! ### Start-up (R482–R487) -/

/-- The work that begins a step: SYNC_IN armed in step 6, the first rim awaited in step 8. -/
def stepBegin (s : State) : State :=
  match s.pwr.step with
  | 6 => if s.p 0xD001 = 1 then syncArm s else s
  | 8 => { s with frm := { s.frm with armed := true, period := s.p 0x1000, len := perNs (s.p 0x1000),
                                      lenNext := perNs (s.p 0x1000), budget := budgetOf (s.p 0x1000) } }
  | _ => s

/-- Step 4: the restore with what it finds, COMPAT_LEVEL, the values of the next start-up, the set-points (R482, R488,
R490). (DEDUCED, log 37.) -/
def restoreStep (inp : StartIn) (s : State) : State :=
  let s1 := jnlRestore inp.flash0 inp.flash1 ((inp.timeUs - s.pwr.lastUs) / 1000) s
  let lvl := s1.p 0x0500
  let s2 := raiseIf (decide (lvl ≠ nativeLevel)) 0x14 0 1 lvl { s1 with pwr := { s1.pwr with compat := nativeLevel } }
  let s3 := match s2.pwr.limitKind with
    | some k => raise 0x13 0 5 k { s2 with pwr := { s2.pwr with limitKind := none } }
    | none => s2
  let s4 := spInit s3
  let s5 := if s4.flt.lines ≠ 0 then evrTrigger 3 (s4.flt.lines % 2 ^ 32) s4.now s4 else s4
  if s5.pwr.pwrFail then jnlPowerFail [] s5 else s5

/-- The work of a step as it ends; none where the step is not over. -/
def stepWork (inp : StartIn) (s : State) : Option State :=
  match s.pwr.step with
  | 1 => some s
  | 2 => some (pllLock inp.band inp.lockUs (domainOn 10 { s with pll := { s.pll with refMode := s.pwr.pllMode } }))
  | 3 =>
    let s1 := [3, 4, 1, 2, 11, 9].foldl (fun (a : State) d => domainOn d a) s
    if inp.romOk then some s1
    else some { s1 with st := .off, pwr := { s1.pwr with romBad := true, inReset := true, stopped := true } }
  | 4 => some (restoreStep inp s)
  | 5 =>
    let m := s.p 0xD000
    if m = s.pwr.pllMode then some s
    else some { s with
      pwr := { s.pwr with pllMode := m }
      pll := { s.pll with refMode := m, band := inp.band % 64, lockUs := min inp.lockUs 0xFFFF, locks := satAdd 16 s.pll.locks 1 } }
  | 6 => if s.pll.armed then none else some s
  | 7 => some ([5, 6, 7, 8].foldl (fun (a : State) d => domainOn d a) s)
  | 8 => none
  | 9 => if s.pwr.roleDone ∨ paired s = false then some s else none
  | _ => none

/-- START_UP_STEP: the step in progress completes and the next begins, unless a power failure has stopped the sequence
(R482, R487). -/
def startUpStep (inp : StartIn) (s : State) : State :=
  if s.st ≠ .starting ∨ s.pwr.inReset = true ∨ s.pwr.paused = true then s
  else match stepWork inp s with
    | some s1 =>
      if s1.pwr.inReset then s1
      else
        let s2 := { s1 with pwr := { s1.pwr with step := s1.pwr.step + 1, lastUs := inp.timeUs, paused := s1.pwr.stopped } }
        if s2.pwr.stopped then s2 else stepBegin s2
    | none => s

/-- PWR_FAIL_SEQUENCE_END: with PWR_FAIL_N high again the journal goes on, and a stopped start-up continues (R458,
R487). -/
def pwrFailSequenceEnd (high : Bool) (s : State) : State :=
  let s1 := jnlPowerEnd high { s with pwr := { s.pwr with pwrFail := s.pwr.pwrFail && !high } }
  if high = true ∧ s1.st = .starting ∧ s1.pwr.stopped = true ∧ s1.pwr.inReset = false then
    let s2 := { s1 with pwr := { s1.pwr with stopped := false, paused := false } }
    if s1.pwr.paused then stepBegin s2 else s2
  else s1

/-- The first rim has come: step 8 is over (R482). (DEDUCED, log 37.) -/
def firstRim (s : State) : State :=
  { s with pwr := { s.pwr with step := if paired s then 9 else 10, rimMs := min 0xFFFF (s.pwr.lastUs / 1000) } }

/-- The enabled lanes that are powered and still in bring-up (R484). -/
def lanesPending (s : State) : List Nat :=
  (List.range 24).filter (fun k => decide (s.p (0x8120 + k) = 1) && tb s.pwr.on (laneDom k) &&
    !(decide ((s.ln k).st = 6) || decide ((s.ln k).st = 7) || decide ((s.ln k).st = 8)))

/-- The end of STARTING at a rim after the first (R484): READY. (DEDUCED, log 37.) (DEDUCED, log 38.) -/
def startingEnds (s : State) : State :=
  if s.st ≠ .starting ∨ s.pwr.stopped = true ∨ (paired s = true ∧ s.pwr.roleDone = false) then s
  else
    let l := lanesPending s
    let ms := (s.frm.rims - 1) * periodNs s.toDev / 1000000
    let late := decide (s.p 0x0400 ≤ ms)
    if l ≠ [] ∧ late = false then s
    else raiseIf (!l.isEmpty) 0x13 0 4 (maskOf l)
      { s with st := .ready, pwr := { s.pwr with step := 0, readyMs := min 0xFFFF (s.pwr.lastUs / 1000 + ms) } }

/-! ### Temperature (R4, R492) -/

/-- The warning threshold, in 1/16 °C. -/
def tempWarn (s : State) : Int :=
  16 * ((if Config.variant % 256 = 0x58 then 125 else 110) - (s.p 0x0401 : Int))

/-- TEMP_HIGH; no variant's threshold lies below 70 °C. -/
def tempHigh (tj : Int) (s : State) : State :=
  if (!s.pwr.inReset && !s.pwr.warned && decide (1120 ≤ tj) && decide (tempWarn s ≤ tj)) = true then
    raise 0x13 0 3 0 { s with pwr := { s.pwr with warned := true } }
  else s

/-- The temperature of a rim. -/
def tempRim (tj : Int) (s : State) : State :=
  tempHigh tj { s with pwr := { s.pwr with
    tj := satS 16 tj, tjMax := max s.pwr.tjMax (satS 16 tj), warned := s.pwr.warned && decide (tempWarn s - 80 < tj) } }

/-! ### SYNC_IN (R15, R355, R362) -/

/-- What is dated on the old grid is dropped when the grid of a partner is adopted: windows, reports, levels and last
edges of the cells, the slaves' Syncs. (DEDUCED, log 31.) -/
def undate (s : State) : State :=
  { s with
    obs := { s.obs with wins := [], intake := [], missing := [] }
    cells := mapCells (fun _ e => { e with lev := [], lastEdge := none, lastOld := none, lastTm := none, lrn := none, run := 0 }) s.cells
    rnk := { s.rnk with rods := s.rnk.rods.map (fun x => { x with hards := [] }) }
    fir := { s.fir with plan := none }
    adc := { s.adc with feed := [] }
    time := { s.time with doms := s.time.doms.map (fun t => { t with syncs := [], offs := [], ovr := 0, pend := [none, none] }) }
    frm := { s.frm with work := [], done := none, judged := none } }

/-- The partner's grid adopted at an edge at `t` that is its rim `count` at grid time `g` (R15, R362): the device's own
rims start 16 frames later. (DEDUCED, log 31.) -/
def adoptGrid (t count wrap g : Nat) (s : State) : State :=
  let P := periodNs s.toDev
  let s1 := undate s
  { s1 with
    now := g
    time := { s1.time with delta := s1.time.delta + t - g }
    frm := { s1.frm with count := (count + 16) % 2 ^ 48, wrap := wrap % 2 ^ 16, g := g + 15 * P, len := P, lenNext := P } }

/-- SYNC_IN_EDGE (R362). -/
def syncInEdge (t count wrap g : Nat) (s : State) : State :=
  if s.pwr.inReset then s
  else if s.pll.armed then
    let s1 := { s with pll := { s.pll with armed := false, syncDone := true } }
    if s.pair.role = .joining ∧ s.pair.step = 2 then adoptGrid t count wrap g s1 else s1
  else { s with pll := { s.pll with ignored := satAdd 16 s.pll.ignored 1 } }

end Sys2Proof.Machine
end

