-- ==== Sys2Proof/Machine/Held.lean ====
section
/-! DEFINITION. Host commands that were held for their turn come up again (R330, R382, R393). -/

namespace Sys2Proof.Machine

open Sys2Proof

/-- A host command executed as its own row does; any other row is not held. -/
def execHost (i : Instr) : State → State :=
  match i with
  | .sessionInfo h => hostSessionInfo h
  | .echo h v => hostEcho h v
  | .paramGet h id => hostParamGet h id
  | .paramSet h id v => hostParamSet h id v
  | .paramBlockSet h entries => hostParamBlockSet h entries
  | .paramBlockGet h first count buf => hostParamBlockGet h first count buf
  | .convStatus h => hostConvStatus h
  | .convArm h => hostConvArm h
  | .convDisarm h => hostConvDisarm h
  | .convRun h => hostConvRun h
  | .convBlock h => hostConvBlock h
  | .convSafeStop h => hostConvSafeStop h
  | .convSafeBlock h => hostConvSafeBlock h
  | .convRecover h => hostConvRecover h
  | .convMaint h => hostConvMaint h
  | .convMaintEnd h => hostConvMaintEnd h
  | .trpClear h inputs tg idle => hostTrpClear h inputs tg idle
  | .trpTest h inputs => hostTrpTest h inputs
  | .refQueue h e => hostRefQueue h e
  | .refReplace h e => hostRefReplace h e
  | .refStop h group => hostRefStop h group
  | .refPhaseLoad h nco frame phase => hostRefPhaseLoad h nco frame phase
  | .cellBind h b => hostCellBind h b
  | .cellUnbind h entry count => hostCellUnbind h entry count
  | .cellBlock h entry count => hostCellBlock h entry count
  | .cellRelease h entry count => hostCellRelease h entry count
  | .cellBypass h entry count => hostCellBypass h entry count
  | .cellReplace h entry cellId => hostCellReplace h entry cellId
  | .cellSet h entry mask minInt cNom => hostCellSet h entry mask minInt cNom
  | .cellLoad h first parts => hostCellLoad h first parts
  | .cellClear h entry count => hostCellClear h entry count
  | .lnkRestart h mask => hostLnkRestart h mask
  | .trcArm h => hostTrcArm h
  | .trcDisarm h => hostTrcDisarm h
  | .trcTrigger h => hostTrcTrigger h
  | .evrRecord h cause => hostEvrRecord h cause
  | .evrClearFirst h => hostEvrClearFirst h
  | .jnlSync h => hostJnlSync h
  | .jnlCompact h => hostJnlCompact h
  | .jnlExport h flash off len buf => hostJnlExport h flash off len buf
  | .toutArm h a => hostToutArm h a
  | .toutStop h output => hostToutStop h output
  | .timeSelect h domain => hostTimeSelect h domain
  | .timeStepNow h => hostTimeStepNow h
  | .pairSwitch h => hostPairSwitch h
  | .pairLeave h => hostPairLeave h
  | .pairClaim h => hostPairClaim h
  | .pairRejoin h => hostPairRejoin h
  | .fltClear h source kind => hostFltClear h source kind
  | .fltDrain h clearLost buf => hostFltDrain h clearLost buf
  | .pwrDomain h mask on => hostPwrDomain h mask on
  | .devRestart h => hostDevRestart h
  | .adcCal h => hostAdcCal h
  | .statsClear h => hostStatsClear h
  | .firTestEdge h entry code time => hostFirTestEdge h entry code time
  | .firTestEnd h entry => hostFirTestEnd h entry
  | .fcs1Ident h => hostFcs1Ident h
  | .fcs1Nop h v => hostFcs1Nop h v
  | .fcs1GetParam h id => hostFcs1GetParam h id
  | .fcs1SetParam h id v => hostFcs1SetParam h id v
  | .fcs1LoadParams h entries => hostFcs1LoadParams h entries
  | .fcs1Enable h => hostFcs1Enable h
  | .fcs1Disable h => hostFcs1Disable h
  | .fcs1Start h => hostFcs1Start h
  | .fcs1Stop h => hostFcs1Stop h
  | .fcs1Block h => hostFcs1Block h
  | .fcs1ResetBlock h => hostFcs1ResetBlock h
  | .fcs1Service h => hostFcs1Service h
  | .fcs1ServiceEnd h => hostFcs1ServiceEnd h
  | .fcs1TripReset h inputs idle => hostFcs1TripReset h inputs idle
  | .fcs1Ramp h group mask dur targets => hostFcs1Ramp h group mask dur targets
  | .fcs1RampStop h group => hostFcs1RampStop h group
  | .fcs1CellAdd h b => hostFcs1CellAdd h b
  | .fcs1CellRemove h entry => hostFcs1CellRemove h entry
  | .fcs1CellBlock h entry => hostFcs1CellBlock h entry
  | .fcs1CellUnblock h entry => hostFcs1CellUnblock h entry
  | .fcs1CellBypass h entry => hostFcs1CellBypass h entry
  | .fcs1CellSwap h entry cellId => hostFcs1CellSwap h entry cellId
  | .fcs1LinkReset h mask => hostFcs1LinkReset h mask
  | .fcs1CaptureArm h => hostFcs1CaptureArm h
  | .fcs1CaptureForce h => hostFcs1CaptureForce h
  | .fcs1Save h => hostFcs1Save h
  | .fcs1Calibrate h => hostFcs1Calibrate h
  | .fcs1ClearFaults h => hostFcs1ClearFaults h
  | .fcs1StatsReset h => hostFcs1StatsReset h
  | _ => id

/-- The held commands come up again, in order. (DEDUCED, log 27.) -/
def runHeld (s : State) : State :=
  s.hif.held.foldl (fun (a : State) i => execHost i a) { s with hif := { s.hif with held := [] } }

/-- The outcome of a command after which held host commands may have their turn. -/
def State.runHost (f : State → State) (s : State) : Host.Outcome State Fault Refusal :=
  State.run (fun x => runHeld (f x)) s

end Sys2Proof.Machine
end

