-- ==== Sys2Proof/Machine/Rim.lean ====
section
/-! DEFINITION. The completion monitor (R20–R22, R33, R34, R39) and the rim (R13–R19, R29–R32, R35, R36, R395): what
ends with a frame, the changes that take effect, the release, the publication and the next frame's work. -/

namespace Sys2Proof.Machine

open Sys2Proof

/-! ### The completion monitor -/

/-- The grid time of the guard of the frame in progress (R21). -/
def guardOf (s : State) : Nat := s.frm.g + s.frm.len - 128

/-- An overrun counted and recorded (R33). The spec does not let the model know the stages of a work that has not
completed: STAGE_LATE is a free value (DESIGN CHOICE, log 2). -/
def overrun (s : State) : State :=
  let late := 1 + s.freeV % 7
  let s1 := s.draw
  raise 0x01 0 1 0 { s1 with frm := { s1.frm with
    judged := some false, overruns := satAdd 32 s1.frm.overruns 1, ovrLast := s1.frm.count % 2 ^ 32, stageLate := late,
    consec := min 2 (s1.frm.consec + 1), ovr2Due := decide (1 ≤ s1.frm.consec) } }

/-- FRM_GUARD: the verdict on the frame in progress, once (R21). -/
def frmGuard (s : State) : State :=
  if s.frm.run = false ∨ s.frm.rims = 0 ∨ s.frm.judged.isSome then s
  else match s.frm.done with
    | some td =>
      if td < guardOf s then { s with frm := { s.frm with judged := some true, consec := 0 } } else overrun s
    | none => overrun s

/-- FRM_OVERRUN2 and its reaction (R34). In a device that does not act on cells the fault is recorded (R417). (DEDUCED, log 15.) -/
def frmOverrun2 (s : State) : State :=
  if s.frm.ovr2Due = false then s
  else
    let s1 := raise 0x01 0 2 0 { s with frm := { s.frm with ovr2Due := false, ovrFault := true } }
    if acts s1 = false then s1
    else if s1.st = .safeStop then injectSafeBlock 0x07 0 s1.now s1
    else if s1.st ≠ .running then s1
    else if s1.pair.role = .active ∧ partnerSynced s1 = true then askHandover .overrun s1
    else injectSafeBlock 0x07 0 s1.now s1

/-- FABRIC_COMPLETE at `t`: the oldest work is complete, with the durations of its stages (R20–R22, R39). -/
def fabricComplete (t : Nat) (stages : List Nat) (s0 : State) : State :=
  match s0.frm.work with
  | [] => s0
  | w :: rest =>
    let s := s0.at t
    let late := match w.next with | some g => decide (g ≤ t) | none => false
    let slack : Int := if late then -32768 else clampI (-32768) 32767 ((w.guard : Int) - t)
    let last := (List.range 7).map (fun i => if i = 0 then 60 else min 0xFFFF (stages.getD i 0))
    let warn : Nat := s.p 0x1001
    let low := decide (slack < (warn : Int))
    let s1 : State := { s with frm := { s.frm with
      work := rest, slackLast := slack, slackMin := min s.frm.slackMin slack, stLast := last,
      stMax := (List.range 7).map (fun i => max (s.frm.stMax.getD i 0) (last.getD i 0)),
      slackLow := satAdd 32 s.frm.slackLow (b2n low),
      done := if w.n = s.frm.count then some t else s.frm.done } }
    raiseIf (low && decide (warn ≠ 0)) 0x01 0 3 0 s1

/-! ### The release (R30–R32, R35, R36, R164, R172, R175, R198–R201, R284) -/

/-- The plan computed in frame `n`, if the work built one. -/
def planOf (n : Nat) (s : State) : Option Plan := s.fir.plan.filter (fun p => decide (p.n = n))

/-- Held plans stand in for computed ones while a hand-over after FRM_OVERRUN2 is open (R34). (DEDUCED, log 16.) -/
def holdsOver (s : State) : Bool :=
  decide (s.pair.hoverReq = some .overrun) || (s.pair.hover && decide (s.pair.hoverWhy = some .overrun))

/-- What rod `r` is released, coded as RELEASE of R318: 0 computed, 1 held, 2 override, 3 block plan of the state. `st0`
is the state before the rim, `comp` whether the computed plan is released. (DEDUCED, log 17.) -/
def relKind (st0 : DevState) (comp : Bool) (s : State) (r : Nat) : Nat :=
  if s.trp.act.getD r 0 ≠ 0 ∨ (s.st = .safeBlocked ∧ st0 ≠ .safeBlocked) then 2
  else if s.st = .safeBlocked ∨ ¬ (st0 = .running ∨ st0 = .safeStop) then 3
  else if tb (feBlocked s) r then 2
  else if comp then 0 else 1

/-- The order of the computed plan for an entry: of a cell under test, or of selection. -/
def planOrder (test : Bool) (p : Option Plan) (k : Nat) : Option Order :=
  p.bind (fun x => (x.orders.find? (fun o => o.1 == k && o.2.test == test)).map Prod.snd)

/-- The order released for entry `e`, which was `o` before the rim, of a rod with action `a` and release kind `kind`, in a
plan of `len` ns that opens at `t0`. A cell that has received bypass keeps it (R121). (DEDUCED, log 17.) (DEDUCED, log 18.)
(DEDUCED, log 59.) -/
def relOrder (st0 st : DevState) (comp : Bool) (p : Option Plan) (a kind t0 len k : Nat) (o e : Entry) : Order :=
  let block := Order.flat (standCode (relStanding o e))
  if e.ord.code = 5 ∨ a = 2 then Order.flat 5
  else if st = .safeBlocked then block
  else if a ≠ 0 then actOrder a (relStanding o e) e
  else match kind with
    | 0 => (planOrder false p k).getD block
    | 1 => heldOrder t0 len o e
    | 2 => block
    | _ =>
      if st0 = .maintenance then
        if comp then (planOrder true p k).getD block else if e.ord.test then heldOrder t0 len o e else block
      else block

/-- Carry and counters of a rod at the release of kind `kind` (R197, R198, R206). -/
def FirRod.released (kind : Nat) (x : FirRod) : FirRod :=
  { x with carry := if kind = 0 then x.carryNew else if kind = 1 then x.carry else 0, ovr := decide (kind = 2) }

/-- Selection's state of a rod at the release of kind `kind` (R130, R160, R172, R175): `part` tells whether an entry's
released order is a partial duty, `hold` whether an override holds the rod (R284). (DEDUCED, log 19.) -/
def RnkRod.released (kind t0 : Nat) (hold hard : Bool) (part : Nat → Bool) (x : RnkRod) : RnkRod :=
  { x with
    ovr := decide (kind = 2), hards := ((t0, hard) :: x.hards).take 10,
    blk := decide (kind = 3) || (decide (kind = 2) && !hold) || (decide (kind = 1) && x.blk),
    prev := if kind = 0 then x.part.map (fun k => (k, x.ps)) else if kind = 1 then x.prev.filter (fun y => part y.1) else none,
    sfRun := if kind = 0 then x.short else if kind = 1 then x.sfRun else false,
    swapsN := if kind = 0 then satAdd 32 x.swapsN x.swaps else x.swapsN,
    refusedN := if kind = 0 then satAdd 32 x.refusedN x.passed.length else x.refusedN }

/-- The rods whose computed plan is released. -/
def computedRods (rel : List Nat) : List Nat := (List.range 12).filter (fun r => decide (rel.getD r 3 = 0))

/-- The counters that advance with a computed plan (R167, R172, R175, R206). -/
def relCount (rel : List Nat) (s : State) : State :=
  let rs := computedRods rel
  let x := fun r => s.rnk.rods.getD r RnkRod.reset
  let f := fun r => s.fir.rods.getD r FirRod.reset
  let passed := rs.flatMap (fun r => (x r).passed)
  let fresh := rs.filter (fun r => (x r).short && !(x r).sfRun)
  let s1 : State := { s with
    cells := mapCells (fun k e => if passed.contains k then { e with refused := satAdd 16 e.refused 1 } else e) s.cells
    rnk := { s.rnk with
      swaps := satAdd 32 s.rnk.swaps (sumN (rs.map (fun r => (x r).swaps))),
      refused := satAdd 32 s.rnk.refused passed.length,
      shorts := satAdd 32 s.rnk.shorts (rs.filter (fun r => (x r).short)).length }
    fir := { s.fir with
      clips := satAdd 32 s.fir.clips (rs.filter (fun r => (f r).limHi || (f r).limLo)).length,
      supp := satAdd 32 s.fir.supp (rs.filter (fun r => (f r).supLo || (f r).supHi)).length,
      delayed := satAdd 32 s.fir.delayed (sumN (rs.map (fun r => (f r).nDel))),
      carrySats := satAdd 32 s.fir.carrySats (rs.filter (fun r => (f r).cSat)).length } }
  fresh.foldl (fun (a : State) r => raise 0x06 r 1 0 a) s1

/-- The orders that the released plan gives the cells (R129, R140, R164): `rel` gives each rod's kind, `old` is the state
before the rim. -/
def relCells (old : State) (comp : Bool) (p : Option Plan) (rel : List Nat) (t0 len : Nat) (s : State) : State :=
  let h := horizon s
  let cells := mapCells (fun k e =>
    if e.bound then
      Entry.order t0 h (hardFrame s e.rod)
        (relOrder old.st s.st comp p (s.trp.act.getD e.rod 0) (rel.getD e.rod 3) t0 len k (old.ent k) e) e
    else e) s.cells
  let s1 : State := { s with cells := cells }
  let moved := (s.boundL.filter (fun x => decide ((s1.ent x.1).edges ≠ x.2.edges) || decide ((s1.ent x.1).hard ≠ x.2.hard))).map Prod.fst
  markDirty moved s1

/-- The release at the rim of frame `n` (R30, R32): state before the rim `old`, computed plan or not. -/
def release (old : State) (comp : Bool) (n : Nat) (s : State) : State :=
  let p := planOf n s
  let t0 := s.frm.g + s.fir.tx
  let len := match p with | some x => x.len | none => s.frm.len
  let rel := (List.range 12).map (relKind old.st comp s)
  let hard := fun r => hardFrame s r
  let s1 := relCells old comp p rel t0 len (relCount rel s)
  { s1 with
    rnk := { s1.rnk with rods := s1.rnk.rods.mapIdx (fun r x =>
      RnkRod.released (rel.getD r 3) t0 (decide (s.trp.act.getD r 0 = 3 ∧ s.st ≠ .safeBlocked)) (hard r) (fun k => (s1.ent k).ord.part) x) }
    fir := { s1.fir with rods := s1.fir.rods.mapIdx (fun r x => FirRod.released (rel.getD r 3) x) } }

/-- The test edges of the plan computed in frame `n`, released or overridden, with their replies (R203–R205). (DEDUCED, log 18.) -/
def testRelease (n : Nat) (s : State) : State :=
  match planOf n s with
  | none => s
  | some p =>
    let mine := p.tests.filter (fun x => s.fir.tests.contains x.te)
    let disc := fun (x : TestPlaced) => decide (s.trp.act.getD (s.ent x.te.entry).rod 0 ≠ 0)
    let ran := mine.filter (fun x => !disc x)
    let s1 : State := { s with fir := { s.fir with
      tests := s.fir.tests.filter (fun t => !mine.any (fun x => x.te == t)),
      cells := s.fir.cells.map (fun c => match ran.find? (fun x => x.te.entry == c.entry) with
        | some x => { c with level := x.te.code, last := s.frm.rims }
        | none => c),
      delayed := satAdd 32 s.fir.delayed (ran.filter (fun x => x.te.del)).length } }
    mine.foldl (fun (a : State) x =>
      finish (testCtx x.te) 0 (testData x.te (disc x) (n % 2 ^ 32) (if disc x then 0 else x.exec)) a) s1

/-! ### Parts of the rim -/

/-- The frame counter, the grid and the frame's verdict at a rim (R13–R16): before it, the state `s`. (DEDUCED, log 14.) -/
def rimAdvance (s : State) : State :=
  let first := decide (s.frm.rims = 0)
  let g := if first then s.frm.g else s.frm.g + s.frm.len
  let n := if first then s.frm.count else (s.frm.count + 1) % 2 ^ 48
  { s with
    now := g
    frm := { s.frm with
      run := true, g := g, count := n, rims := s.frm.rims + 1, len := s.frm.lenNext, period := s.p 0x1000,
      wrap := if n = 0 ∧ first = false then satAdd 16 s.frm.wrap 1 else s.frm.wrap,
      done := none, judged := none } }

/-- The action of the fault collector that waits for the rim (R416, R417). -/
def fltAct (s : State) : State :=
  let s1 : State := { s with flt := { s.flt with action := 0 } }
  match s.flt.action with
  | 3 => askSafeBlock 5 s1
  | 2 => askSafeStop 0x12 s1
  | 1 =>
    let gap := match s.pair.hoverAt with
      | some k => decide (s.p 0xE400 * 1000000000 ≤ (s.frm.rims - k) * periodNs s.toDev)
      | none => true
    if s.pair.role = .active ∧ partnerSynced s = true ∧ gap = true then askHandover .fault s1 else s1
  | _ => s1

/-- The reactions that the control engine raised for this rim (R107). -/
def ctlAct (s : State) : State :=
  let s1 : State := { s with ctl := { s.ctl with stopDue := false, blockDue := false } }
  let s2 := if s.ctl.blockDue then askSafeBlock 5 s1 else s1
  if s.ctl.stopDue then askSafeStop 0x12 s2 else s2

/-- The commands that take effect at the rim of frame `n`; `old` is the state before the rim (R19, R133, R290, R340,
R395, R403, R421). The changes of the cell table come with what their replies need. -/
def rimCommands (old : State) (n : Nat) (s : State) : State × List (PendCell × List Nat) :=
  let x := cellRim s.frm.count s
  let s1 := paramRim (fltClearRim (tripClearRim (convRim n x.1)))
  (timeConfigure old (timeStepRim n s1.frm.g (timeSwitch n s1)), x.2)

/-- The changes by rule at the rim of frame `n` (R107, R120, R125, R228, R301, R320): `old` is the state before the
rim. -/
def rimRules (old : State) (n : Nat) (s : State) : State :=
  let s1 := lanesRim old.frm.rims old.frm.len (ctlAct (fltAct s))
  let s2 := spareStage (unseenHold old (followRim (applyRules s1)))
  let s3 := if newShort old.rnk.spare s2 then askSafeStop 0x13 s2 else s2
  ruleRim n (changeRim n s3)

/-- The device turns dark where a removal asks for it (R334). -/
def offRim (s : State) : State :=
  match s.pair.offAt with
  | some k => if k ≤ s.frm.rims then { s with pair := { s.pair with dark := true, offAt := none } } else s
  | none => s

/-- The entry into READY: restored commands of the converter-state group are aborted (R385). (DEDUCED, log 38.) (DEDUCED, log 39.) -/
def startRim (s : State) : State :=
  let s1 := startingEnds s
  if s.st = .starting ∧ s1.st = .ready then
    (s1.hif.fly.filter (fun f => f.old && decide (asFcs2 f.opcode / 256 = 2))).foldl
      (fun (a : State) f => finish f.ctx 0x0303 [] a) s1
  else s1

/-- The length of the frame after the one that begins (R16, R183, R349), and the bound of R24 with its budget. (DEDUCED, log 14.) -/
def rimGrid (s : State) : State :=
  let P := perNs (s.p 0x1000)
  let s1 := alignRim s.frm.rims s.frm.g P (servoRim s.frm.rims s)
  let B := budgetOf s1.frm.period
  let T := tcIn s1.p s1.cells
  { s1 with frm := { s1.frm with
    lenNext := ((P : Int) + s1.time.s1).toNat, budget := B, bound := T, budgetOk := decide (T ≤ B) } }

/-- The work of the frame that begins stands open until the fabric completes it; works still open learn its guard. -/
def rimWork (s : State) : State :=
  let g := guardOf s
  { s with frm := { s.frm with
    work := s.frm.work.map (fun w => { w with next := w.next.orElse (fun _ => some g) }) ++
      [{ n := s.frm.count, guard := g, next := none }] } }

/-- The seven stages of the frame that begins, on the window opened at `t0` that the rim closes (R17, R23, R35). (DEDUCED, log 13.) -/
def frameWork (inp : RimIn) (t0 : Nat) (s : State) : State :=
  let s1 := ctlStage (refStage s.frm.count (stopStage (adcStage inp s)))
  let s2 := foundStage (reportStage (tgStage (vrestStage s1)))
  firStage (senseStage (obsSums (cellRules (obsStage t0 s2))))

/-- The replies that come with the rim of frame `n`; `old` is the state that the clears of trip latches saw. -/
def rimReplies (old : State) (n : Nat) (ws : List PWrite) (cs : List (PendCell × List Nat)) (s : State) : State :=
  let s1 := cs.foldl (fun (a : State) c => cellReply n c a) (writeReplies ws (convReply n s))
  switchReply (refReplies (statsRim (restartReplies n (tripClearReplies old n s1))))

/-! ### The rim -/

/-- Up to the changes of the rim: what the frame that ends still had due, and the new frame begun. (DEDUCED, log 13.) -/
def rimOpen (inp : RimIn) (s : State) : State :=
  let s1 := if s.frm.rims = 0 then s else handoverRim (pairRuns (frmOverrun2 (frmGuard s)))
  let s2 := trcWindow inp s.frm.len (rimAdvance s1)
  let s3 := toutSweep s2.frm.g s2
  devAdopt (tempRim inp.tj { s3 with trp := { s3.trp with level := inp.trips } })

/-- From the changes in force to the publication (R29–R32): release kinds `rel` of the rods, `first` at the first rim. -/
def rimRelease (old : State) (first comp : Bool) (n : Nat) (s : State) : State :=
  let s1 := if first || !acts s then s else release old comp n s
  let s2 := if first || !comp then s1 else testRelease n s1
  let len := match planOf n s2 with | some x => x.len | none => s2.frm.len
  let s3 := trcRecalc old (lanesSend len { s2 with frm := { s2.frm with hold := !first && !comp } })
  { s3 with pub := (settle s3).toDev }

/-- RIM: the time base reaches a rim. (DEDUCED, log 13.) (DEDUCED, log 16.) -/
def rim (inp : RimIn) (s0 : State) : State :=
  if s0.frm.armed = false ∨ s0.pwr.inReset = true ∨ s0.st = .off then s0
  else
    let first := decide (s0.frm.rims = 0)
    let n := s0.frm.count
    let s1 := rimOpen inp s0
    let ws := writesDue s1
    let c := rimCommands s0 n s1
    let s2 := announce_ (offRim (rimRules s0 n c.1))
    let s3 := if first then firstRim s2 else startRim s2
    let comp := decide ((frmGuard s0).frm.judged = some true) && !holdsOver s3
    let rel := (List.range 12).map (relKind s0.st comp s3)
    let s4 := rimRelease s0 first comp n s3
    let s5 := holdStage (tripSettle (schRim (trcRim s4)))
    let s6 := if first then s5 else pairPulse n s5.frm.g s5
    let s7 := frameWork inp s0.frm.g (rimWork (rimGrid s6))
    runHeld (pairSend rel (rimReplies s1 n ws c.2 s7))

/-- TRP_PAIR_DIFF: a trip latch has differed between the partners for 2 consecutive rims (R289). No message carries the
partner's latches, so the comparison itself comes from outside. (DEDUCED, log 45.) -/
def tripPairDiff (i : Nat) (s : State) : State := raiseIf (paired s && decide (i < 16)) 0x0A i 3 0 s

end Sys2Proof.Machine
end

