-- ==== Sys2Proof/Machine/FabricCmd.lean ====
section
/-! DEFINITION. The commands of the frame engine, the measurement and control engines, the observer and the cell table: one meaning per row of the operation table. -/

namespace Sys2Proof.Machine

open Sys2Proof

/-- RIM (R13): The time base reaches the rim that ends frame n; the frame counter advances and the release registers
swap. -/
def execRim (inp : RimIn) (s : State) : Host.Outcome State Fault Refusal :=
  State.run (Machine.rim inp) s

/-- FRM_GUARD (R21): At rim n − 128 ns the completion monitor judges whether frame n's work was in time. -/
def execFrmGuard (s : State) : Host.Outcome State Fault Refusal :=
  State.run (Machine.frmGuard) s

/-- FRM_OVERRUN2 (R34): The consecutive-overrun count reaches two and the state-dependent reaction is raised. -/
def execFrmOverrun2 (s : State) : Host.Outcome State Fault Refusal :=
  State.run (Machine.frmOverrun2) s

/-- FABRIC_COMPLETE (R22): The fabric signals completion of a frame's work, and the slack is computed and written. -/
def execFabricComplete (t : Nat) (stages : List Nat) (s : State) : Host.Outcome State Fault Refusal :=
  State.run (Machine.fabricComplete t stages) s

/-- ADC_ROD_DISC (R53): The rod-current discrepancy count reaches three frames and sets DISC. -/
def execAdcRodDisc (rod : Nat) (s : State) : Host.Outcome State Fault Refusal :=
  State.run (discLatch rod) s

/-- ADC_PLAUS (R62): A triplet outside the window for ADC_PLAUS_FRAMES consecutive frames latches FAULT. -/
def execAdcPlaus (tri : Nat) (s : State) : Host.Outcome State Fault Refusal :=
  State.run (plausLatch tri) s

/-- ADC_CAL_COMPLETE (R58): A running ADC calibration completes and the accepted factors are written and journalled.
-/
def execAdcCalComplete (t : Nat) (sums : List CalSum) (s : State) : Host.Outcome State Fault Refusal :=
  State.runHost (fun x => calDone t sums (x.at t)) s

/-- CTL_FE_REACTION (R105): A slot's following-error count reaches CTL_FE_TIME and the slot's reaction is raised. -/
def execCtlFeReaction (slot : Nat) (s : State) : Host.Outcome State Fault Refusal :=
  State.run (feReact slot) s

/-- SUSPECT_TIMEOUT (R117): An entry still SUSPECT RNK_SUSPECT_MAX frames after entering SUSPECT becomes FAILED. -/
def execSuspectTimeout (entry : Nat) (s : State) : Host.Outcome State Fault Refusal :=
  State.run (Machine.suspectTimeout entry) s

/-- SUSPECT_RECOVER (R117): A SUSPECT entry that receives RNK_RECOVER consecutive good reports returns to ACTIVE. -/
def execSuspectRecover (entry : Nat) (s : State) : Host.Outcome State Fault Refusal :=
  State.run (Machine.suspectRecover entry) s

/-- MISSED_LIMIT (R147): MISSED reaches OBS_MISS_N and an ACTIVE entry becomes SUSPECT. -/
def execMissedLimit (entry : Nat) (s : State) : Host.Outcome State Fault Refusal :=
  State.run (Machine.missedLimit entry) s

/-- SKIP_LIMIT (R268): Three consecutive feedback skips make an ACTIVE entry SUSPECT. -/
def execSkipLimit (entry : Nat) (s : State) : Host.Outcome State Fault Refusal :=
  State.run (Machine.skipLimit entry) s

/-- OBS_RESEED (R146): A run of implausible reports reaches OBS_RESEED and the estimate is reseeded. -/
def execObsReseed (entry : Nat) (s : State) : Host.Outcome State Fault Refusal :=
  State.run (Machine.obsReseed entry) s

/-- OBS_CL_BLOCK (R150): NQ reaches OBS_CL_N and a block capacitance estimate is formed, accepted or rejected. -/
def execObsClBlock (entry : Nat) (s : State) : Host.Outcome State Fault Refusal :=
  State.run (Machine.obsClBlock entry) s

/-- TREND_POINT (R153): Every OBS_TREND_PERIOD hours of operation the observer takes a trend point for each qualifying
entry. -/
def execTrendPoint (s : State) : Host.Outcome State Fault Refusal :=
  State.run (Machine.trendPoint) s

/-- TALLY_BATCH (R131): Every RNK_TALLY_PERIOD seconds the tally and C_EST of changed entries are journalled in one
batch. -/
def execTallyBatch (s : State) : Host.Outcome State Fault Refusal :=
  State.run (Machine.tallyBatch) s

end Sys2Proof.Machine
end

