-- ==== Sys2Proof/Machine/HostCmd.lean ====
section
/-! DEFINITION. The commands of the host interface and the host commands: one meaning per row of the operation table. -/

namespace Sys2Proof.Machine

open Sys2Proof

/-- HOST_PORT_RESET (R368): PERST_N, a hot reset or a function-level reset resets only the host port and closes every
ring pair. -/
def execHostPortReset (s : State) : Host.Outcome State Fault Refusal :=
  State.run (Machine.hostPortReset) s

/-- PCIE_LINK_DOWN (R368): The PCIe link goes down and the event is counted in HIF_STATE. -/
def execPcieLinkDown (s : State) : Host.Outcome State Fault Refusal :=
  State.run (Machine.pcieLinkDown) s

/-- HIF_DB_OPEN_LO (R370): A write to HIF_DB_OPEN_LO stores the low half of the session descriptor address. -/
def execHifDbOpenLo (v : Nat) (s : State) : Host.Outcome State Fault Refusal :=
  State.run (Machine.hifDbOpenLo v) s

/-- HIF_DB_OPEN_HI (R370): A write to HIF_DB_OPEN_HI starts the open of a ring pair from its descriptor. -/
def execHifDbOpenHi (v : Nat) (s : State) : Host.Outcome State Fault Refusal :=
  State.run (Machine.hifDbOpenHi v) s

/-- SESSION_OPEN_COMPLETE (R371): The descriptor has been read and checked, and the pair opens or reports OPEN_ERR. -/
def execSessionOpenComplete (desc : Option (List Byte)) (s : State) : Host.Outcome State Fault Refusal :=
  State.runHost (Machine.sessionOpenComplete desc) s

/-- HIF_DB_CLOSE (R373): A write to HIF_DB_CLOSE closes the named pair at once. -/
def execHifDbClose (v : Nat) (s : State) : Host.Outcome State Fault Refusal :=
  State.run (Machine.hifDbClose v) s

/-- HIF_DB_CMD (R374): A write to HIF_DBk_CMD passes a new command producer index. -/
def execHifDbCmd (pair v : Nat) (s : State) : Host.Outcome State Fault Refusal :=
  State.run (Machine.hifDbCmd pair v) s

/-- HIF_DB_RPL (R374): A write to HIF_DBk_RPL passes a new reply consumer index and frees reply ring room. -/
def execHifDbRpl (pair v : Nat) (s : State) : Host.Outcome State Fault Refusal :=
  State.run (Machine.hifDbRpl pair v) s

/-- BAR_WRITE_DISCARDED (R367): A host write to any BAR register other than a doorbell is discarded without error. -/
def execBarWriteDiscarded (bar off v : Nat) (s : State) : Host.Outcome State Fault Refusal :=
  State.run (Machine.barWriteDiscarded bar off v) s

/-- FRM_COUNT_LO_READ (R37): A read of FRM_COUNT_LO latches the high frame counter bits into FRM_COUNT_HI. -/
def execFrmCountLoRead (s : State) : Host.Outcome State Fault Refusal :=
  State.run (Machine.frmCountLoRead) s

/-- PACKET_INTAKE (R380): A packet is read from a command ring and checked for length, CRC and sequence. -/
def execPacketIntake (pair : Nat) (bytes : List Byte) (t : Nat) (s : State) : Host.Outcome State Fault Refusal :=
  State.runHost (Machine.packetIntake pair bytes t) s

/-- REPLY_WRITE (R376): A reply entry is written to the reply ring once it has room, followed by an MSI-X message. -/
def execReplyWrite (pair : Nat) (s : State) : Host.Outcome State Fault Refusal :=
  State.run (Machine.replyWrite pair) s

/-- MIRROR_TIMEOUT (R329): PAIR_MIRROR_TO passes without MIR_ACK and acceptance falls back to the solo rule. -/
def execMirrorTimeout (pair seq : Nat) (s : State) : Host.Outcome State Fault Refusal :=
  State.runHost (Machine.mirrorTimeout pair seq) s

/-- SESSION_INFO (R400): Command 0x0000 returns the role, state, revision, level and sequence information. -/
def execSessionInfo (h : CmdHdr) (s : State) : Host.Outcome State Fault Refusal :=
  State.runHost (hostSessionInfo h) s

/-- ECHO (R400): Command 0x0001 returns the value it carries. -/
def execEcho (h : CmdHdr) (v : Nat) (s : State) : Host.Outcome State Fault Refusal :=
  State.runHost (hostEcho h v) s

/-- PARAM_GET (R402): Command 0x0100 returns the value in force and any pending value of one parameter. -/
def execParamGet (h : CmdHdr) (id : Nat) (s : State) : Host.Outcome State Fault Refusal :=
  State.runHost (hostParamGet h id) s

/-- PARAM_SET (R403): Command 0x0101 writes one parameter after its checks, effective at its rim or event. -/
def execParamSet (h : CmdHdr) (id : Nat) (v : Int) (s : State) : Host.Outcome State Fault Refusal :=
  State.runHost (hostParamSet h id v) s

/-- PARAM_BLOCK_SET (R403): Command 0x0102 writes up to 512 parameters all or none, effective together. -/
def execParamBlockSet (h : CmdHdr) (entries : List (Nat × Int)) (s : State) : Host.Outcome State Fault Refusal :=
  State.runHost (hostParamBlockSet h entries) s

/-- PARAM_BLOCK_GET (R402): Command 0x0103 writes a range of parameter values into a host buffer. -/
def execParamBlockGet (h : CmdHdr) (first count : Nat) (buf : OutBuf) (s : State) : Host.Outcome State Fault Refusal :=
  State.runHost (hostParamBlockGet h first count buf) s

/-- CONV_STATUS (R396): Command 0x0200 returns the current device state and causes. -/
def execConvStatus (h : CmdHdr) (s : State) : Host.Outcome State Fault Refusal :=
  State.runHost (hostConvStatus h) s

/-- CONV_ARM (R396): Command 0x0201 moves the device from READY to BLOCKED. -/
def execConvArm (h : CmdHdr) (s : State) : Host.Outcome State Fault Refusal :=
  State.runHost (hostConvArm h) s

/-- CONV_DISARM (R396): Command 0x0202 moves the device from BLOCKED to READY. -/
def execConvDisarm (h : CmdHdr) (s : State) : Host.Outcome State Fault Refusal :=
  State.runHost (hostConvDisarm h) s

/-- CONV_RUN (R397): Command 0x0203 moves the device from BLOCKED to RUNNING after its checks. -/
def execConvRun (h : CmdHdr) (s : State) : Host.Outcome State Fault Refusal :=
  State.runHost (hostConvRun h) s

/-- CONV_BLOCK (R396): Command 0x0204 moves the device from RUNNING to BLOCKED. -/
def execConvBlock (h : CmdHdr) (s : State) : Host.Outcome State Fault Refusal :=
  State.runHost (hostConvBlock h) s

/-- CONV_SAFE_STOP (R396): Command 0x0205 starts Safe Stop from RUNNING, or is recorded without effect. -/
def execConvSafeStop (h : CmdHdr) (s : State) : Host.Outcome State Fault Refusal :=
  State.runHost (hostConvSafeStop h) s

/-- CONV_SAFE_BLOCK (R396): Command 0x0206 enters SAFE_BLOCKED by the rim path. -/
def execConvSafeBlock (h : CmdHdr) (s : State) : Host.Outcome State Fault Refusal :=
  State.runHost (hostConvSafeBlock h) s

/-- CONV_RECOVER (R303): Command 0x0207 leaves SAFE_BLOCKED for BLOCKED when no safety latch or fault bars it. -/
def execConvRecover (h : CmdHdr) (s : State) : Host.Outcome State Fault Refusal :=
  State.runHost (hostConvRecover h) s

/-- CONV_MAINT (R396): Command 0x0208 enters MAINTENANCE from READY or BLOCKED. -/
def execConvMaint (h : CmdHdr) (s : State) : Host.Outcome State Fault Refusal :=
  State.runHost (hostConvMaint h) s

/-- CONV_MAINT_END (R396): Command 0x0209 leaves MAINTENANCE for READY. -/
def execConvMaintEnd (h : CmdHdr) (s : State) : Host.Outcome State Fault Refusal :=
  State.runHost (hostConvMaintEnd h) s

/-- TRP_CLEAR (R290): Command 0x0230 clears the named trip latches and the telegram latch at the next rim, all or
none. -/
def execTrpClear (h : CmdHdr) (inputs : Nat) (tg : Bool) (idle : List Nat) (s : State) : Host.Outcome State Fault Refusal :=
  State.runHost (hostTrpClear h inputs tg idle) s

/-- TRP_TEST (R291): Command 0x0231 sets the named trip latches as if their filters had passed. -/
def execTrpTest (h : CmdHdr) (inputs : Nat) (s : State) : Host.Outcome State Fault Refusal :=
  State.runHost (hostTrpTest h inputs) s

/-- REF_QUEUE (R74): Command 0x0300 appends a ramp entry to a set-point group queue. -/
def execRefQueue (h : CmdHdr) (e : RampArgs) (s : State) : Host.Outcome State Fault Refusal :=
  State.runHost (hostRefQueue h e) s

/-- REF_REPLACE (R83): Command 0x0301 discards a group's queue and starts a new entry in the next frame. -/
def execRefReplace (h : CmdHdr) (e : RampArgs) (s : State) : Host.Outcome State Fault Refusal :=
  State.runHost (hostRefReplace h e) s

/-- REF_STOP (R84): Command 0x0302 empties the queue of one group or all groups. -/
def execRefStop (h : CmdHdr) (group : Nat) (s : State) : Host.Outcome State Fault Refusal :=
  State.runHost (hostRefStop h group) s

/-- REF_PHASE_LOAD (R71): Command 0x0303 loads an NCO phase accumulator in a named frame. -/
def execRefPhaseLoad (h : CmdHdr) (nco frame phase : Nat) (s : State) : Host.Outcome State Fault Refusal :=
  State.runHost (hostRefPhaseLoad h nco frame phase) s

/-- CELL_BIND (R133): Command 0x0400 binds an unbound cell-table entry to a rod, lane and slot. -/
def execCellBind (h : CmdHdr) (b : BindArgs) (s : State) : Host.Outcome State Fault Refusal :=
  State.runHost (hostCellBind h b) s

/-- CELL_UNBIND (R133): Command 0x0401 unbinds a range of entries at the next 16-frame boundary. -/
def execCellUnbind (h : CmdHdr) (entry count : Nat) (s : State) : Host.Outcome State Fault Refusal :=
  State.runHost (hostCellUnbind h entry count) s

/-- CELL_BLOCK (R133): Command 0x0402 sets DISP to blocked for a range of entries. -/
def execCellBlock (h : CmdHdr) (entry count : Nat) (s : State) : Host.Outcome State Fault Refusal :=
  State.runHost (hostCellBlock h entry count) s

/-- CELL_RELEASE (R133): Command 0x0403 sets DISP to in service for a range of entries. -/
def execCellRelease (h : CmdHdr) (entry count : Nat) (s : State) : Host.Outcome State Fault Refusal :=
  State.runHost (hostCellRelease h entry count) s

/-- CELL_BYPASS (R133): Command 0x0404 sets DISP to bypassed for a range of entries. -/
def execCellBypass (h : CmdHdr) (entry count : Nat) (s : State) : Host.Outcome State Fault Refusal :=
  State.runHost (hostCellBypass h entry count) s

/-- CELL_REPLACE (R133): Command 0x0405 resets an ABSENT, BYPASSED or FAILED entry for a new cell. -/
def execCellReplace (h : CmdHdr) (entry cellId : Nat) (s : State) : Host.Outcome State Fault Refusal :=
  State.runHost (hostCellReplace h entry cellId) s

/-- CELL_SET (R133): Command 0x0406 changes MIN_INT or C_NOM of a bound entry. -/
def execCellSet (h : CmdHdr) (entry mask minInt cNom : Nat) (s : State) : Host.Outcome State Fault Refusal :=
  State.runHost (hostCellSet h entry mask minInt cNom) s

/-- CELL_LOAD (R133): Command 0x0407 loads the non-volatile parts of up to 256 entries, all or none. -/
def execCellLoad (h : CmdHdr) (first : Nat) (parts : List (List Byte)) (s : State) : Host.Outcome State Fault Refusal :=
  State.runHost (hostCellLoad h first parts) s

/-- CELL_CLEAR (R133): Command 0x0408 clears SW_COUNT, REFUSED and FB_SKIPS of a range of entries. -/
def execCellClear (h : CmdHdr) (entry count : Nat) (s : State) : Host.Outcome State Fault Refusal :=
  State.runHost (hostCellClear h entry count) s

/-- LNK_RESTART (R231): Command 0x0502 sends the lanes of a mask back to DETECT and clears their retries. -/
def execLnkRestart (h : CmdHdr) (mask : Nat) (s : State) : Host.Outcome State Fault Refusal :=
  State.runHost (hostLnkRestart h mask) s

/-- TRC_ARM (R432): Command 0x0600 arms the transient recorder with the configuration in force. -/
def execTrcArm (h : CmdHdr) (s : State) : Host.Outcome State Fault Refusal :=
  State.runHost (hostTrcArm h) s

/-- TRC_DISARM (R435): Command 0x0601 disarms the recorder or ends a capture in progress. -/
def execTrcDisarm (h : CmdHdr) (s : State) : Host.Outcome State Fault Refusal :=
  State.runHost (hostTrcDisarm h) s

/-- TRC_TRIGGER (R436): Command 0x0602 gives the recorder a software trigger. -/
def execTrcTrigger (h : CmdHdr) (s : State) : Host.Outcome State Fault Refusal :=
  State.runHost (hostTrcTrigger h) s

/-- EVR_RECORD (R444): Command 0x0610 queues an event record with a host cause. -/
def execEvrRecord (h : CmdHdr) (cause : Nat) (s : State) : Host.Outcome State Fault Refusal :=
  State.runHost (hostEvrRecord h cause) s

/-- EVR_CLEAR_FIRST (R450): Command 0x0611 clears the first area of the event recorder and journals the clear. -/
def execEvrClearFirst (h : CmdHdr) (s : State) : Host.Outcome State Fault Refusal :=
  State.runHost (hostEvrClearFirst h) s

/-- JNL_SYNC (R408): Command 0x0700 replies when every pending journal record is committed to both flashes. -/
def execJnlSync (h : CmdHdr) (s : State) : Host.Outcome State Fault Refusal :=
  State.runHost (hostJnlSync h) s

/-- JNL_COMPACT (R457): Command 0x0701 starts a journal compaction. -/
def execJnlCompact (h : CmdHdr) (s : State) : Host.Outcome State Fault Refusal :=
  State.runHost (hostJnlCompact h) s

/-- JNL_EXPORT (R408): Command 0x0702 copies raw flash bytes into a host buffer. -/
def execJnlExport (h : CmdHdr) (flash off len : Nat) (buf : OutBuf) (s : State) : Host.Outcome State Fault Refusal :=
  State.runHost (hostJnlExport h flash off len buf) s

/-- TOUT_ARM (R356): Command 0x0810 arms a timed output with its mode, scale, target, width and period. -/
def execToutArm (h : CmdHdr) (a : ToutArgs) (s : State) : Host.Outcome State Fault Refusal :=
  State.runHost (hostToutArm h a) s

/-- TOUT_STOP (R354): Command 0x0811 disarms one or all timed outputs after any pulse in progress. -/
def execToutStop (h : CmdHdr) (output : Nat) (s : State) : Host.Outcome State Fault Refusal :=
  State.runHost (hostToutStop h output) s

/-- TIME_SELECT (R347): Command 0x0820 switches the PTP domain in use at the next rim. -/
def execTimeSelect (h : CmdHdr) (domain : Nat) (s : State) : Host.Outcome State Fault Refusal :=
  State.runHost (hostTimeSelect h domain) s

/-- TIME_STEP_NOW (R346): Command 0x0821 applies a held PTP time step at the next rim. -/
def execTimeStepNow (h : CmdHdr) (s : State) : Host.Outcome State Fault Refusal :=
  State.runHost (hostTimeStepNow h) s

/-- PAIR_SWITCH (R336): Command 0x0901 starts a hand-over to the synchronised standby. -/
def execPairSwitch (h : CmdHdr) (s : State) : Host.Outcome State Fault Refusal :=
  State.runHost (hostPairSwitch h) s

/-- PAIR_LEAVE (R336): Command 0x0902 makes a standby or joining device DETACHED. -/
def execPairLeave (h : CmdHdr) (s : State) : Host.Outcome State Fault Refusal :=
  State.runHost (hostPairLeave h) s

/-- PAIR_CLAIM (R336): Command 0x0903 makes a device with a silent partner ACTIVE in SAFE_BLOCKED. -/
def execPairClaim (h : CmdHdr) (s : State) : Host.Outcome State Fault Refusal :=
  State.runHost (hostPairClaim h) s

/-- PAIR_REJOIN (R336): Command 0x0904 restarts joining from step 1. -/
def execPairRejoin (h : CmdHdr) (s : State) : Host.Outcome State Fault Refusal :=
  State.runHost (hostPairRejoin h) s

/-- FLT_CLEAR (R421): Command 0x0A00 clears the matching active fault bits whose class allows it at the next rim. -/
def execFltClear (h : CmdHdr) (source kind : Nat) (s : State) : Host.Outcome State Fault Refusal :=
  State.runHost (hostFltClear h source kind) s

/-- FLT_DRAIN (R420): Command 0x0A01 copies and removes the fault queue and coalescing table into a host buffer. -/
def execFltDrain (h : CmdHdr) (clearLost : Bool) (buf : OutBuf) (s : State) : Host.Outcome State Fault Refusal :=
  State.runHost (hostFltDrain h clearLost buf) s

/-- PWR_DOMAIN (R477): Command 0x0B00 switches the named switchable power domains on or off. -/
def execPwrDomain (h : CmdHdr) (mask on : Nat) (s : State) : Host.Outcome State Fault Refusal :=
  State.runHost (hostPwrDomain h mask on) s

/-- DEV_RESTART (R408): Command 0x0B01 commits its completion, replies and schedules a restart 1 ms later. -/
def execDevRestart (h : CmdHdr) (s : State) : Host.Outcome State Fault Refusal :=
  State.runHost (hostDevRestart h) s

/-- ADC_CAL (R55): Command 0x0C00 starts the self-calibration of all powered converters. -/
def execAdcCal (h : CmdHdr) (s : State) : Host.Outcome State Fault Refusal :=
  State.runHost (hostAdcCal h) s

/-- STATS_CLEAR (R408): Command 0x0F00 resets SLACK_MIN and the stage maxima at the next rim. -/
def execStatsClear (h : CmdHdr) (s : State) : Host.Outcome State Fault Refusal :=
  State.runHost (hostStatsClear h) s

/-- FIR_TEST_EDGE (R202): Command 0x0F20 queues a host-forced test edge for one cell. -/
def execFirTestEdge (h : CmdHdr) (entry code time : Nat) (s : State) : Host.Outcome State Fault Refusal :=
  State.runHost (hostFirTestEdge h entry code time) s

/-- FIR_TEST_END (R204): Command 0x0F21 returns one or all cells under test to block. -/
def execFirTestEnd (h : CmdHdr) (entry : Nat) (s : State) : Host.Outcome State Fault Refusal :=
  State.runHost (hostFirTestEnd h entry) s

/-- FIR_TEST_HOLD_EXPIRE (R204): FIR_TEST_HOLD frames pass since a cell's last test edge and the cell returns to
block. -/
def execFirTestHoldExpire (entry : Nat) (s : State) : Host.Outcome State Fault Refusal :=
  State.run (testHoldExpire entry) s

/-- FCS1_IDENT (R409): FCS-1 opcode 0x0001 executes as SESSION_INFO. -/
def execFcs1Ident (h : CmdHdr) (s : State) : Host.Outcome State Fault Refusal :=
  State.runHost (hostFcs1Ident h) s

/-- FCS1_NOP (R409): FCS-1 opcode 0x0002 executes as ECHO. -/
def execFcs1Nop (h : CmdHdr) (v : Nat) (s : State) : Host.Outcome State Fault Refusal :=
  State.runHost (hostFcs1Nop h v) s

/-- FCS1_GET_PARAM (R409): FCS-1 opcode 0x0010 executes as PARAM_GET with 32-bit reply values. -/
def execFcs1GetParam (h : CmdHdr) (id : Nat) (s : State) : Host.Outcome State Fault Refusal :=
  State.runHost (hostFcs1GetParam h id) s

/-- FCS1_SET_PARAM (R409): FCS-1 opcode 0x0011 executes as PARAM_SET with a sign-extended value. -/
def execFcs1SetParam (h : CmdHdr) (id : Nat) (v : Int) (s : State) : Host.Outcome State Fault Refusal :=
  State.runHost (hostFcs1SetParam h id v) s

/-- FCS1_LOAD_PARAMS (R409): FCS-1 opcode 0x0012 executes as PARAM_BLOCK_SET. -/
def execFcs1LoadParams (h : CmdHdr) (entries : List (Nat × Int)) (s : State) : Host.Outcome State Fault Refusal :=
  State.runHost (hostFcs1LoadParams h entries) s

/-- FCS1_ENABLE (R409): FCS-1 opcode 0x0020 executes as CONV_ARM. -/
def execFcs1Enable (h : CmdHdr) (s : State) : Host.Outcome State Fault Refusal :=
  State.runHost (hostFcs1Enable h) s

/-- FCS1_DISABLE (R409): FCS-1 opcode 0x0021 executes as CONV_DISARM. -/
def execFcs1Disable (h : CmdHdr) (s : State) : Host.Outcome State Fault Refusal :=
  State.runHost (hostFcs1Disable h) s

/-- FCS1_START (R409): FCS-1 opcode 0x0022 executes as CONV_RUN. -/
def execFcs1Start (h : CmdHdr) (s : State) : Host.Outcome State Fault Refusal :=
  State.runHost (hostFcs1Start h) s

/-- FCS1_STOP (R409): FCS-1 opcode 0x0023 executes as CONV_SAFE_STOP. -/
def execFcs1Stop (h : CmdHdr) (s : State) : Host.Outcome State Fault Refusal :=
  State.runHost (hostFcs1Stop h) s

/-- FCS1_BLOCK (R409): FCS-1 opcode 0x0024 executes as CONV_SAFE_BLOCK. -/
def execFcs1Block (h : CmdHdr) (s : State) : Host.Outcome State Fault Refusal :=
  State.runHost (hostFcs1Block h) s

/-- FCS1_RESET_BLOCK (R409): FCS-1 opcode 0x0025 executes as CONV_RECOVER. -/
def execFcs1ResetBlock (h : CmdHdr) (s : State) : Host.Outcome State Fault Refusal :=
  State.runHost (hostFcs1ResetBlock h) s

/-- FCS1_SERVICE (R409): FCS-1 opcode 0x0026 executes as CONV_MAINT. -/
def execFcs1Service (h : CmdHdr) (s : State) : Host.Outcome State Fault Refusal :=
  State.runHost (hostFcs1Service h) s

/-- FCS1_SERVICE_END (R409): FCS-1 opcode 0x0027 executes as CONV_MAINT_END. -/
def execFcs1ServiceEnd (h : CmdHdr) (s : State) : Host.Outcome State Fault Refusal :=
  State.runHost (hostFcs1ServiceEnd h) s

/-- FCS1_TRIP_RESET (R409): FCS-1 opcode 0x0028 executes as TRP_CLEAR with TG = 0. -/
def execFcs1TripReset (h : CmdHdr) (inputs : Nat) (idle : List Nat) (s : State) : Host.Outcome State Fault Refusal :=
  State.runHost (hostFcs1TripReset h inputs idle) s

/-- FCS1_RAMP (R409): FCS-1 opcode 0x0030 executes as REF_QUEUE for members 0 to 3. -/
def execFcs1Ramp (h : CmdHdr) (group mask dur : Nat) (targets : List Int) (s : State) : Host.Outcome State Fault Refusal :=
  State.runHost (hostFcs1Ramp h group mask dur targets) s

/-- FCS1_RAMP_STOP (R409): FCS-1 opcode 0x0031 executes as REF_STOP. -/
def execFcs1RampStop (h : CmdHdr) (group : Nat) (s : State) : Host.Outcome State Fault Refusal :=
  State.runHost (hostFcs1RampStop h group) s

/-- FCS1_CELL_ADD (R409): FCS-1 opcode 0x0040 executes as CELL_BIND with a 32-bit identity. -/
def execFcs1CellAdd (h : CmdHdr) (b : BindArgs) (s : State) : Host.Outcome State Fault Refusal :=
  State.runHost (hostFcs1CellAdd h b) s

/-- FCS1_CELL_REMOVE (R409): FCS-1 opcode 0x0041 executes as CELL_UNBIND of one entry. -/
def execFcs1CellRemove (h : CmdHdr) (entry : Nat) (s : State) : Host.Outcome State Fault Refusal :=
  State.runHost (hostFcs1CellRemove h entry) s

/-- FCS1_CELL_BLOCK (R409): FCS-1 opcode 0x0042 executes as CELL_BLOCK of one entry. -/
def execFcs1CellBlock (h : CmdHdr) (entry : Nat) (s : State) : Host.Outcome State Fault Refusal :=
  State.runHost (hostFcs1CellBlock h entry) s

/-- FCS1_CELL_UNBLOCK (R409): FCS-1 opcode 0x0043 executes as CELL_RELEASE of one entry. -/
def execFcs1CellUnblock (h : CmdHdr) (entry : Nat) (s : State) : Host.Outcome State Fault Refusal :=
  State.runHost (hostFcs1CellUnblock h entry) s

/-- FCS1_CELL_BYPASS (R409): FCS-1 opcode 0x0044 executes as CELL_BYPASS of one entry. -/
def execFcs1CellBypass (h : CmdHdr) (entry : Nat) (s : State) : Host.Outcome State Fault Refusal :=
  State.runHost (hostFcs1CellBypass h entry) s

/-- FCS1_CELL_SWAP (R409): FCS-1 opcode 0x0045 executes as CELL_REPLACE with a 32-bit identity. -/
def execFcs1CellSwap (h : CmdHdr) (entry cellId : Nat) (s : State) : Host.Outcome State Fault Refusal :=
  State.runHost (hostFcs1CellSwap h entry cellId) s

/-- FCS1_LINK_RESET (R409): FCS-1 opcode 0x0050 executes as LNK_RESTART. -/
def execFcs1LinkReset (h : CmdHdr) (mask : Nat) (s : State) : Host.Outcome State Fault Refusal :=
  State.runHost (hostFcs1LinkReset h mask) s

/-- FCS1_CAPTURE_ARM (R409): FCS-1 opcode 0x0060 executes as TRC_ARM. -/
def execFcs1CaptureArm (h : CmdHdr) (s : State) : Host.Outcome State Fault Refusal :=
  State.runHost (hostFcs1CaptureArm h) s

/-- FCS1_CAPTURE_FORCE (R409): FCS-1 opcode 0x0061 executes as TRC_TRIGGER. -/
def execFcs1CaptureForce (h : CmdHdr) (s : State) : Host.Outcome State Fault Refusal :=
  State.runHost (hostFcs1CaptureForce h) s

/-- FCS1_SAVE (R409): FCS-1 opcode 0x0070 executes as JNL_SYNC. -/
def execFcs1Save (h : CmdHdr) (s : State) : Host.Outcome State Fault Refusal :=
  State.runHost (hostFcs1Save h) s

/-- FCS1_CALIBRATE (R409): FCS-1 opcode 0x0080 executes as ADC_CAL. -/
def execFcs1Calibrate (h : CmdHdr) (s : State) : Host.Outcome State Fault Refusal :=
  State.runHost (hostFcs1Calibrate h) s

/-- FCS1_CLEAR_FAULTS (R409): FCS-1 opcode 0x0090 executes as FLT_CLEAR of all faults. -/
def execFcs1ClearFaults (h : CmdHdr) (s : State) : Host.Outcome State Fault Refusal :=
  State.runHost (hostFcs1ClearFaults h) s

/-- FCS1_STATS_RESET (R409): FCS-1 opcode 0x00F0 executes as STATS_CLEAR. -/
def execFcs1StatsReset (h : CmdHdr) (s : State) : Host.Outcome State Fault Refusal :=
  State.runHost (hostFcs1StatsReset h) s

end Sys2Proof.Machine
end

