-- ==== Sys2Proof/Machine/LaneCmd.lean ====
section
/-! DEFINITION. The commands of the cell lanes: one meaning per row of the operation table. -/

namespace Sys2Proof.Machine

open Sys2Proof

/-- LNK_LIGHT_DETECT (R225): A lane in DETECT finds light and moves to TRAIN. -/
def execLnkLightDetect (lane : Nat) (s : State) : Host.Outcome State Fault Refusal :=
  State.run (lightDetect lane) s

/-- LNK_DETECT_FLAG (R225): LNK_DETECT_FLAG passes in DETECT without light and NO_LIGHT is set. -/
def execLnkDetectFlag (lane : Nat) (s : State) : Host.Outcome State Fault Refusal :=
  State.run (detectFlag lane) s

/-- LNK_EQ_DWELL_END (R222): A row's dwell ends and its figure of merit is taken; after the last row a row is adopted.
-/
def execLnkEqDwellEnd (lane w h clean : Nat) (dsErr : Bool) (s : State) : Host.Outcome State Fault Refusal :=
  State.run (dwellEnd lane w h clean dsErr) s

/-- LNK_ALIGN_LOCK (R226): Lock and polarity settle in ALIGN and the lane moves to CAPS or OBSERVE. -/
def execLnkAlignLock (lane : Nat) (rxInv : Bool) (dsInv : List Bool) (s : State) : Host.Outcome State Fault Refusal :=
  State.run (alignLock lane rxInv dsInv) s

/-- LNK_ALIGN_TO (R225): LNK_ALIGN_TO passes in ALIGN and bring-up fails with ALIGN_TO. -/
def execLnkAlignTo (lane : Nat) (s : State) : Host.Outcome State Fault Refusal :=
  State.run (alignTo lane) s

/-- LNK_CAPS_QUIET (R225): LNK_CAPS_QUIET passes since the last new identity and the lane moves to DISCOVER. -/
def execLnkCapsQuiet (lane : Nat) (s : State) : Host.Outcome State Fault Refusal :=
  State.run (capsQuiet lane) s

/-- LNK_CAPS_TO (R225): LNK_CAPS_TO passes with no capability and bring-up fails with CAPS_TO. -/
def execLnkCapsTo (lane : Nat) (s : State) : Host.Outcome State Fault Refusal :=
  State.run (capsTo lane) s

/-- LNK_DISC_ROUND_END (R264): The first discovery round ends and the lane goes ACTIVE at the next rim or fails. -/
def execLnkDiscRoundEnd (lane : Nat) (s : State) : Host.Outcome State Fault Refusal :=
  State.run (fun x => if lane < 24 then discRound lane x else x) s

/-- LNK_DISC_TO (R264): CEV_DISC_TO passes in DISCOVER and bring-up fails with DISC_TO. -/
def execLnkDiscTo (lane : Nat) (s : State) : Host.Outcome State Fault Refusal :=
  State.run (discTo lane) s

/-- LNK_RETRY_WAIT_END (R225): LNK_RETRY_WAIT passes in FAILED and the lane returns to DETECT. -/
def execLnkRetryWaitEnd (lane : Nat) (s : State) : Host.Outcome State Fault Refusal :=
  State.run (retryWaitEnd lane) s

/-- LNK_LOS (R228): An ACTIVE lane without lock for LNK_LOS_FRAMES frames returns to DETECT and its entries become
ABSENT. -/
def execLnkLos (lane : Nat) (s : State) : Host.Outcome State Fault Refusal :=
  State.run (Machine.lnkLos lane) s

/-- REPORT_BURST (R266): An upstream report burst is received, checked and processed by the fault, feedback and
observer rules. -/
def execReportBurst (b : Burst) (s : State) : Host.Outcome State Fault Refusal :=
  State.run (Machine.reportBurst b) s

/-- BURST_LOCK_FAIL (R216): A scheduled burst slot fails to lock and is counted and passed on as missing. -/
def execBurstLockFail (lane slot : Nat) (s : State) : Host.Outcome State Fault Refusal :=
  State.run (Machine.burstLockFail lane slot) s

/-- PHASE_CACHE_STALE (R217): A slot's MISS count reaches LNK_PC_STALE and its phase-cache entry becomes invalid. -/
def execPhaseCacheStale (lane slot : Nat) (s : State) : Host.Outcome State Fault Refusal :=
  State.run (pcStale lane slot) s

/-- RANGING_BURST (R262): A ranging burst is received, its delay computed and accepted or failed. -/
def execRangingBurst (b : Burst) (s : State) : Host.Outcome State Fault Refusal :=
  State.run (Machine.rangingBurst b) s

/-- BEACON (R220): A cell's beacon is received and its capabilities collected. -/
def execBeacon (b : Burst) (s : State) : Host.Outcome State Fault Refusal :=
  State.run (Machine.beacon b) s

/-- ANNOUNCE (R263): A cell without a slot announces its identity in an announce window. -/
def execAnnounce (b : Burst) (s : State) : Host.Outcome State Fault Refusal :=
  State.run (Machine.announce b) s

/-- C1_REPORT (R271): A Cevel-1 concentrator report message is received for one port. -/
def execC1Report (lane : Nat) (bytes : List Byte) (t : Nat) (s : State) : Host.Outcome State Fault Refusal :=
  State.run (Machine.c1Report lane bytes t) s

/-- C1_RANGING_ANSWER (R269): A Cevel-1 concentrator ranging answer is received and its delay derived. -/
def execC1RangingAnswer (lane : Nat) (bytes : List Byte) (tLock : Nat) (s : State) : Host.Outcome State Fault Refusal :=
  State.run (c1Answer lane bytes tLock) s

/-- C1_CAPABILITY (R271): A Cevel-1 capability message is received for a port or the concentrator. -/
def execC1Capability (lane : Nat) (bytes : List Byte) (t : Nat) (s : State) : Host.Outcome State Fault Refusal :=
  State.run (Machine.c1Capability lane bytes t) s

end Sys2Proof.Machine
end

