-- ==== Sys2Proof/Machine/PairCmd.lean ====
section
/-! DEFINITION. The commands of the redundant pair: one meaning per row of the operation table. -/

namespace Sys2Proof.Machine

open Sys2Proof

/-- PARTNER_LINK_LOCK (R317): A partner link locks and HELLO is exchanged. -/
def execPartnerLinkLock (link : Nat) (s : State) : Host.Outcome State Fault Refusal :=
  State.run (Machine.partnerLinkLock link) s

/-- HB (R318): A heartbeat message is received from the partner. -/
def execHb (p : PHdr) (m : HbMsg) (s : State) : Host.Outcome State Fault Refusal :=
  State.runHost (pairMsg p (hbTake p m)) s

/-- ROD (R320): A ROD message is received and its per-rod state replaces the standby's at the next rim. -/
def execRod (p : PHdr) (rods : List RodRec) (phases : List Nat) (s : State) : Host.Outcome State Fault Refusal :=
  State.run (pairMsg p (rodTake p rods phases)) s

/-- CELL (R320): A CELL message is received and its changed entry words replace the standby's at the next rim. -/
def execCell (p : PHdr) (cells : List CellRec) (s : State) : Host.Outcome State Fault Refusal :=
  State.run (pairMsg p (cellTake p cells)) s

/-- MIRROR (R329): A MIRROR message is received and the standby stores the command and sends MIR_ACK. -/
def execMirror (p : PHdr) (pair gen seq : Nat) (bytes : List Byte) (s : State) : Host.Outcome State Fault Refusal :=
  State.run (pairMsg p (mirrorTake pair gen seq bytes)) s

/-- MIR_ACK (R329): A MIR_ACK is received and the mirrored command is accepted as MIRRORED. -/
def execMirAck (p : PHdr) (pair seq : Nat) (t : Nat) (s : State) : Host.Outcome State Fault Refusal :=
  State.runHost (pairMsg p (mirAckTake pair seq t)) s

/-- EXEC (R330): An EXEC message is received and the standby stores it and sends EXEC_ACK. -/
def execPartnerExec (p : PHdr) (pair seq num : Nat) (s : State) : Host.Outcome State Fault Refusal :=
  State.runHost (pairMsg p (execTake pair seq num)) s

/-- EXEC_ACK (R330): An EXEC_ACK is received and the active device executes the mirrored command. -/
def execExecAck (p : PHdr) (num : Nat) (s : State) : Host.Outcome State Fault Refusal :=
  State.runHost (pairMsg p (execAckTake num)) s

/-- LOOP (R322): A LOOP record is received and corrects the standby's loop states at the next rim. -/
def execLoop (p : PHdr) (recs : List LoopRec) (s : State) : Host.Outcome State Fault Refusal :=
  State.run (pairMsg p (loopTake p recs)) s

/-- OBS (R322): An OBS record is received and corrects the standby's estimates and capacitances. -/
def execObs (p : PHdr) (recs : List ObsRec) (s : State) : Host.Outcome State Fault Refusal :=
  State.run (pairMsg p (obsTake p recs)) s

/-- IMAGE (R332): An IMAGE message is received by a joining device and written to its journal. -/
def execImage (p : PHdr) (m : ImageMsg) (s : State) : Host.Outcome State Fault Refusal :=
  State.run (pairMsg p (imageTake m)) s

/-- HELLO (R332): A HELLO message is received and compatibility is compared. -/
def execHello (p : PHdr) (m : HelloMsg) (s : State) : Host.Outcome State Fault Refusal :=
  State.run (pairMsg p (helloTake m)) s

/-- HOVER_ACK (R328): A HOVER_ACK is received for an announced hand-over. -/
def execHoverAck (p : PHdr) (fn : Nat) (s : State) : Host.Outcome State Fault Refusal :=
  State.run (pairMsg p (hoverAckTake fn)) s

/-- MX_FS_DETECT (R324): A frame start of the partner is detected on a monitor input. -/
def execMxFsDetect (lane fn sys t : Nat) (f : Option MxFrame) (s : State) : Host.Outcome State Fault Refusal :=
  State.runHost (Machine.mxFsDetect lane fn sys t f) s

/-- PAIR_SPLIT (R334): An ACTIVE device sees the partner's frames for 2 frames, goes dark, sets Safe Block and
detaches. -/
def execPairSplit (s : State) : Host.Outcome State Fault Refusal :=
  State.runHost (Machine.pairSplit) s

/-- HEARTBEAT_JUDGE (R324): At rim n + 300 ns the standby judges the heartbeat and takes over after two missing. -/
def execHeartbeatJudge (s : State) : Host.Outcome State Fault Refusal :=
  State.runHost (Machine.heartbeatJudge) s

/-- HANDOVER_JUDGE (R328): At rim m − 128 ns the active device completes or voids the announced hand-over. -/
def execHandoverJudge (s : State) : Host.Outcome State Fault Refusal :=
  State.runHost (Machine.handoverJudge) s

/-- HANDOVER_MONITOR_CHECK (R328): At rim m + 300 ns an acknowledging standby takes the role unless it saw the active
device's frame. -/
def execHandoverMonitorCheck (s : State) : Host.Outcome State Fault Refusal :=
  State.runHost (Machine.handoverMonitorCheck) s

/-- PAIR_WAIT_END (R314): PAIR_WAIT ends after the restore and the device chooses its pair role. -/
def execPairWaitEnd (s : State) : Host.Outcome State Fault Refusal :=
  State.run (Machine.pairWaitEnd) s

/-- JOIN_STEP_DONE (R332): A resynchronisation step completes and the next begins, ending with STANDBY and SYNCED. -/
def execJoinStepDone (s : State) : Host.Outcome State Fault Refusal :=
  State.runHost (Machine.joinStepDone) s

/-- PAIR_JOIN_SLOW (R332): A joining step exceeds its bound and joining restarts from step 1. -/
def execPairJoinSlow (s : State) : Host.Outcome State Fault Refusal :=
  State.run (Machine.pairJoinSlow) s

/-- SYNCED_LOSS (R333): Link loss, grid offset or skew persists for its count and the standby returns to JOINING. -/
def execSyncedLoss (s : State) : Host.Outcome State Fault Refusal :=
  State.runHost (Machine.syncedLoss) s

/-- PAIR_TABLE_DIFF (R323): A TABLE_CRC difference lasting 16 consecutive frames raises a warning. -/
def execPairTableDiff (s : State) : Host.Outcome State Fault Refusal :=
  State.run (Machine.pairTableDiff) s

/-- BRD_PRES_HIGH (R334): The device's own BRD_PRES_N is high for 1 µs and it hands over, blocks or detaches. -/
def execBrdPresHigh (s : State) : Host.Outcome State Fault Refusal :=
  State.runHost (Machine.brdPresHigh) s

/-- PTNR_PRES_HIGH (R334): PTNR_PRES_N goes high and the partner is taken as absent. -/
def execPtnrPresHigh (s : State) : Host.Outcome State Fault Refusal :=
  State.runHost (Machine.ptnrPresHigh) s

end Sys2Proof.Machine
end

