-- ==== Sys2Proof/Machine/ProtCmd.lean ====
section
/-! DEFINITION. The commands of trips, Safe Stop, Safe Block and telegrams: one meaning per row of the operation table. -/

namespace Sys2Proof.Machine

open Sys2Proof

/-- TRIP_FILTER_PASS (R280): A trip input passes its filter, latches, records its time and reports TRP_LATCH. -/
def execTripFilterPass (input t : Nat) (s : State) : Host.Outcome State Fault Refusal :=
  State.run (fun x => trcTrip input t x (Machine.tripFilterPass input t x)) s

/-- TRP_HOLD_ESC (R286): A rod under hold for TRP_HOLD_MAX consecutive rims receives a block escalation. -/
def execTrpHoldEsc (rod : Nat) (s : State) : Host.Outcome State Fault Refusal :=
  State.run (holdEscalate rod) s

/-- TRP_PAIR_DIFF (R289): A trip latch that differs between the partners for 2 consecutive rims raises a warning. -/
def execTrpPairDiff (input : Nat) (s : State) : Host.Outcome State Fault Refusal :=
  State.run (tripPairDiff input) s

/-- SBK_ENV (R299): A rod outside the Safe Stop envelope for SBK_VIOL_FRAMES consecutive steps raises Safe Block by
the injected path. -/
def execSbkEnv (rod : Nat) (s : State) : Host.Outcome State Fault Refusal :=
  State.run (sbkEnv rod) s

/-- SAFE_STOP_COMPLETE (R300): Safe Stop completes at the rim that ends the qualifying step or the tail, entering
SAFE_BLOCKED. -/
def execSafeStopComplete (s : State) : Host.Outcome State Fault Refusal :=
  State.run (Machine.safeStopComplete) s

/-- TELEGRAM_RECEIVE (R304): A safety telegram frame is received on a station LAN and checked. -/
def execTelegramReceive (lan : Nat) (bytes : List Byte) (t : Nat) (s : State) : Host.Outcome State Fault Refusal :=
  State.run (Machine.telegramReceive lan bytes t) s

/-- SBK_TG_LOSS (R307): A new copy has no match by rim f1 + 2 and the loss fault is raised. -/
def execSbkTgLoss (lan : Nat) (s : State) : Host.Outcome State Fault Refusal :=
  State.run (tgLoss lan) s

/-- SBK_TG_SILENCE (R305): One or both LANs are silent for SBK_TG_TIMEOUT and SBK_TG_LANE or SBK_TG_SILENT is raised.
-/
def execSbkTgSilence (t : Nat) (s : State) : Host.Outcome State Fault Refusal :=
  State.run (tgSilence t) s

end Sys2Proof.Machine
end

