-- ==== Sys2Proof/Machine/SysCmd.lean ====
section
/-! DEFINITION. The commands of faults, recorders, journal, supervisor cores, power and start-up: one meaning per row of the operation table. -/

namespace Sys2Proof.Machine

open Sys2Proof

/-- ECC_ERROR (R415): An ECC error is found in on-chip memory and corrected, reported or made fatal by region. -/
def execEccError (region addr : Nat) (corrected : Bool) (s : State) : Host.Outcome State Fault Refusal :=
  State.run (Machine.eccError region addr corrected) s

/-- FLT_SELF (R422): A collector self-check fails and fatal line FL1 asserts. -/
def execFltSelf (s : State) : Host.Outcome State Fault Refusal :=
  State.run (Machine.fltSelf) s

/-- SUPPLY_FAIL (R422): A rail of a powered domain is outside its limits for 1 µs and fatal line FL4 asserts. -/
def execSupplyFail (domain : Nat) (s : State) : Host.Outcome State Fault Refusal :=
  State.run (Machine.supplyFail domain) s

/-- TEMP_CRIT (R422): Tj lies 10 °C above the variant's maximum for 1 ms and fatal line FL5 asserts. -/
def execTempCrit (s : State) : Host.Outcome State Fault Refusal :=
  State.run (Machine.tempCrit) s

/-- FATAL_DARK (R422): At rim m + 100 ns after a blocking fatal line the device goes dark. -/
def execFatalDark (s : State) : Host.Outcome State Fault Refusal :=
  State.run (Machine.fatalDark) s

/-- TEMP_HIGH (R492): Tj reaches the maximum less PWR_TEMP_WARN and a warning is raised. -/
def execTempHigh (tj : Int) (s : State) : Host.Outcome State Fault Refusal :=
  State.run (Machine.tempHigh tj) s

/-- FAULT_MESSAGE (R413): A fault message arrives at the collector and is classified, recorded and acted on. -/
def execFaultMessage (msg : BitVec 64) (s : State) : Host.Outcome State Fault Refusal :=
  State.run (Machine.faultMessage msg) s

/-- TRC_PRE_FULL (R433): TRC_PRE words have been written and the recorder becomes READY. -/
def execTrcPreFull (s : State) : Host.Outcome State Fault Refusal :=
  State.run (Machine.trcPreFull) s

/-- TRC_EDGE_TRIGGER (R437): A sample or value of the trigger slot crosses the level with hysteresis and fires a
trigger. -/
def execTrcEdgeTrigger (t : Nat) (v : Int) (s : State) : Host.Outcome State Fault Refusal :=
  State.run (Machine.trcEdgeTrigger t v) s

/-- TRC_MASK_VIOLATION (R438): A stored word outside its slot's mask is counted and may trigger or stop a capture. -/
def execTrcMaskViolation (slot t : Nat) (v : Int) (s : State) : Host.Outcome State Fault Refusal :=
  State.run (Machine.trcMaskViolation slot t v) s

/-- TRC_POST_COMPLETE (R435): The capture's post-trigger words are written and the capture completes. -/
def execTrcPostComplete (s : State) : Host.Outcome State Fault Refusal :=
  State.run (Machine.trcPostComplete) s

/-- TRIG_LINE_FIRE (R439): A falling edge on the fire line triggers the recorder. -/
def execTrigLineFire (t : Nat) (s : State) : Host.Outcome State Fault Refusal :=
  State.run (Machine.trigLineFire t) s

/-- TRIG_LINE_ARM (R439): A falling edge on the arm line arms a follower recorder. -/
def execTrigLineArm (s : State) : Host.Outcome State Fault Refusal :=
  State.run (Machine.trigLineArm) s

/-- EVR_TRIGGER (R446): A cause of an event record is queued or dropped. -/
def execEvrTrigger (typ : Nat) (cause : BitVec 64) (t : Nat) (s : State) : Host.Outcome State Fault Refusal :=
  State.run (Machine.evrTrigger typ cause.toNat t) s

/-- EVR_RECORD_WRITE (R449): A queued event record is written to event memory and, while room lasts, to the first
area. -/
def execEvrRecordWrite (s : State) : Host.Outcome State Fault Refusal :=
  State.run (Machine.evrRecordWrite) s

/-- JNL_RECORD_COMMIT (R453): A journal record's COMMIT is programmed in both flashes and the waiting acceptance or
reply proceeds. -/
def execJnlRecordCommit (jseq : Nat) (s : State) : Host.Outcome State Fault Refusal :=
  State.runHost (Machine.jnlRecordCommit jseq) s

/-- JNL_FLASH_FAIL (R456): A flash operation fails or times out and the flash leaves service. -/
def execJnlFlashFail (flash addr : Nat) (s : State) : Host.Outcome State Fault Refusal :=
  State.runHost (Machine.jnlFlashFail flash addr) s

/-- JNL_COMPACTION_START (R457): The blocks in use reach JNL_COMPACT_AT and a checkpoint compaction starts. -/
def execJnlCompactionStart (s : State) : Host.Outcome State Fault Refusal :=
  State.run (Machine.jnlCompactionStart) s

/-- BLOCK_ERASE_DONE (R457): A background block erase completes and the block becomes free. -/
def execBlockEraseDone (s : State) : Host.Outcome State Fault Refusal :=
  State.run (Machine.blockEraseDone) s

/-- TASK_ENQUEUE (R464): A task descriptor is enqueued to its level, preempting, spilling or stalling as needed. -/
def execTaskEnqueue (cls source t : Nat) (s : State) : Host.Outcome State Fault Refusal :=
  State.run (Machine.taskEnqueue cls source t) s

/-- CORE_FREE (R465): A core becomes free and the scheduler dispatches the next eligible descriptor. -/
def execCoreFree (core t : Nat) (s : State) : Host.Outcome State Fault Refusal :=
  State.run (Machine.coreFree core t) s

/-- SUP_WDOG (R468): A core's watchdog reaches SCH_WDOG and fatal line FL3 asserts. -/
def execSupWdog (core : Nat) (s : State) : Host.Outcome State Fault Refusal :=
  State.run (supWdog core) s

/-- SCH_LOAD_WINDOW_END (R472): A load window ends, core loads are published and SCH_LOAD may be raised. -/
def execSchLoadWindowEnd (busy : List Nat) (s : State) : Host.Outcome State Fault Refusal :=
  State.run (Machine.schLoadWindowEnd busy) s

/-- POWER_ON (R479): VDD_AON rises into its limits and the whole device is reset. -/
def execPowerOn (s : State) : Host.Outcome State Fault Refusal :=
  State.run (Machine.powerOn) s

/-- BOARD_RESET (R479): RESET_N is low for at least 1 µs and all but AON is reset. -/
def execBoardReset (s : State) : Host.Outcome State Fault Refusal :=
  State.run (Machine.boardReset) s

/-- LEAVE_RESET (R481): Reset, rail and presence conditions have held and the device leaves reset into the start-up
sequence. -/
def execLeaveReset (sys : Nat) (s : State) : Host.Outcome State Fault Refusal :=
  State.run (Machine.leaveReset sys) s

/-- START_UP_STEP (R482): A step of the start-up sequence completes and the next begins. -/
def execStartUpStep (inp : StartIn) (s : State) : Host.Outcome State Fault Refusal :=
  State.run (Machine.startUpStep inp) s

/-- DOMAIN_SWITCHED (R478): A power domain finishes switching on or off and the next named domain starts. -/
def execDomainSwitched (s : State) : Host.Outcome State Fault Refusal :=
  State.runHost (Machine.domainSwitched) s

/-- PWR_FAIL_ASSERT (R458): PWR_FAIL_N asserts and the journal's power-fail sequence starts. -/
def execPwrFailAssert (done : List Nat) (s : State) : Host.Outcome State Fault Refusal :=
  State.run (Machine.pwrFailAssert done) s

/-- PWR_FAIL_SEQUENCE_END (R458): The power-fail sequence ends and the journal becomes healthy again if PWR_FAIL_N is
high. -/
def execPwrFailSequenceEnd (high : Bool) (s : State) : Host.Outcome State Fault Refusal :=
  State.run (Machine.pwrFailSequenceEnd high) s

/-- FATAL_RESTART (R480): 10 ms after going dark, with no fatal line asserted, the device restarts or halts at the
limit. -/
def execFatalRestart (t : Nat) (s : State) : Host.Outcome State Fault Refusal :=
  State.run (Machine.fatalRestart t) s

/-- DEV_RESTART_EXPIRE (R479): 1 ms after a DEV_RESTART reply the commanded restart resets all but AON. -/
def execDevRestartExpire (s : State) : Host.Outcome State Fault Refusal :=
  State.run (Machine.devRestartExpire) s

/-- PARTNER_LINK_DOWN (R334): A partner link loses lock, raising PAIR_LINK_DOWN or, with both down, PAIR_LINKS_LOST,
and counting in PAIR_LINKS.DOWNS. -/
def execPartnerLinkDown (link : Nat) (s : State) : Host.Outcome State Fault Refusal :=
  State.runHost (Machine.partnerLinkDown link) s

/-- MONITOR_LOST (R334): A standby loses the partner's downstream on a lane's CL_MXk while the links remain, raising
PAIR_MX_LOST and counting that lane's plans as held. -/
def execMonitorLost (lane : Nat) (s : State) : Host.Outcome State Fault Refusal :=
  State.run (Machine.monitorLost lane) s

/-- POWER_LOSS (R476): VDD_AON falls below its limits and the device holds every domain off and every output undriven,
entering OFF. -/
def execPowerLoss (s : State) : Host.Outcome State Fault Refusal :=
  State.run (Machine.powerLoss) s

end Sys2Proof.Machine
end

