-- ==== Sys2Proof/Machine/TimeCmd.lean ====
section
/-! DEFINITION. The commands of network time, timed outputs and clocks: one meaning per row of the operation table. -/

namespace Sys2Proof.Machine

open Sys2Proof

/-- PTP_SYNC (R345): A Sync message is accepted, its offset computed and the servo steered. -/
def execPtpSync (m : SyncMsg) (s : State) : Host.Outcome State Fault Refusal :=
  State.run (Machine.ptpSync m) s

/-- PTP_FOLLOW_UP (R345): A Follow_Up completes a two-step Sync and its offset is computed. -/
def execPtpFollowUp (m : SyncMsg) (s : State) : Host.Outcome State Fault Refusal :=
  State.run (Machine.ptpFollowUp m) s

/-- TIME_STEP (R346): Eight agreeing offsets above the threshold lead to a step, a domain switch or a held step. -/
def execTimeStep (s : State) : Host.Outcome State Fault Refusal :=
  State.run (timeStep) s

/-- PTP_ANNOUNCE (R343): An Announce message is received and the best master chosen per domain. -/
def execPtpAnnounce (port domain : Nat) (ds : MasterDs) (s : State) : Host.Outcome State Fault Refusal :=
  State.run (Machine.ptpAnnounce port domain ds) s

/-- PTP_ANNOUNCE_TIMEOUT (R343): Three Announce intervals pass without receipt and the master is lost. -/
def execPtpAnnounceTimeout (port domain : Nat) (s : State) : Host.Outcome State Fault Refusal :=
  State.run (Machine.ptpAnnounceTimeout port domain) s

/-- PTP_SYNC_LOSS (R345): TIME_SYNC_LOSS sync intervals pass without a Sync and the domain becomes invalid, possibly
entering holdover. -/
def execPtpSyncLoss (dom : Nat) (s : State) : Host.Outcome State Fault Refusal :=
  State.run (Machine.ptpSyncLoss dom) s

/-- PTP_PDELAY_REQ (R343): A Pdelay_Req is received and answered with a two-step Pdelay_Resp. -/
def execPtpPdelayReq (port seqId rawG16 : Nat) (s : State) : Host.Outcome State Fault Refusal :=
  State.run (Machine.ptpPdelayReq port seqId rawG16) s

/-- PTP_PDELAY_RESP (R345): A Pdelay_Resp or its follow-up is received and a peer delay is measured. -/
def execPtpPdelayResp (m : PdelayMsg) (s : State) : Host.Outcome State Fault Refusal :=
  State.run (Machine.ptpPdelayResp m) s

/-- PDELAY_REQ_TIMER (R343): Once per second the device sends Pdelay_Req on each port. -/
def execPdelayReqTimer (s : State) : Host.Outcome State Fault Refusal :=
  State.run (Machine.pdelayReqTimer) s

/-- ETH_LINK_CHANGE (R342): A station LAN port link goes up or down. -/
def execEthLinkChange (port : Nat) (up : Bool) (s : State) : Host.Outcome State Fault Refusal :=
  State.run (Machine.ethLinkChange port up) s

/-- TOUT_FIRE (R351): An armed timed output reaches its target and goes to its active level. -/
def execToutFire (output : Nat) (s : State) : Host.Outcome State Fault Refusal :=
  State.run (toutFire output) s

/-- TOUT_PULSE_END (R351): A timed output's width count ends and it returns idle. -/
def execToutPulseEnd (output : Nat) (s : State) : Host.Outcome State Fault Refusal :=
  State.run (toutPulseEnd output) s

/-- PLL_LOCK (R358): The PLL band search and lock qualification complete. -/
def execPllLock (band us : Nat) (s : State) : Host.Outcome State Fault Refusal :=
  State.run (Machine.pllLock band us) s

/-- SYNC_IN_EDGE (R362): A rising edge at SYNC_IN while armed realigns the clock dividers. -/
def execSyncInEdge (t count wrap g : Nat) (s : State) : Host.Outcome State Fault Refusal :=
  State.run (Machine.syncInEdge t count wrap g) s

/-- SYNC_IN_TIMEOUT (R362): PLL_SYNC_TO passes without a SYNC_IN edge and SYNC_MISS is set. -/
def execSyncInTimeout (s : State) : Host.Outcome State Fault Refusal :=
  State.run (Machine.syncInTimeout) s

/-- PLL_UNLOCK (R363): The PLL loses lock, asserting fatal line FL0 and making the device dark. -/
def execPllUnlock (s : State) : Host.Outcome State Fault Refusal :=
  State.run (Machine.pllUnlock) s

end Sys2Proof.Machine
end

