-- ==== Sys2Proof/Machine/Dispatch.lean ====
section
/-! DEFINITION. One arm per command. -/

namespace Sys2Proof.Machine

open Sys2Proof

def exec (i : Instr) (s : State) : Host.Outcome State Fault Refusal :=
  match i with
  | .rim inp => Sys2Proof.Machine.execRim inp s
  | .frmGuard => Sys2Proof.Machine.execFrmGuard s
  | .frmOverrun2 => Sys2Proof.Machine.execFrmOverrun2 s
  | .fabricComplete t stages => Sys2Proof.Machine.execFabricComplete t stages s
  | .adcRodDisc rod => Sys2Proof.Machine.execAdcRodDisc rod s
  | .adcPlaus tri => Sys2Proof.Machine.execAdcPlaus tri s
  | .adcCalComplete t sums => Sys2Proof.Machine.execAdcCalComplete t sums s
  | .ctlFeReaction slot => Sys2Proof.Machine.execCtlFeReaction slot s
  | .suspectTimeout entry => Sys2Proof.Machine.execSuspectTimeout entry s
  | .suspectRecover entry => Sys2Proof.Machine.execSuspectRecover entry s
  | .missedLimit entry => Sys2Proof.Machine.execMissedLimit entry s
  | .skipLimit entry => Sys2Proof.Machine.execSkipLimit entry s
  | .obsReseed entry => Sys2Proof.Machine.execObsReseed entry s
  | .obsClBlock entry => Sys2Proof.Machine.execObsClBlock entry s
  | .trendPoint => Sys2Proof.Machine.execTrendPoint s
  | .tallyBatch => Sys2Proof.Machine.execTallyBatch s
  | .hostPortReset => Sys2Proof.Machine.execHostPortReset s
  | .pcieLinkDown => Sys2Proof.Machine.execPcieLinkDown s
  | .hifDbOpenLo v => Sys2Proof.Machine.execHifDbOpenLo v s
  | .hifDbOpenHi v => Sys2Proof.Machine.execHifDbOpenHi v s
  | .sessionOpenComplete desc => Sys2Proof.Machine.execSessionOpenComplete desc s
  | .hifDbClose v => Sys2Proof.Machine.execHifDbClose v s
  | .hifDbCmd pair v => Sys2Proof.Machine.execHifDbCmd pair v s
  | .hifDbRpl pair v => Sys2Proof.Machine.execHifDbRpl pair v s
  | .barWriteDiscarded bar off v => Sys2Proof.Machine.execBarWriteDiscarded bar off v s
  | .frmCountLoRead => Sys2Proof.Machine.execFrmCountLoRead s
  | .packetIntake pair bytes t => Sys2Proof.Machine.execPacketIntake pair bytes t s
  | .replyWrite pair => Sys2Proof.Machine.execReplyWrite pair s
  | .mirrorTimeout pair seq => Sys2Proof.Machine.execMirrorTimeout pair seq s
  | .sessionInfo h => Sys2Proof.Machine.execSessionInfo h s
  | .echo h v => Sys2Proof.Machine.execEcho h v s
  | .paramGet h id => Sys2Proof.Machine.execParamGet h id s
  | .paramSet h id v => Sys2Proof.Machine.execParamSet h id v s
  | .paramBlockSet h entries => Sys2Proof.Machine.execParamBlockSet h entries s
  | .paramBlockGet h first count buf => Sys2Proof.Machine.execParamBlockGet h first count buf s
  | .convStatus h => Sys2Proof.Machine.execConvStatus h s
  | .convArm h => Sys2Proof.Machine.execConvArm h s
  | .convDisarm h => Sys2Proof.Machine.execConvDisarm h s
  | .convRun h => Sys2Proof.Machine.execConvRun h s
  | .convBlock h => Sys2Proof.Machine.execConvBlock h s
  | .convSafeStop h => Sys2Proof.Machine.execConvSafeStop h s
  | .convSafeBlock h => Sys2Proof.Machine.execConvSafeBlock h s
  | .convRecover h => Sys2Proof.Machine.execConvRecover h s
  | .convMaint h => Sys2Proof.Machine.execConvMaint h s
  | .convMaintEnd h => Sys2Proof.Machine.execConvMaintEnd h s
  | .trpClear h inputs tg idle => Sys2Proof.Machine.execTrpClear h inputs tg idle s
  | .trpTest h inputs => Sys2Proof.Machine.execTrpTest h inputs s
  | .refQueue h e => Sys2Proof.Machine.execRefQueue h e s
  | .refReplace h e => Sys2Proof.Machine.execRefReplace h e s
  | .refStop h group => Sys2Proof.Machine.execRefStop h group s
  | .refPhaseLoad h nco frame phase => Sys2Proof.Machine.execRefPhaseLoad h nco frame phase s
  | .cellBind h b => Sys2Proof.Machine.execCellBind h b s
  | .cellUnbind h entry count => Sys2Proof.Machine.execCellUnbind h entry count s
  | .cellBlock h entry count => Sys2Proof.Machine.execCellBlock h entry count s
  | .cellRelease h entry count => Sys2Proof.Machine.execCellRelease h entry count s
  | .cellBypass h entry count => Sys2Proof.Machine.execCellBypass h entry count s
  | .cellReplace h entry cellId => Sys2Proof.Machine.execCellReplace h entry cellId s
  | .cellSet h entry mask minInt cNom => Sys2Proof.Machine.execCellSet h entry mask minInt cNom s
  | .cellLoad h first parts => Sys2Proof.Machine.execCellLoad h first parts s
  | .cellClear h entry count => Sys2Proof.Machine.execCellClear h entry count s
  | .lnkRestart h mask => Sys2Proof.Machine.execLnkRestart h mask s
  | .trcArm h => Sys2Proof.Machine.execTrcArm h s
  | .trcDisarm h => Sys2Proof.Machine.execTrcDisarm h s
  | .trcTrigger h => Sys2Proof.Machine.execTrcTrigger h s
  | .evrRecord h cause => Sys2Proof.Machine.execEvrRecord h cause s
  | .evrClearFirst h => Sys2Proof.Machine.execEvrClearFirst h s
  | .jnlSync h => Sys2Proof.Machine.execJnlSync h s
  | .jnlCompact h => Sys2Proof.Machine.execJnlCompact h s
  | .jnlExport h flash off len buf => Sys2Proof.Machine.execJnlExport h flash off len buf s
  | .toutArm h a => Sys2Proof.Machine.execToutArm h a s
  | .toutStop h output => Sys2Proof.Machine.execToutStop h output s
  | .timeSelect h domain => Sys2Proof.Machine.execTimeSelect h domain s
  | .timeStepNow h => Sys2Proof.Machine.execTimeStepNow h s
  | .pairSwitch h => Sys2Proof.Machine.execPairSwitch h s
  | .pairLeave h => Sys2Proof.Machine.execPairLeave h s
  | .pairClaim h => Sys2Proof.Machine.execPairClaim h s
  | .pairRejoin h => Sys2Proof.Machine.execPairRejoin h s
  | .fltClear h source kind => Sys2Proof.Machine.execFltClear h source kind s
  | .fltDrain h clearLost buf => Sys2Proof.Machine.execFltDrain h clearLost buf s
  | .pwrDomain h mask on => Sys2Proof.Machine.execPwrDomain h mask on s
  | .devRestart h => Sys2Proof.Machine.execDevRestart h s
  | .adcCal h => Sys2Proof.Machine.execAdcCal h s
  | .statsClear h => Sys2Proof.Machine.execStatsClear h s
  | .firTestEdge h entry code time => Sys2Proof.Machine.execFirTestEdge h entry code time s
  | .firTestEnd h entry => Sys2Proof.Machine.execFirTestEnd h entry s
  | .firTestHoldExpire entry => Sys2Proof.Machine.execFirTestHoldExpire entry s
  | .fcs1Ident h => Sys2Proof.Machine.execFcs1Ident h s
  | .fcs1Nop h v => Sys2Proof.Machine.execFcs1Nop h v s
  | .fcs1GetParam h id => Sys2Proof.Machine.execFcs1GetParam h id s
  | .fcs1SetParam h id v => Sys2Proof.Machine.execFcs1SetParam h id v s
  | .fcs1LoadParams h entries => Sys2Proof.Machine.execFcs1LoadParams h entries s
  | .fcs1Enable h => Sys2Proof.Machine.execFcs1Enable h s
  | .fcs1Disable h => Sys2Proof.Machine.execFcs1Disable h s
  | .fcs1Start h => Sys2Proof.Machine.execFcs1Start h s
  | .fcs1Stop h => Sys2Proof.Machine.execFcs1Stop h s
  | .fcs1Block h => Sys2Proof.Machine.execFcs1Block h s
  | .fcs1ResetBlock h => Sys2Proof.Machine.execFcs1ResetBlock h s
  | .fcs1Service h => Sys2Proof.Machine.execFcs1Service h s
  | .fcs1ServiceEnd h => Sys2Proof.Machine.execFcs1ServiceEnd h s
  | .fcs1TripReset h inputs idle => Sys2Proof.Machine.execFcs1TripReset h inputs idle s
  | .fcs1Ramp h group mask dur targets => Sys2Proof.Machine.execFcs1Ramp h group mask dur targets s
  | .fcs1RampStop h group => Sys2Proof.Machine.execFcs1RampStop h group s
  | .fcs1CellAdd h b => Sys2Proof.Machine.execFcs1CellAdd h b s
  | .fcs1CellRemove h entry => Sys2Proof.Machine.execFcs1CellRemove h entry s
  | .fcs1CellBlock h entry => Sys2Proof.Machine.execFcs1CellBlock h entry s
  | .fcs1CellUnblock h entry => Sys2Proof.Machine.execFcs1CellUnblock h entry s
  | .fcs1CellBypass h entry => Sys2Proof.Machine.execFcs1CellBypass h entry s
  | .fcs1CellSwap h entry cellId => Sys2Proof.Machine.execFcs1CellSwap h entry cellId s
  | .fcs1LinkReset h mask => Sys2Proof.Machine.execFcs1LinkReset h mask s
  | .fcs1CaptureArm h => Sys2Proof.Machine.execFcs1CaptureArm h s
  | .fcs1CaptureForce h => Sys2Proof.Machine.execFcs1CaptureForce h s
  | .fcs1Save h => Sys2Proof.Machine.execFcs1Save h s
  | .fcs1Calibrate h => Sys2Proof.Machine.execFcs1Calibrate h s
  | .fcs1ClearFaults h => Sys2Proof.Machine.execFcs1ClearFaults h s
  | .fcs1StatsReset h => Sys2Proof.Machine.execFcs1StatsReset h s
  | .tripFilterPass input t => Sys2Proof.Machine.execTripFilterPass input t s
  | .trpHoldEsc rod => Sys2Proof.Machine.execTrpHoldEsc rod s
  | .trpPairDiff input => Sys2Proof.Machine.execTrpPairDiff input s
  | .sbkEnv rod => Sys2Proof.Machine.execSbkEnv rod s
  | .safeStopComplete => Sys2Proof.Machine.execSafeStopComplete s
  | .telegramReceive lan bytes t => Sys2Proof.Machine.execTelegramReceive lan bytes t s
  | .sbkTgLoss lan => Sys2Proof.Machine.execSbkTgLoss lan s
  | .sbkTgSilence t => Sys2Proof.Machine.execSbkTgSilence t s
  | .lnkLightDetect lane => Sys2Proof.Machine.execLnkLightDetect lane s
  | .lnkDetectFlag lane => Sys2Proof.Machine.execLnkDetectFlag lane s
  | .lnkEqDwellEnd lane w h clean dsErr => Sys2Proof.Machine.execLnkEqDwellEnd lane w h clean dsErr s
  | .lnkAlignLock lane rxInv dsInv => Sys2Proof.Machine.execLnkAlignLock lane rxInv dsInv s
  | .lnkAlignTo lane => Sys2Proof.Machine.execLnkAlignTo lane s
  | .lnkCapsQuiet lane => Sys2Proof.Machine.execLnkCapsQuiet lane s
  | .lnkCapsTo lane => Sys2Proof.Machine.execLnkCapsTo lane s
  | .lnkDiscRoundEnd lane => Sys2Proof.Machine.execLnkDiscRoundEnd lane s
  | .lnkDiscTo lane => Sys2Proof.Machine.execLnkDiscTo lane s
  | .lnkRetryWaitEnd lane => Sys2Proof.Machine.execLnkRetryWaitEnd lane s
  | .lnkLos lane => Sys2Proof.Machine.execLnkLos lane s
  | .reportBurst b => Sys2Proof.Machine.execReportBurst b s
  | .burstLockFail lane slot => Sys2Proof.Machine.execBurstLockFail lane slot s
  | .phaseCacheStale lane slot => Sys2Proof.Machine.execPhaseCacheStale lane slot s
  | .rangingBurst b => Sys2Proof.Machine.execRangingBurst b s
  | .beacon b => Sys2Proof.Machine.execBeacon b s
  | .announce b => Sys2Proof.Machine.execAnnounce b s
  | .c1Report lane bytes t => Sys2Proof.Machine.execC1Report lane bytes t s
  | .c1RangingAnswer lane bytes tLock => Sys2Proof.Machine.execC1RangingAnswer lane bytes tLock s
  | .c1Capability lane bytes t => Sys2Proof.Machine.execC1Capability lane bytes t s
  | .partnerLinkLock link => Sys2Proof.Machine.execPartnerLinkLock link s
  | .hb p m => Sys2Proof.Machine.execHb p m s
  | .rod p rods phases => Sys2Proof.Machine.execRod p rods phases s
  | .cell p cells => Sys2Proof.Machine.execCell p cells s
  | .mirror p pair gen seq bytes => Sys2Proof.Machine.execMirror p pair gen seq bytes s
  | .mirAck p pair seq t => Sys2Proof.Machine.execMirAck p pair seq t s
  | .partnerExec p pair seq num => Sys2Proof.Machine.execPartnerExec p pair seq num s
  | .execAck p num => Sys2Proof.Machine.execExecAck p num s
  | .loop p recs => Sys2Proof.Machine.execLoop p recs s
  | .obs p recs => Sys2Proof.Machine.execObs p recs s
  | .image p m => Sys2Proof.Machine.execImage p m s
  | .hello p m => Sys2Proof.Machine.execHello p m s
  | .hoverAck p fn => Sys2Proof.Machine.execHoverAck p fn s
  | .mxFsDetect lane fn sys t f => Sys2Proof.Machine.execMxFsDetect lane fn sys t f s
  | .pairSplit => Sys2Proof.Machine.execPairSplit s
  | .heartbeatJudge => Sys2Proof.Machine.execHeartbeatJudge s
  | .handoverJudge => Sys2Proof.Machine.execHandoverJudge s
  | .handoverMonitorCheck => Sys2Proof.Machine.execHandoverMonitorCheck s
  | .pairWaitEnd => Sys2Proof.Machine.execPairWaitEnd s
  | .joinStepDone => Sys2Proof.Machine.execJoinStepDone s
  | .pairJoinSlow => Sys2Proof.Machine.execPairJoinSlow s
  | .syncedLoss => Sys2Proof.Machine.execSyncedLoss s
  | .pairTableDiff => Sys2Proof.Machine.execPairTableDiff s
  | .brdPresHigh => Sys2Proof.Machine.execBrdPresHigh s
  | .ptnrPresHigh => Sys2Proof.Machine.execPtnrPresHigh s
  | .ptpSync m => Sys2Proof.Machine.execPtpSync m s
  | .ptpFollowUp m => Sys2Proof.Machine.execPtpFollowUp m s
  | .timeStep => Sys2Proof.Machine.execTimeStep s
  | .ptpAnnounce port domain ds => Sys2Proof.Machine.execPtpAnnounce port domain ds s
  | .ptpAnnounceTimeout port domain => Sys2Proof.Machine.execPtpAnnounceTimeout port domain s
  | .ptpSyncLoss dom => Sys2Proof.Machine.execPtpSyncLoss dom s
  | .ptpPdelayReq port seqId rawG16 => Sys2Proof.Machine.execPtpPdelayReq port seqId rawG16 s
  | .ptpPdelayResp m => Sys2Proof.Machine.execPtpPdelayResp m s
  | .pdelayReqTimer => Sys2Proof.Machine.execPdelayReqTimer s
  | .ethLinkChange port up => Sys2Proof.Machine.execEthLinkChange port up s
  | .toutFire output => Sys2Proof.Machine.execToutFire output s
  | .toutPulseEnd output => Sys2Proof.Machine.execToutPulseEnd output s
  | .pllLock band us => Sys2Proof.Machine.execPllLock band us s
  | .syncInEdge t count wrap g => Sys2Proof.Machine.execSyncInEdge t count wrap g s
  | .syncInTimeout => Sys2Proof.Machine.execSyncInTimeout s
  | .pllUnlock => Sys2Proof.Machine.execPllUnlock s
  | .eccError region addr corrected => Sys2Proof.Machine.execEccError region addr corrected s
  | .fltSelf => Sys2Proof.Machine.execFltSelf s
  | .supplyFail domain => Sys2Proof.Machine.execSupplyFail domain s
  | .tempCrit => Sys2Proof.Machine.execTempCrit s
  | .fatalDark => Sys2Proof.Machine.execFatalDark s
  | .tempHigh tj => Sys2Proof.Machine.execTempHigh tj s
  | .faultMessage msg => Sys2Proof.Machine.execFaultMessage msg s
  | .trcPreFull => Sys2Proof.Machine.execTrcPreFull s
  | .trcEdgeTrigger t v => Sys2Proof.Machine.execTrcEdgeTrigger t v s
  | .trcMaskViolation slot t v => Sys2Proof.Machine.execTrcMaskViolation slot t v s
  | .trcPostComplete => Sys2Proof.Machine.execTrcPostComplete s
  | .trigLineFire t => Sys2Proof.Machine.execTrigLineFire t s
  | .trigLineArm => Sys2Proof.Machine.execTrigLineArm s
  | .evrTrigger typ cause t => Sys2Proof.Machine.execEvrTrigger typ cause t s
  | .evrRecordWrite => Sys2Proof.Machine.execEvrRecordWrite s
  | .jnlRecordCommit jseq => Sys2Proof.Machine.execJnlRecordCommit jseq s
  | .jnlFlashFail flash addr => Sys2Proof.Machine.execJnlFlashFail flash addr s
  | .jnlCompactionStart => Sys2Proof.Machine.execJnlCompactionStart s
  | .blockEraseDone => Sys2Proof.Machine.execBlockEraseDone s
  | .taskEnqueue cls source t => Sys2Proof.Machine.execTaskEnqueue cls source t s
  | .coreFree core t => Sys2Proof.Machine.execCoreFree core t s
  | .supWdog core => Sys2Proof.Machine.execSupWdog core s
  | .schLoadWindowEnd busy => Sys2Proof.Machine.execSchLoadWindowEnd busy s
  | .powerOn => Sys2Proof.Machine.execPowerOn s
  | .boardReset => Sys2Proof.Machine.execBoardReset s
  | .leaveReset sys => Sys2Proof.Machine.execLeaveReset sys s
  | .startUpStep inp => Sys2Proof.Machine.execStartUpStep inp s
  | .domainSwitched => Sys2Proof.Machine.execDomainSwitched s
  | .pwrFailAssert done => Sys2Proof.Machine.execPwrFailAssert done s
  | .pwrFailSequenceEnd high => Sys2Proof.Machine.execPwrFailSequenceEnd high s
  | .fatalRestart t => Sys2Proof.Machine.execFatalRestart t s
  | .devRestartExpire => Sys2Proof.Machine.execDevRestartExpire s
  | .partnerLinkDown link => Sys2Proof.Machine.execPartnerLinkDown link s
  | .monitorLost lane => Sys2Proof.Machine.execMonitorLost lane s
  | .powerLoss => Sys2Proof.Machine.execPowerLoss s

end Sys2Proof.Machine
end

