-- ==== Sys2Proof/Safety.lean ====
section
/-! DEFINITION. What a safe state is, what a command does, and what it leaves alone, in the terms that claims use. -/

namespace Sys2Proof

open Sys2Proof.Machine

/-! ### Safe states -/

/-- FAULT_N is driven low exactly while a fault is active, a fatal line stands or the journal is not restored (R418). -/
def FaultPinOk (s : State) : Prop := s.flt.faultN = faultLow s

/-- The laser of every lane is on exactly where R213 gives it. -/
def LasersOk (s : State) : Prop := s.lnk.lanes = settledLanes s

/-- The pins follow the state. -/
def PinsOk (s : State) : Prop := FaultPinOk s ∧ LasersOk s

/-- The recorder's and the event recorder's memories are in canonical form. -/
def MemoryOk (s : State) : Prop := s.trc.mem.wf ∧ s.evr.mem.wf

/-- No cell can be inserted by the device: no laser is on, so nothing it sends reaches a cell. -/
def Dark (s : State) : Prop := ∀ k, ∀ l ∈ s.lnk.lanes, laserOn s k l = false

/-! ### What a command does -/

/-- The command answers a next state that has the property. -/
def Does (c : Instr) (s : State) (P : State → Prop) : Prop := ∃ t, exec c s = .next t ∧ P t

/-- A host command comes up for execution and may execute: the device is not in OFF, no other command is held, the
command has its turn and no state change holds it (R382, R393), its reserved bits are zero and FORCE is allowed it, the
role allows it, and the device state is one of those it is given for (R388). -/
structure MayRun (op : Nat) (h : CmdHdr) (states : DevState → Bool) (s : State) : Prop where
  notOff : s.st ≠ .off
  alone  : s.hif.held = []
  turn   : turnOf { h := h, op := op } s = .go
  serial : serialHold (asFcs2 op) s = false
  rsvd   : h.rsvd = false
  force  : h.force = true → op < 0x10000 ∧ forceOk op = true
  role   : roleAllows { h := h, op := op } s = true
  state  : states s.st = true

/-- The replies due to a ring pair. -/
def repliesOf (s : State) (k : Nat) : List Reply := ((s.hif.pairs[k]?).map RPair.replies).getD []

/-- The command's final reply stands last among those due to its ring pair. -/
def Answers (op : Nat) (h : CmdHdr) (status : Nat) (data : List Byte) (s t : State) : Prop :=
  repliesOf t h.pair = repliesOf s h.pair ++ [mkReply { h := h, op := op } status data]

/-- The ring pair of a command is open. -/
def PairOpen (s : State) (k : Nat) : Prop := (s.hif.pairs[k]?).map RPair.open_ = some true

/-- The fault collector has taken in a message of a kind: it is counted, and active where the kind is an error or
worse (R413, R414, R418). -/
def Reported (blk inst kind : Nat) (s t : State) : Prop :=
  min (s.flt.total + 1) (2 ^ 32 - 1) ≤ t.flt.total ∧ (2 ≤ sevCode blk kind → isActive t blk inst kind = true)

/-- A_r of every rod is the most severe action of the sources that are latched (R282). -/
def Acted (s : State) : Prop := s.trp.act = (List.range 12).map (actOf s)

/-! ### What a command leaves alone -/

/-- The blocks of the converter: everything but the host interface, the journal, the event recorder, the fault collector,
the pair and the lanes' receivers. -/
structure Engines where
  st     : DevState
  frm    : FrmBlock
  params : Params
  pwr    : Pwr
  adc    : Adc
  ref    : Ref
  ctl    : Ctl
  cells  : Tab Entry
  obs    : Obs
  rnk    : Rnk
  fir    : Fir
  cev    : Cev
  trp    : Trp
  sbk    : Sbk
  time   : Tim
  tout   : List TOut
  pll    : Pll
  trc    : Trc
  sch    : Sch
deriving DecidableEq, Repr

/-- The blocks of the converter in a state. -/
def engines (s : State) : Engines :=
  { st := s.st, frm := s.frm, params := s.params, pwr := s.pwr, adc := s.adc, ref := s.ref, ctl := s.ctl, cells := s.cells,
    obs := s.obs, rnk := s.rnk, fir := s.fir, cev := s.cev, trp := s.trp, sbk := s.sbk, time := s.time, tout := s.tout,
    pll := s.pll, trc := s.trc, sch := s.sch }

/-- Two lane states that differ at most in the laser, which follows the state at every instant. -/
def LaneSame (a b : LaneS) : Prop := a = { b with laser := a.laser }


end Sys2Proof
end

