-- ==== Sys2Proof/Certificates/Slice0/Obligations.lean ====
section
/-! DEFINITION. The statements for the provers. -/

open Sys2Proof Sys2Proof.Machine

/-- A step of a state whose queue has a command at its front is exec of that command on the same state with the rest of
the queue. -/
def Obligations.FrontCommandRuns : Prop :=
  ∀ (s : State) (c : Instr) (rest : List Instr), s.pending = c :: rest → step s = exec c { s with pending := rest }

/-- A step of a state whose queue is empty answers the same state. The spec gives the block no command for a tick: that
the device idles is the choice of log 1. -/
def Obligations.EmptyQueueIdles : Prop := ∀ s : State, s.pending = [] → step s = .next s

/-- State.reset has its pins as the state gives them (FAULT_N low, every laser off), both recorder memories in canonical
form, no command waiting, and the device in OFF. -/
def Obligations.ResetPinsAndMemories : Prop :=
  PinsOk State.reset ∧ MemoryOk State.reset ∧ State.reset.flt.faultN = true ∧ Dark State.reset ∧ State.reset.st = .off ∧
    State.reset.pending = []

/-- Where FAULT_N and every CL_TXDISk are as R418 and R213 give them from the state, they are so after every step: no
command, and no step of an empty queue, leaves a laser on in a device that is dark, not acting, in reset or without
the lane's domain, or FAULT_N high with a fault active. -/
def Obligations.StepKeepsPins : Prop := ∀ s t : State, PinsOk s → step s = .next t → PinsOk t

/-- Whatever command is executed in whatever state, the queue of waiting commands is afterwards as it was: no command is
dropped, added, copied or reordered by another. -/
def Obligations.CommandsLeaveTheQueue : Prop :=
  ∀ (c : Instr) (s t : State), exec c s = .next t → t.pending = s.pending

/-- No command but RIM, POWER_ON, POWER_LOSS, BOARD_RESET, DEV_RESTART_EXPIRE, FATAL_RESTART, LEAVE_RESET and
START_UP_STEP changes the device state: every transition that a host command, a trip, a fault, a telegram or the
partner asks for takes effect at a rim. -/
def Obligations.DeviceStateMovesAtRims : Prop :=
  ∀ (c : Instr) (s t : State), exec c s = .next t →
    (∀ inp, c ≠ .rim inp) → c ≠ .powerOn → c ≠ .powerLoss → c ≠ .boardReset → c ≠ .devRestartExpire →
    (∀ n, c ≠ .fatalRestart n) → (∀ n, c ≠ .leaveReset n) → (∀ inp, c ≠ .startUpStep inp) → t.st = s.st

/-- No command but RIM, SYNC_IN_EDGE (which adopts the partner's grid), POWER_ON, POWER_LOSS, BOARD_RESET,
DEV_RESTART_EXPIRE and FATAL_RESTART changes the frame counter, its wrap count, the grid time of the last rim, the
count of rims or the values published in BAR0. -/
def Obligations.GridAndPublicationMoveAtRims : Prop :=
  ∀ (c : Instr) (s t : State), exec c s = .next t →
    (∀ inp, c ≠ .rim inp) → (∀ a n w g, c ≠ .syncInEdge a n w g) → c ≠ .powerOn → c ≠ .powerLoss → c ≠ .boardReset →
    c ≠ .devRestartExpire → (∀ n, c ≠ .fatalRestart n) →
    t.frm.count = s.frm.count ∧ t.frm.wrap = s.frm.wrap ∧ t.frm.g = s.frm.g ∧ t.frm.rims = s.frm.rims ∧ t.pub = s.pub

/-- Where the transient recorder's and the event recorder's memories list strictly rising addresses and no byte of 0,
they do so after every step. -/
def Obligations.StepKeepsMemories : Prop := ∀ s t : State, MemoryOk s → step s = .next t → MemoryOk t

/-- In a device whose time base runs, out of reset and not in OFF, a rim after the first answers a next state whose
frame counter is one higher modulo 2^48, whose FRM_WRAP is one higher (saturating at 0xFFFF) exactly where the
counter wrapped to 0, and whose grid time lies the length of the frame that ended later. -/
def Obligations.RimAdvancesTheFrame : Prop :=
  ∀ (inp : RimIn) (s : State), s.frm.armed = true → s.pwr.inReset = false → s.st ≠ .off → s.frm.rims ≠ 0 →
    Does (.rim inp) s (fun t =>
      t.frm.count = (s.frm.count + 1) % 2 ^ 48 ∧
      t.frm.wrap = (if (s.frm.count + 1) % 2 ^ 48 = 0 then min (s.frm.wrap + 1) 0xFFFF else s.frm.wrap) ∧
      t.frm.g = s.frm.g + s.frm.len ∧ t.frm.rims = s.frm.rims + 1)

/-- At the first rim of a device whose time base runs, the frame counter, FRM_WRAP and the grid time stay as they stand
(0 after start-up, the partner's in a device that joined), and the count of rims becomes 1. -/
def Obligations.FirstRimBeginsFrameZero : Prop :=
  ∀ (inp : RimIn) (s : State), s.frm.armed = true → s.pwr.inReset = false → s.st ≠ .off → s.frm.rims = 0 →
    Does (.rim inp) s (fun t =>
      t.frm.count = s.frm.count ∧ t.frm.wrap = s.frm.wrap ∧ t.frm.g = s.frm.g ∧ t.frm.rims = 1)

/-- Where a session or status command may run and its pair is open, its one final reply DONE carries: for SESSION_INFO
and FCS-1 IDENT the role, SYS, device state, revision, COMPAT_LEVEL, firmware, generation, pair, next SEQ, grid time
and UID; for ECHO and FCS-1 NOP the 8 bytes sent; for CONV_STATUS (in a device that executes commands) the state
twice, the causes, NO_EFFECT clear, the tripped rods and the frame. The blocks of the converter stay as they are. -/
def Obligations.IdentityAndStatusAreAnswered : Prop :=
  ∀ (s : State) (h : CmdHdr) (v : Nat), PairOpen s h.pair →
    let p := s.hif.pairs.getD h.pair RPair.reset
    let info := leBytes 1 (roleCode s.pair.role) ++ leBytes 1 (b2n s.pair.sys) ++ leBytes 1 (devCode s.st) ++
      leBytes 1 revLetter ++ leBytes 2 s.pwr.compat ++ leBytes 2 (Config.firmware % 2 ^ 16) ++ leBytes 1 p.gen ++
      leBytes 1 h.pair ++ leBytes 2 0 ++ leBytes 4 p.next ++ leBytes 8 s.frm.g ++ leBytes 8 (Config.uid % 2 ^ 64)
    (MayRun 0x0000 h stAny s → Does (.sessionInfo h) s (fun t =>
      Answers 0x0000 h 0 info s t ∧ engines t = engines s)) ∧
    (MayRun 0x10001 h stAny s → Does (.fcs1Ident h) s (fun t =>
      Answers 0x10001 h 0 info s t ∧ engines t = engines s)) ∧
    (MayRun 0x0001 h stAny s → Does (.echo h v) s (fun t =>
      Answers 0x0001 h 0 (leBytes 8 v) s t ∧ engines t = engines s)) ∧
    (MayRun 0x10002 h stAny s → Does (.fcs1Nop h v) s (fun t =>
      Answers 0x10002 h 0 (leBytes 8 v) s t ∧ engines t = engines s)) ∧
    (MayRun 0x0200 h stAny s → acts s = true → Does (.convStatus h) s (fun t =>
      Answers 0x0200 h 0 (convData s s.st false s.frm.count) s t ∧ engines t = engines s))

/-- Where a read of a parameter may run in a device that executes commands, PARAM_GET of an existing ID answers the ID,
whether a written value is pending, the value in force and the pending value (0 where none); FCS-1 GET_PARAM answers
both as 32-bit values with the overflow flag; PARAM_BLOCK_GET of 1 to 4,096 IDs within the ID space writes 24 bytes
for each, from the first on, to an output buffer with room that completes, and answers their length. A read of a
missing ID answers 0x0202. No parameter changes. -/
def Obligations.ParametersAreRead : Prop :=
  ∀ (s : State) (h : CmdHdr) (id : Nat), PairOpen s h.pair → acts s = true →
    (MayRun 0x0100 h stAny s → (pspec id).isSome = true → Does (.paramGet h id) s (fun t =>
      Answers 0x0100 h 0 (leBytes 2 id ++ [BitVec.ofNat 8 (b2n (pendingOf s id).isSome), 0, 0, 0, 0, 0] ++
        leBytes 8 (toBits 64 (s.pI id)) ++ leBytes 8 (toBits 64 ((pendingOf s id).getD 0))) s t ∧
      engines t = engines s)) ∧
    (MayRun 0x0100 h stAny s → (pspec id).isNone = true → Does (.paramGet h id) s (fun t =>
      Answers 0x0100 h 0x0202 [] s t ∧ engines t = engines s)) ∧
    (MayRun 0x10010 h stAny s → (pspec id).isSome = true → Does (.fcs1GetParam h id) s (fun t =>
      Answers 0x10010 h 0 (leBytes 2 id ++ [BitVec.ofNat 8 (b2n (pendingOf s id).isSome +
          4 * b2n (wideVal (s.pI id) || wideVal ((pendingOf s id).getD 0))), 0, 0, 0, 0, 0] ++
        leBytes 4 (toBits 32 (s.pI id)) ++ leBytes 4 (toBits 32 ((pendingOf s id).getD 0))) s t ∧
      engines t = engines s)) ∧
    (∀ (count : Nat) (b : OutBuf), MayRun 0x0103 h stAny s → 1 ≤ count → count ≤ 4096 → id + count ≤ 0x10000 →
      24 * count ≤ b.len → b.addr % 8 = 0 → b.ok = true →
      Does (.paramBlockGet h id count b) s (fun t =>
        Answers 0x0103 h 0 (leBytes 4 (24 * count)) s t ∧ engines t = engines s ∧
        .host b.addr ((List.range count).flatMap (fun i => blockGetBytes s (id + i))) ∈ t.out))

/-- Where such a command may run (READY for ARM, BLOCKED for DISARM, RUNNING for BLOCK, READY or BLOCKED for MAINT,
MAINTENANCE for MAINT_END), it is accepted: its target state and the state it comes from are kept for the next rim,
it has no reply yet, and no block of the converter changes. -/
def Obligations.TransitionsWaitForTheRim : Prop :=
  ∀ (s : State) (h : CmdHdr), ∀ x ∈ [
      (Instr.convArm h, 0x0201, stIs .ready, DevState.blocked), (.convDisarm h, 0x0202, stIs .blocked, .ready),
      (.convBlock h, 0x0204, stIs .running, .blocked), (.convMaint h, 0x0208, stMaintFrom, .maintenance),
      (.convMaintEnd h, 0x0209, stIs .maintenance, .ready), (.fcs1Enable h, 0x10020, stIs .ready, .blocked),
      (.fcs1Disable h, 0x10021, stIs .blocked, .ready), (.fcs1Service h, 0x10026, stMaintFrom, .maintenance),
      (.fcs1ServiceEnd h, 0x10027, stIs .maintenance, .ready)],
    MayRun x.2.1 h x.2.2.1 s → Does x.1 s (fun t =>
      t.hif.conv = some (h, x.2.1, x.2.2.2, s.st) ∧ repliesOf t h.pair = repliesOf s h.pair ∧ engines t = engines s)

/-- CONV_RUN in BLOCKED waits for the rim with target RUNNING where the budget holds, every rod with cells has a primary
channel, no supervised rod is SHORT and FIR_TX is at least FIR_TX_MIN; it answers 0x0118, 0x0119, 0x0111 or 0x0112
for the first of these that fails. CONV_RECOVER in SAFE_BLOCKED waits with target BLOCKED, or answers 0x0114 while a
latch with TRP_ESC or the telegram latch is set and then 0x0115 while a safety fault is not cleared. A refusal
changes no block of the converter. -/
def Obligations.RunAndRecoverAreChecked : Prop :=
  ∀ (s : State) (h : CmdHdr),
    (∀ x ∈ [(Instr.convRun h, 0x0203), (.fcs1Start h, 0x10022)], MayRun x.2 h (stIs .blocked) s →
      (s.frm.budgetOk = true → noChannel s = false → anyShort s = false → txMin s.p ≤ s.fir.tx → Does x.1 s (fun t =>
        t.hif.conv = some (h, x.2, .running, .blocked) ∧ repliesOf t h.pair = repliesOf s h.pair ∧
        engines t = engines s)) ∧
      (PairOpen s h.pair → acts s = true →
        ∀ status, (s.frm.budgetOk = false ∧ status = 0x0118) ∨
            (s.frm.budgetOk = true ∧ noChannel s = true ∧ status = 0x0119) ∨
            (s.frm.budgetOk = true ∧ noChannel s = false ∧ anyShort s = true ∧ status = 0x0111) ∨
            (s.frm.budgetOk = true ∧ noChannel s = false ∧ anyShort s = false ∧ s.fir.tx < txMin s.p ∧
              status = 0x0112) →
          Does x.1 s (fun t => Answers x.2 h status [] s t ∧ engines t = engines s))) ∧
    (∀ x ∈ [(Instr.convRecover h, 0x0207), (.fcs1ResetBlock h, 0x10025)], MayRun x.2 h (stIs .safeBlocked) s →
      (escLatched s = false → safetyFault s = false → Does x.1 s (fun t =>
        t.hif.conv = some (h, x.2, .blocked, .safeBlocked) ∧ repliesOf t h.pair = repliesOf s h.pair ∧
        engines t = engines s)) ∧
      (PairOpen s h.pair → acts s = true →
        ∀ status, (escLatched s = true ∧ status = 0x0114) ∨
            (escLatched s = false ∧ safetyFault s = true ∧ status = 0x0115) →
          Does x.1 s (fun t => Answers x.2 h status [] s t ∧ engines t = engines s)))

/-- CONV_SAFE_STOP and FCS-1 STOP wait for the next rim with target SAFE_STOP in RUNNING; in every other state of the
device that is up they answer DONE with NO_EFFECT and the present state twice. CONV_SAFE_BLOCK and FCS-1 BLOCK wait
with target SAFE_BLOCKED in every state but SAFE_BLOCKED, where they answer NO_EFFECT. No block of the converter
changes before the rim. -/
def Obligations.SafeStopAndSafeBlockActOnce : Prop :=
  ∀ (s : State) (h : CmdHdr), ∀ x ∈ [
      (Instr.convSafeStop h, 0x0205, DevState.safeStop, stIs .running s.st), (.fcs1Stop h, 0x10023, .safeStop, stIs .running s.st),
      (.convSafeBlock h, 0x0206, .safeBlocked, !stIs .safeBlocked s.st),
      (.fcs1Block h, 0x10024, .safeBlocked, !stIs .safeBlocked s.st)],
    MayRun x.2.1 h stUp s →
      (x.2.2.2 = true → Does x.1 s (fun t =>
        t.hif.conv = some (h, x.2.1, x.2.2.1, s.st) ∧ repliesOf t h.pair = repliesOf s h.pair ∧
        engines t = engines s)) ∧
      (x.2.2.2 = false → PairOpen s h.pair → acts s = true → Does x.1 s (fun t =>
        Answers x.2.1 h 0 (convData s s.st true s.frm.count) s t ∧ t.hif.conv = none ∧ engines t = engines s))

/-- A parameter write that passes every check waits, behind those before it, for the rim that writeRim gives: no value
in force changes and no reply is given before that rim; FIR_TX in it announces the new offset, and FORCE starts Safe
Stop with it where it overrides SPARE_SHORT. A write with a refused entry answers the status of the first check that
fails, a block write with the index and ID of the entry; nothing changes. An empty block, one above 512 entries (255
for FCS-1 LOAD_PARAMS), is refused with 0x0203. -/
def Obligations.WritesAreCheckedAndWait : Prop :=
  ∀ (s : State) (h : CmdHdr) (es : List (Nat × Int)) (id : Nat) (v : Int),
    let waits := fun (op : Nat) (single : Bool) (l : List (Nat × Int)) (t : State) =>
      engines t = { engines s with
        params := { s.params with waits := s.params.waits ++
          [{ hdr := h, opcode := op, entries := l, single := single
             forced := h.force && l.any (fun e => crossShort s (standWith s l) e.1 e.2), rim := writeRim s l }] }
        fir := { s.fir with txNew := ((l.find? (fun e => e.1 == 0x7000)).map (fun e =>
          (e.2.toNat, (s.frm.count + (writeRim s l - s.frm.rims)) % 2 ^ 48))).orElse (fun _ => s.fir.txNew) } } ∧
      repliesOf t h.pair = repliesOf s h.pair
    (∀ x ∈ [(Instr.paramSet h id v, 0x0101), (.fcs1SetParam h id v, 0x10011)], MayRun x.2 h stUp s →
      (writeBad s [(id, v)] h.force = none → Does x.1 s (waits x.2 true [(id, v)])) ∧
      (∀ st i k, writeBad s [(id, v)] h.force = some (st, i, k) → PairOpen s h.pair → acts s = true →
        Does x.1 s (fun t => Answers x.2 h st [] s t ∧ engines t = engines s))) ∧
    (∀ x ∈ [(Instr.paramBlockSet h es, 0x0102, 512), (.fcs1LoadParams h es, 0x10012, 255)], MayRun x.2.1 h stUp s →
      (es ≠ [] → es.length ≤ x.2.2 → writeBad s es h.force = none → Does x.1 s (waits x.2.1 false es)) ∧
      (PairOpen s h.pair → acts s = true →
        (∀ st i k, es ≠ [] → es.length ≤ x.2.2 → writeBad s es h.force = some (st, i, k) → Does x.1 s (fun t =>
          Answers x.2.1 h st (leBytes 2 i ++ leBytes 2 k) s t ∧ engines t = engines s)) ∧
        (es = [] ∨ x.2.2 < es.length → Does x.1 s (fun t =>
          Answers x.2.1 h 0x0203 [] s t ∧ engines t = engines s))))

/-- Where every named latched input has been inactive for its filter time and no covered entry of a bypass-fire latch is
still to be bypassed, the clear waits for the next rim with its inputs and TG (0 for FCS-1), without a reply;
otherwise it answers 0x0114 with the mask of the inputs that bar it, or 0x0110 with the lowest entry not yet
bypassed, TRP_REFUSED counts it and no latch changes. -/
def Obligations.TripClearIsCheckedAndWaits : Prop :=
  ∀ (s : State) (h : CmdHdr) (inputs : Nat) (tg : Bool) (idle : List Nat), ∀ x ∈ [
      (Instr.trpClear h inputs tg idle, 0x0230, tg), (.fcs1TripReset h inputs idle, 0x10028, false)],
    MayRun x.2.1 h stAny s →
      (notIdle s inputs idle = [] → notFired s inputs = none → Does x.1 s (fun t =>
        engines t = { engines s with trp := { s.trp with clears := s.trp.clears ++
          [{ hdr := h, opcode := x.2.1, inputs := inputs % 2 ^ 16, tg := x.2.2, again := 0 }] } } ∧
        repliesOf t h.pair = repliesOf s h.pair)) ∧
      (PairOpen s h.pair → acts s = true →
        (notIdle s inputs idle ≠ [] → Does x.1 s (fun t =>
          Answers x.2.1 h 0x0114 (leBytes 2 (maskOf (notIdle s inputs idle))) s t ∧
          engines t = { engines s with trp := { s.trp with refused := satAdd 32 s.trp.refused 1 } })) ∧
        (∀ k, notIdle s inputs idle = [] → notFired s inputs = some k → Does x.1 s (fun t =>
          Answers x.2.1 h 0x0110 ([0, 0] ++ leBytes 2 k) s t ∧
          engines t = { engines s with trp := { s.trp with refused := satAdd 32 s.trp.refused 1 } })))

/-- TRIP_FILTER_PASS of an input in a device whose AON domain is on sets that input's latch, TRP_TEST in MAINTENANCE
sets the latches of the named inputs and answers them with the frame; every other latch stays. Afterwards A_r of
every rod is the most severe action of the latched sources over it. The device state, the frame engine, the
parameters, the references, the control engine, the inputs and the clocks stay as they are. Without AON nothing
changes. -/
def Obligations.PassesSetTheirLatchesAlone : Prop :=
  ∀ s : State,
    let rest := fun t : State =>
      engines t = { engines s with trp := t.trp, sbk := t.sbk, cells := t.cells, cev := t.cev, rnk := t.rnk, trc := t.trc }
    (∀ i time : Nat, i < 16 → tb s.pwr.on 0 = true → Does (.tripFilterPass i time) s (fun t =>
      (∀ j, tb t.trp.latch j = (tb s.trp.latch j || decide (i = j))) ∧ Acted t ∧ rest t)) ∧
    (∀ i time : Nat, ¬ (i < 16 ∧ tb s.pwr.on 0 = true) → Does (.tripFilterPass i time) s (fun t => engines t = engines s)) ∧
    (∀ (h : CmdHdr) (inputs : Nat), MayRun 0x0231 h stMaint s → PairOpen s h.pair → acts s = true →
      Does (.trpTest h inputs) s (fun t =>
        (∀ j, tb t.trp.latch j = (tb s.trp.latch j || (decide (j < 16) && tb inputs j))) ∧ Acted t ∧
        Answers 0x0231 h 0 (leBytes 2 inputs ++ [0, 0] ++ leBytes 4 s.frm.count) s t ∧ rest t ∧ t.trc = s.trc))

/-- TRP_HOLD_ESC of a rod at hold for TRP_HOLD_MAX rims, not yet escalated, sets its escalation, takes A_r afresh and
reports TRP_HOLD_ESC. SBK_ENV of a rod that was outside the envelope for SBK_VIOL_FRAMES steps of Safe Stop, the
first in this stop, sets the violation and the Safe Block latch, makes the injected path due with cause 0x03 and the
rod unless one is due already, takes A_r afresh and reports SBK_ENV. TRP_PAIR_DIFF of an input of a paired device is
reported and changes no block of the converter. -/
def Obligations.EscalationsActAndReport : Prop :=
  ∀ (s : State) (r : Nat),
    (r < 12 → s.p 0xA050 ≤ s.trp.holdRun.getD r 0 → tb s.trp.holdEsc r = false → Does (.trpHoldEsc r) s (fun t =>
      t.trp.holdEsc = s.trp.holdEsc + 2 ^ r ∧ t.trp.latch = s.trp.latch ∧ Acted t ∧ Reported 0x0A r 3 s t ∧
      t.st = s.st ∧ t.sbk = s.sbk ∧ t.frm = s.frm ∧ t.params = s.params)) ∧
    (s.st = .safeStop → 0 < s.sbk.step → s.sbk.viol = false → s.p 0xA103 ≤ (s.sbk.rods.getD r SbkRod.reset).out →
      Does (.sbkEnv r) s (fun t =>
        t.sbk = { s.sbk with viol := true, injDue := s.sbk.injDue.orElse (fun _ => some (0x03, r)) } ∧
        t.trp.sbLatch = true ∧ t.trp.latch = s.trp.latch ∧ Acted t ∧ Reported 0x0A r 0x10 s t ∧ t.st = s.st ∧
        t.frm = s.frm ∧ t.params = s.params)) ∧
    (paired s = true → r < 16 → Does (.trpPairDiff r) s (fun t => Reported 0x0A r 3 s t ∧ engines t = engines s))

/-- In SAFE_STOP, once SBK_STEPS steps have run and every monitored rod has been below its end current long enough, Safe
Block by the rim path becomes due with cause 0x01; otherwise, once SBK_STEPS + SBK_TAIL steps have run, with cause
0x02, the tail marked and SBK_TAIL reported. A request that is due already stays, and in every other case nothing
changes. -/
def Obligations.SafeStopCompletesOnce : Prop :=
  ∀ s : State,
    let quiet := (List.range 12).all (fun r => !monitored s r || decide (s.p 0xA102 ≤ (s.sbk.rods.getD r SbkRod.reset).quiet))
    let first := s.st = .safeStop ∧ 0 < s.sbk.step ∧ s.p 0xA100 ≤ s.sbk.step ∧ quiet = true
    let second := s.st = .safeStop ∧ 0 < s.sbk.step ∧ s.p 0xA100 + s.p 0xA101 ≤ s.sbk.step
    (s.sbk.blockDue = none → first → Does .safeStopComplete s (fun t =>
      engines t = { engines s with sbk := { s.sbk with blockDue := some 0x01 } })) ∧
    (s.sbk.blockDue = none → ¬ first → second → Does .safeStopComplete s (fun t =>
      engines t = { engines s with sbk := { s.sbk with tail := true, blockDue := some 0x02 } } ∧ Reported 0x0A 0 0x12 s t)) ∧
    (s.sbk.blockDue ≠ none ∨ (¬ first ∧ ¬ second) → Does .safeStopComplete s (fun t => engines t = engines s))

/-- A frame on a station LAN that the port filter does not pass is counted in the discards of the time block and nothing
else changes. With telegrams enabled in a device that is not in OFF, a frame whose fields do not check is counted in
SBK_TG_BAD; a heartbeat telegram that checks ends its LAN's silence at its instant, and arms the supervision once
both LANs have been heard. -/
def Obligations.TelegramsAreChecked : Prop :=
  ∀ (s : State) (lan time : Nat) (b : List Byte),
    (portTakes s lan b = false → Does (.telegramReceive lan b time) s (fun t =>
      engines t = { engines s with time := { s.time with discard := satAdd 16 s.time.discard 1 } })) ∧
    (portTakes s lan b = true → lan < 2 → s.p 0xA200 = 1 → s.st ≠ .off →
      (tgBody s b = none → Does (.telegramReceive lan b time) s (fun t =>
        engines t = { engines s with sbk := { s.sbk with bad := satAdd 16 s.sbk.bad 1 } })) ∧
      (∀ body, tgBody s b = some body → fld body 1 1 = 0 → Does (.telegramReceive lan b time) s (fun t =>
        engines t = { engines s with sbk := { s.sbk with
          gotValid := s.sbk.gotValid.set lan true, lastValid := s.sbk.lastValid.set lan time
          silent := s.sbk.silent.set lan false, armed := s.sbk.armed || (s.sbk.gotValid.set lan true).all id } })))

/-- A new request copy with no earlier copy of its SEQ on the other LAN waits with its LAN, frame, SEQ and content. A
copy that equals one on the other LAN received at most two frames before is a match: SEQ and the count of matches
follow, a SAFE_STOP request is taken in by the next frame's work of a device that acts, a SAFE_BLOCK request sets
the telegram latch over all rods and the Safe Block latch, a ROD_BLOCK request ORs its mask into the telegram latch.
A_r follows. -/
def Obligations.TelegramRequestsAreMatched : Prop :=
  ∀ (s : State) (lan time : Nat) (b body : List Byte),
    portTakes s lan b = true → lan < 2 → s.p 0xA200 = 1 → s.st ≠ .off → tgBody s b = some body → fld body 1 1 ≠ 0 →
    let seq := fld body 6 2
    let d := (seq + 2 ^ 16 - s.sbk.lastSeq) % 2 ^ 16
    s.sbk.anySeq = true ∨ (d ≠ 0 ∧ d < 2 ^ 15) →
      ((∀ c ∈ s.sbk.copies, c.seq ≠ seq) → Does (.telegramReceive lan b time) s (fun t =>
        t.sbk.copies = s.sbk.copies ++ [{ lan := lan, frame := s.frm.rims, seq := seq, body := body }] ∧
        t.trp = s.trp ∧ t.st = s.st ∧ t.sbk.tgStop = s.sbk.tgStop ∧ t.sbk.matched = s.sbk.matched)) ∧
      (∀ c, s.sbk.copies = [c] → c.seq = seq → c.lan ≠ lan → s.frm.rims ≤ c.frame + 2 → c.body = body →
        Does (.telegramReceive lan b time) s (fun t =>
          t.sbk.copies = [] ∧ t.sbk.matched = satAdd 16 s.sbk.matched 1 ∧ t.sbk.lastSeq = seq ∧ t.st = s.st ∧
          t.trp.latch = s.trp.latch ∧
          (fld body 1 1 = 1 → t.sbk.tgStop = (s.sbk.tgStop || acts s) ∧ t.trp = s.trp) ∧
          (fld body 1 1 = 2 → t.trp.tgLatch = true ∧ t.trp.tgMask = 0xFFF ∧ t.trp.sbLatch = true ∧ Acted t) ∧
          (2 < fld body 1 1 → t.trp.tgLatch = true ∧ t.trp.tgMask = s.trp.tgMask ||| fld body 8 2 ∧
            t.trp.sbLatch = s.trp.sbLatch ∧ Acted t)))

/-- SBK_TG_LOSS of a LAN with a copy three rims old or more drops those copies, counts and reports SBK_TG_LOSS, and asks
for Safe Stop with cause 0x15 where its reaction code is 4 and the device acts. SBK_TG_SILENCE with telegrams
enabled and armed marks each LAN silent whose last valid telegram lies SBK_TG_TIMEOUT back or more; newly both
silent, SBK_TG_SILENT is counted and reported, newly one, SBK_TG_LANE. With the reaction code 1 nothing else of the
converter changes. -/
def Obligations.TelegramLossAndSilenceReport : Prop :=
  ∀ (s : State) (lan time : Nat),
    let stop := fun (code : Nat) (due : Option Nat) =>
      if acts s = true ∧ code = 4 then due.orElse (fun _ => some 0x15) else due
    let sil := [0, 1].map (fun l => decide (s.sbk.lastValid.getD l 0 + 1000000 * s.p 0xA204 ≤ time))
    ((∃ c ∈ s.sbk.copies, c.lan = lan ∧ c.frame + 3 ≤ s.frm.rims) → s.p 0xA206 ≠ 5 → Does (.sbkTgLoss lan) s (fun t =>
      engines t = { engines s with sbk := { s.sbk with
        loss := satAdd 8 s.sbk.loss 1, stopDue := stop (s.p 0xA206) s.sbk.stopDue
        copies := s.sbk.copies.filter (fun c => !(c.lan == lan && decide (c.frame + 3 ≤ s.frm.rims))) } } ∧
      Reported 0x0A 0 0x14 s t)) ∧
    (s.p 0xA200 = 1 → s.sbk.armed = true →
      (sil = s.sbk.silent → Does (.sbkTgSilence time) s (fun t => engines t = engines s)) ∧
      (sil ≠ s.sbk.silent → sil = [true, true] → s.p 0xA207 ≠ 5 → Does (.sbkTgSilence time) s (fun t =>
        engines t = { engines s with sbk := { s.sbk with
          silent := sil, silentN := satAdd 8 s.sbk.silentN 1, stopDue := stop (s.p 0xA207) s.sbk.stopDue } } ∧
        Reported 0x0A 0 0x15 s t)) ∧
      (sil ≠ s.sbk.silent → sil = [true, false] ∨ sil = [false, true] → s.p 0xA208 ≠ 5 →
        Does (.sbkTgSilence time) s (fun t =>
          engines t = { engines s with sbk := { s.sbk with
            silent := sil, lane := satAdd 8 s.sbk.lane 1, stopDue := stop (s.p 0xA208) s.sbk.stopDue } } ∧
          Reported 0x0A 0 0x16 s t)))

/-- A ramp entry whose fields check (R75) is appended to its group's queue where fewer than 16 wait, and the reply gives
the group and its depth; a full queue answers 0x0304, a bad entry 0x0203, and nothing changes. FCS-1 RAMP gives MODE
0, BLEND 0, members 0 to 3 and no start frame. Only the queue of that group changes. -/
def Obligations.RampsAreQueuedInOrder : Prop :=
  ∀ (s : State) (h : CmdHdr) (a : RampArgs) (g mask dur : Nat) (ts : List Int), PairOpen s h.pair → acts s = true →
    ∀ x ∈ [(Instr.refQueue h a, 0x0300, a), (.fcs1Ramp h g mask dur ts, 0x10030,
        { group := g, mask := mask % 16, mode := 0, blend := 0, minDur := dur, start := 0
          targets := ts.take 4 ++ List.replicate 4 0 })],
    MayRun x.2.1 h stRef s →
      (rampBad s true x.2.2 = true → Does x.1 s (fun t => Answers x.2.1 h 0x0203 [] s t ∧ engines t = engines s)) ∧
      (rampBad s true x.2.2 = false → 16 ≤ spDepth s x.2.2.group → Does x.1 s (fun t =>
        Answers x.2.1 h 0x0304 [] s t ∧ engines t = engines s)) ∧
      (rampBad s true x.2.2 = false → spDepth s x.2.2.group < 16 → Does x.1 s (fun t =>
        engines t = { engines s with ref := { s.ref with grps := modAt s.ref.grps x.2.2.group (fun q =>
          { q with queue := q.queue ++ [{ e := x.2.2, seq := h.seq, at_ := s.frm.rims }] }) } } ∧
        Answers x.2.1 h 0 (leBytes 1 x.2.2.group ++ leBytes 1 (spDepth t x.2.2.group)) s t))

/-- REF_STOP and FCS-1 RAMP_STOP of one group or of all discard the queues and waiting entries of those groups, count
them in REF_FLUSHED and end the running entries in the next frame; REF_REPLACE does so with its group and appends
its entry, never blended; both wait for their frame with their count. REF_PHASE_LOAD of an oscillator waits for the
named frame where it lies ahead, otherwise for the next one, counted late. No other field changes; a bad group,
oscillator or entry answers 0x0203. -/
def Obligations.ReplacesStopsAndLoadsWait : Prop :=
  ∀ (s : State) (h : CmdHdr) (a : RampArgs) (g nco frame phase : Nat),
    let cnt := fun gs : List Nat => sumN (gs.map (fun k =>
      (s.ref.grps.getD k Grp.reset).queue.length + b2n (s.ref.grps.getD k Grp.reset).wait.isSome))
    let cleared := fun gs : List Nat => s.ref.grps.mapIdx (fun k q =>
      if gs.contains k then { q with queue := [], wait := none, flush := true } else q)
    let bad := fun (c : Instr) (op : Nat) => PairOpen s h.pair → acts s = true → Does c s (fun t =>
      Answers op h 0x0203 [] s t ∧ engines t = engines s)
    (∀ x ∈ [(Instr.refStop h g, 0x0302), (.fcs1RampStop h g, 0x10031)], MayRun x.2 h stAny s →
      (∀ gs, (g ≤ 7 ∧ gs = [g]) ∨ (g = 0xFF ∧ gs = List.range 8) → Does x.1 s (fun t =>
        engines t = { engines s with ref := { s.ref with
          flushed := satAdd 32 s.ref.flushed (cnt gs), grps := cleared gs
          ops := s.ref.ops ++ [{ hdr := h, opcode := x.2, group := g, cnt := cnt gs }] } } ∧
        repliesOf t h.pair = repliesOf s h.pair)) ∧
      (7 < g → g ≠ 0xFF → bad x.1 x.2)) ∧
    (MayRun 0x0301 h stRef s →
      (rampBad s false a = false → Does (.refReplace h a) s (fun t =>
        engines t = { engines s with ref := { s.ref with
          flushed := satAdd 32 s.ref.flushed (cnt [a.group])
          grps := modAt (cleared [a.group]) a.group (fun q =>
            { q with queue := q.queue ++ [{ e := { a with blend := 0 }, seq := h.seq, at_ := s.frm.rims }] })
          ops := s.ref.ops ++ [{ hdr := h, opcode := 0x0301, group := a.group, cnt := cnt [a.group] }] } } ∧
        repliesOf t h.pair = repliesOf s h.pair)) ∧
      (rampBad s false a = true → bad (.refReplace h a) 0x0301)) ∧
    (MayRun 0x0303 h stUp s →
      (∀ fut, ahead frame s.frm.count = fut → nco ≤ 3 → Does (.refPhaseLoad h nco frame phase) s (fun t =>
        engines t = { engines s with ref := { s.ref with
          loads := s.ref.loads ++ [{ hdr := h, nco := nco, phase := phase % 2 ^ 48, late := !fut
                                     frame := if fut then frame % 2 ^ 32 else (s.frm.count + 1) % 2 ^ 32 }]
          late := satAdd 32 s.ref.late (b2n (!fut)) } } ∧
        repliesOf t h.pair = repliesOf s h.pair)) ∧
      (3 < nco → bad (.refPhaseLoad h nco frame phase) 0x0303))

/-- A ranged cell command waits for its rim (a 16-frame boundary for an unbind) where its range lies in the table, every
entry that it would change is in a state that allows it, and in RUNNING it leaves no supervised rod SHORT or carries
FORCE, which then starts Safe Stop with it. Otherwise it answers 0x0203, 0x0110 with the first entry that forbids
it, or 0x0111 with the lowest entry at fault. No entry of the table changes at execution. -/
def Obligations.CellRangesAreCheckedAndWait : Prop :=
  ∀ (s : State) (h : CmdHdr) (first count : Nat),
    let gone := fun e : Entry => decide (s.st ≠ .running) || decide (e.st = 0) || decide (e.st = 5) || decide (e.st = 6)
    let calm := fun e : Entry => decide (e.st ≤ 4) && decide (e.disp ≤ 1)
    let live := fun e : Entry => decide (e.st ≤ 5)
    ∀ x ∈ [(Instr.cellUnbind h first count, 0x0401, stBind, CellOp.unbind first count, gone, true, true),
        (.cellBlock h first count, 0x0402, stUp, .block first count, calm, true, false),
        (.cellRelease h first count, 0x0403, stUp, .release first count, calm, false, false),
        (.cellBypass h first count, 0x0404, stUp, .bypass first count, live, true, false)] ++
        (if count = 1 then [(.fcs1CellRemove h first, 0x10041, stBind, .unbind first 1, gone, true, true),
          (.fcs1CellBlock h first, 0x10042, stUp, .block first 1, calm, true, false),
          (.fcs1CellUnblock h first, 0x10043, stUp, .release first 1, calm, false, false),
          (.fcs1CellBypass h first, 0x10044, stUp, .bypass first 1, live, true, false)] else []),
    MayRun x.2.1 h x.2.2.1 s →
      let ks := (x.2.2.2.1.effect s.frm.g (staged s)).map Prod.fst
      let bad := ks.find? (fun k => !x.2.2.2.2.1 (Tab.get Entry.reset (staged s) k))
      let short := if x.2.2.2.2.2.1 = true ∧ s.st = .running then shortBy s (staged s) ks else none
      (spanOk first count = true → bad = none → short = none ∨ h.force = true → Does x.1 s (fun t =>
        engines t = { engines s with rnk := { s.rnk with pend := s.rnk.pend ++
          [{ hdr := h, opcode := x.2.1, op := x.2.2.2.1, bound16 := x.2.2.2.2.2.2, forced := short.isSome }] } } ∧
        repliesOf t h.pair = repliesOf s h.pair)) ∧
      (PairOpen s h.pair → acts s = true →
        (spanOk first count = false → Does x.1 s (fun t =>
          Answers x.2.1 h 0x0203 [] s t ∧ engines t = engines s)) ∧
        (∀ k, spanOk first count = true → bad = some k → Does x.1 s (fun t =>
          Answers x.2.1 h 0x0110 (leBytes 2 k) s t ∧ engines t = engines s)) ∧
        (∀ k, spanOk first count = true → bad = none → short = some k → h.force = false → Does x.1 s (fun t =>
          Answers x.2.1 h 0x0111 (leBytes 2 k) s t ∧ engines t = engines s)))

/-- A bind of an unbound entry with C_NOM and a slot that passes the checks of R122 waits for a 16-frame boundary; a
replace of a bound ABSENT, BYPASSED or FAILED entry, a set of a bound entry, a clear of a range and a load whose
parts carry their checksums, their nominal values and legal bindings wait for the next rim (the load for the
boundary). Otherwise the command answers the status of the first check that fails; of a load with the entry. No
entry changes at execution. -/
def Obligations.CellEntriesAreCheckedAndWait : Prop :=
  ∀ (s : State) (h : CmdHdr) (b : BindArgs) (k id mask mi cn count : Nat) (ps : List (List Byte)),
    let e := fun j => Tab.get Entry.reset (staged s) j
    let waits := fun (op : Nat) (c : CellOp) (b16 : Bool) (t : State) =>
      engines t = { engines s with rnk := { s.rnk with pend := s.rnk.pend ++
        [{ hdr := h, opcode := op, op := c, bound16 := b16, forced := false }] } } ∧
      repliesOf t h.pair = repliesOf s h.pair
    let refuses := fun (c : Instr) (op st : Nat) (data : List Byte) => PairOpen s h.pair → acts s = true → Does c s (fun t =>
      Answers op h st data s t ∧ engines t = engines s)
    (∀ x ∈ [(Instr.cellBind h b, 0x0400), (.fcs1CellAdd h b, 0x10040)], MayRun x.2 h stBind s →
      let ok := b.entry < 6144 ∧ b.cNom ≠ 0
      let faults := bindFaults (pStandN s) (putAll (staged s) [(b.entry, Entry.bind b (e b.entry))]) [b.entry]
      (¬ ok → refuses x.1 x.2 0x0203 []) ∧ (ok → (e b.entry).bound = true → refuses x.1 x.2 0x0110 []) ∧
      (ok → (e b.entry).bound = false → b.rod = 15 ∧ b.lane = 255 → refuses x.1 x.2 0x0203 []) ∧
      (ok → (e b.entry).bound = false → ¬ (b.rod = 15 ∧ b.lane = 255) →
        (∀ st i, faults = some (st, i) → refuses x.1 x.2 st []) ∧
        (faults = none → Does x.1 s (waits x.2 (.bind b) true)))) ∧
    (∀ x ∈ [(Instr.cellReplace h k id, 0x0405), (.fcs1CellSwap h k id, 0x10045)], MayRun x.2 h stCalm s →
      let free := (e k).bound = true ∧ ((e k).st = 0 ∨ (e k).st = 5 ∨ (e k).st = 6)
      let twice := id ≠ 0 ∧ (boundIn (staged s)).any (fun y => y.1 != k && y.2.id == id) = true
      (6144 ≤ k → refuses x.1 x.2 0x0203 []) ∧ (k < 6144 → ¬ free → refuses x.1 x.2 0x0110 []) ∧
      (k < 6144 → free → twice → refuses x.1 x.2 0x0210 []) ∧
      (k < 6144 → free → ¬ twice → Does x.1 s (waits x.2 (.replace k id) false))) ∧
    (MayRun 0x0406 h stUp s →
      let ok := k < 6144 ∧ mask ≠ 0 ∧ ¬ (tb mask 1 = true ∧ cn = 0)
      (¬ ok → refuses (.cellSet h k mask mi cn) 0x0406 0x0203 []) ∧
      (ok → (e k).bound = false → refuses (.cellSet h k mask mi cn) 0x0406 0x0110 []) ∧
      (ok → (e k).bound = true → Does (.cellSet h k mask mi cn) s (waits 0x0406 (.set k mask mi cn) false))) ∧
    (MayRun 0x0407 h stCalm s →
      let ok := spanOk k ps.length = true ∧ ps.length ≤ 256
      let faults := bindFaults (pStandN s) (putAll (staged s) ((CellOp.load k ps).effect s.frm.g (staged s))) (span k ps.length)
      (¬ ok → refuses (.cellLoad h k ps) 0x0407 0x0203 []) ∧
      (∀ i, ok → badCrc ps = some i → refuses (.cellLoad h k ps) 0x0407 0x0410 (leBytes 2 (k + i))) ∧
      (∀ i, ok → badCrc ps = none → badNom ps = some i → refuses (.cellLoad h k ps) 0x0407 0x0203 (leBytes 2 (k + i))) ∧
      (ok → badCrc ps = none → badNom ps = none →
        (∀ st i, faults = some (st, i) → refuses (.cellLoad h k ps) 0x0407 st (leBytes 2 i)) ∧
        (faults = none → Does (.cellLoad h k ps) s (waits 0x0407 (.load k ps) true)))) ∧
    (MayRun 0x0408 h stAny s →
      (spanOk k count = false → refuses (.cellClear h k count) 0x0408 0x0203 []) ∧
      (spanOk k count = true → Does (.cellClear h k count) s (waits 0x0408 (.clear k count) false)))

/-- A restart of lanes that all have power waits for the rim with its mask; where in RUNNING it would leave a supervised
rod SHORT it answers 0x0111, or with FORCE waits and starts Safe Stop; a mask with a lane that is OFF answers
0x0113. No block of the converter changes at execution. -/
def Obligations.LinkRestartsWait : Prop :=
  ∀ (s : State) (h : CmdHdr) (mask : Nat), ∀ x ∈ [(Instr.lnkRestart h mask, 0x0502), (.fcs1LinkReset h mask, 0x10050)],
    MayRun x.2 h stUp s →
      let off := (lanesIn mask).any (fun k => decide ((s.ln k).st = 0))
      let short := decide (s.st = .running) && lanesShort s mask
      (off = false → short = false ∨ h.force = true → Does x.1 s (fun t =>
        t.lnk.restarts = s.lnk.restarts ++ [{ hdr := h, opcode := x.2, mask := mask, forced := short }] ∧
        engines t = engines s ∧ repliesOf t h.pair = repliesOf s h.pair)) ∧
      (PairOpen s h.pair → acts s = true →
        (off = true → Does x.1 s (fun t => Answers x.2 h 0x0113 [] s t ∧ engines t = engines s)) ∧
        (off = false → short = true → h.force = false → Does x.1 s (fun t =>
          Answers x.2 h 0x0111 [] s t ∧ engines t = engines s)))

/-- TRC_ARM in IDLE or DONE, with a source and the MEM domain on, arms segment 0 for the next rim with no segment done
and answers DONE; elsewhere it answers 0x0301, 0x0203 or 0x0302. TRC_TRIGGER in READY starts POST with source 4 at
its instant and answers 0, elsewhere it answers IGNORED and the recorder's state stays. TRC_DISARM answers DONE and
moves PRE and READY to IDLE, POST to DONE with one more capture, and changes nothing in IDLE, DONE and RE-ARM. The
device state stays. -/
def Obligations.RecorderIsArmedTriggeredAndStopped : Prop :=
  ∀ (s : State) (h : CmdHdr), PairOpen s h.pair → acts s = true →
    (∀ x ∈ [(Instr.trcArm h, 0x0600), (.fcs1CaptureArm h, 0x10060)], MayRun x.2 h stUp s →
      let idle := (s.trc.st = 0 ∨ s.trc.st = 5) ∧ s.trc.armDue = false
      (idle → trcNoSrc s = false → tb s.pwr.on 4 = true → Does x.1 s (fun t =>
        Answers x.2 h 0 [] s t ∧ t.trc.armDue = true ∧ t.trc.seg = 0 ∧ t.trc.doneMap = 0 ∧ t.trc.st = s.trc.st ∧
        engines t = { engines s with trc := t.trc, params := t.params })) ∧
      (∀ st, (¬ idle ∧ st = 0x0301) ∨ (idle ∧ trcNoSrc s = true ∧ st = 0x0203) ∨
          (idle ∧ trcNoSrc s = false ∧ tb s.pwr.on 4 = false ∧ st = 0x0302) →
        Does x.1 s (fun t => Answers x.2 h st [] s t ∧ engines t = engines s))) ∧
    (∀ x ∈ [(Instr.trcTrigger h, 0x0602), (.fcs1CaptureForce h, 0x10061)], MayRun x.2 h stUp s →
      (s.trc.st = 2 → Does x.1 s (fun t => Answers x.2 h 0 [0] s t ∧ t.trc.st = 3 ∧ t.trc.src = 4 ∧
        t.trc.trigG = h.time ∧ t.trc.trigSlot = 0xFF ∧ engines t = { engines s with trc := t.trc })) ∧
      (s.trc.st ≠ 2 → Does x.1 s (fun t => Answers x.2 h 0 [1] s t ∧ t.trc.st = s.trc.st ∧
        engines t = { engines s with trc := t.trc }))) ∧
    (MayRun 0x0601 h stUp s →
      (s.trc.st = 1 ∨ s.trc.st = 2 → Does (.trcDisarm h) s (fun t =>
        Answers 0x0601 h 0 [] s t ∧ t.trc.st = 0 ∧ engines t = { engines s with trc := t.trc })) ∧
      (s.trc.st = 3 → Does (.trcDisarm h) s (fun t => Answers 0x0601 h 0 [] s t ∧ t.trc.st = 5 ∧
        t.trc.captures = satAdd 32 s.trc.captures 1 ∧ engines t = { engines s with trc := t.trc })) ∧
      (¬ (1 ≤ s.trc.st ∧ s.trc.st ≤ 3) → Does (.trcDisarm h) s (fun t =>
        Answers 0x0601 h 0 [] s t ∧ engines t = engines s)))

/-- EVR_RECORD with room in the queue queues a TYPE 1 trigger with the low 16 bits of its cause at its instant, behind
those that wait, and answers the number its record will have; with a full queue it answers 0. EVR_CLEAR_FIRST zeroes
the first area and its count and waits for its EVR_CLEAR record where the journal reaches both flashes, and answers
0x0405 otherwise. No block of the converter changes. -/
def Obligations.HostEventsAndClearsAreRecorded : Prop :=
  ∀ (s : State) (h : CmdHdr) (cause : Nat), PairOpen s h.pair → acts s = true →
    (MayRun 0x0610 h stUp s →
      (s.evr.queue.length < 64 → Does (.evrRecord h cause) s (fun t =>
        Answers 0x0610 h 0 (leBytes 4 (numAfter s.evr.num (s.evr.queue.length + 1))) s t ∧ engines t = engines s ∧
        ∃ tr : Trig, tr.typ = 1 ∧ tr.cause = causeWords (cause % 2 ^ 16) ∧ tr.g = h.time ∧
          (s.evr.queue ++ [tr]) <+: t.evr.queue)) ∧
      (64 ≤ s.evr.queue.length → Does (.evrRecord h cause) s (fun t =>
        Answers 0x0610 h 0 [0, 0, 0, 0] s t ∧ engines t = engines s))) ∧
    (MayRun 0x0611 h stStill s →
      let cleared := fun t : State => t.evr.mem = s.evr.mem.zero 0 0x40000 ∧ t.evr.first = 0 ∧ t.evr.firstFull = false ∧
        engines t = engines s
      (jnlBoth s = true → Does (.evrClearFirst h) s (fun t =>
        cleared t ∧ t.jnl.evrClears = s.jnl.evrClears ++ [(h, s.jnl.next)] ∧
        repliesOf t h.pair = repliesOf s h.pair)) ∧
      (jnlBoth s = false → Does (.evrClearFirst h) s (fun t => cleared t ∧ Answers 0x0611 h 0x0405 [] s t)))

/-- JNL_SYNC and FCS-1 SAVE of a healthy journal answer at once where no record is pending and otherwise wait for
exactly the records pending at execution; an unhealthy journal answers 0x0405. JNL_COMPACT starts a compaction that
the command waits for, or answers 0x0301 while one runs and 0x0405 where a flash is out of reach. JNL_EXPORT writes
as many bytes as asked for to its output buffer, or answers 0x0203. No command touches a block of the converter but
the entries marked for the batch, which a compaction writes. -/
def Obligations.JournalCommandsAreAnswered : Prop :=
  ∀ (s : State) (h : CmdHdr) (flash off len : Nat) (b : OutBuf), PairOpen s h.pair → acts s = true →
    (∀ x ∈ [(Instr.jnlSync h, 0x0700), (.fcs1Save h, 0x10070)], MayRun x.2 h stAny s →
      (jnlHealthy s.toDev = true → pendingSeqs s = [] → Does x.1 s (fun t =>
        Answers x.2 h 0 [] s t ∧ engines t = engines s)) ∧
      (jnlHealthy s.toDev = true → pendingSeqs s ≠ [] → Does x.1 s (fun t =>
        t.jnl = { s.jnl with syncs := s.jnl.syncs ++ [(h, x.2, pendingSeqs s)] } ∧ engines t = engines s ∧
        repliesOf t h.pair = repliesOf s h.pair)) ∧
      (jnlHealthy s.toDev = false → Does x.1 s (fun t => Answers x.2 h 0x0405 [] s t ∧ engines t = engines s))) ∧
    (MayRun 0x0701 h stUp s →
      (s.jnl.compact = true → Does (.jnlCompact h) s (fun t =>
        Answers 0x0701 h 0x0301 [] s t ∧ engines t = engines s)) ∧
      (s.jnl.compact = false → jnlReach s = true → Does (.jnlCompact h) s (fun t =>
        t.jnl.compact = true ∧ t.jnl.compHdr = some h ∧ t.jnl.ckBegin = s.jnl.next ∧
        engines t = { engines s with rnk := t.rnk } ∧ repliesOf t h.pair = repliesOf s h.pair)) ∧
      (s.jnl.compact = false → jnlReach s = false → Does (.jnlCompact h) s (fun t =>
        Answers 0x0701 h 0x0405 [] s t ∧ engines t = { engines s with rnk := t.rnk }))) ∧
    (MayRun 0x0702 h stAny s →
      let ok := flash ≤ 1 ∧ 8 ≤ len ∧ len ≤ 1048576 ∧ len % 8 = 0 ∧ off + len ≤ 2 ^ 27
      (ok → b.addr % 8 = 0 → len ≤ b.len → b.ok = true → Does (.jnlExport h flash off len b) s (fun t =>
        Answers 0x0702 h 0 [] s t ∧ engines t = engines s ∧
        ∃ bytes : List Byte, bytes.length = len ∧ .host b.addr bytes ∈ t.out)) ∧
      (¬ ok → Does (.jnlExport h flash off len b) s (fun t =>
        Answers 0x0702 h 0x0203 [] s t ∧ engines t = engines s)))

/-- TOUT_ARM with fields in range arms its output and no other, and answers DONE; bad fields answer 0x0203, a PTP target
of another epoch 0x0212, the pair's output 0x0305. TOUT_STOP disarms one or all outputs. TIME_SELECT of the domain
in use answers at once, of another valid domain waits for the rim, and TIME_STEP_NOW with a held step waits for the
rim; a missing domain answers 0x0203, one without time 0x0117, no held step 0x0116, a second request 0x0301. -/
def Obligations.TimedOutputsAndTimeCommands : Prop :=
  ∀ (s : State) (h : CmdHdr) (a : ToutArgs) (i d : Nat), PairOpen s h.pair → acts s = true →
    let refuses := fun (c : Instr) (op st : Nat) => Does c s (fun t => Answers op h st [] s t ∧ engines t = engines s)
    (MayRun 0x0810 h stUp s →
      let ok := a.output < 8 ∧ 4 ≤ a.width ∧ a.width < 2 ^ 31 ∧ (a.ptp = true → a.target < 2 ^ 32) ∧
        ((a.mode = 1 ∧ a.period = 0) ∨ (a.mode = 2 ∧ 8 ≤ a.period ∧ a.period < 2 ^ 31 ∧ a.width + 4 ≤ a.period))
      let epoch := a.ptp = true ∧ (a.epoch ≠ s.time.epoch ∨ s.time.epoch = 0)
      (¬ ok → refuses (.toutArm h a) 0x0810 0x0203) ∧ (ok → epoch → refuses (.toutArm h a) 0x0810 0x0212) ∧
      (ok → ¬ epoch → pairOut s = true → a.output = 7 → refuses (.toutArm h a) 0x0810 0x0305) ∧
      (ok → ¬ epoch → pairOut s = false ∨ a.output ≠ 7 → Does (.toutArm h a) s (fun t =>
        ∃ (o : TOut) (data : List Byte), o.armed = true ∧ o.mode = a.mode ∧ o.ptp = a.ptp ∧ o.width = a.width ∧
          o.period = a.period ∧ engines t = { engines s with tout := s.tout.set a.output o } ∧
          Answers 0x0810 h 0 data s t))) ∧
    (MayRun 0x0811 h stUp s →
      (8 ≤ i ∧ i ≠ 0xFF → refuses (.toutStop h i) 0x0811 0x0203) ∧
      (pairOut s = true → i = 7 → refuses (.toutStop h i) 0x0811 0x0305) ∧
      (i < 8 ∨ i = 0xFF → pairOut s = false ∨ i ≠ 7 → Does (.toutStop h i) s (fun t =>
        engines t = { engines s with tout := s.tout.mapIdx (fun k o =>
          if i = k ∨ i = 0xFF then { o with armed := false, mode := 0, due := none, lateNext := false } else o) } ∧
        Answers 0x0811 h 0 [] s t))) ∧
    (MayRun 0x0820 h stAny s →
      (2 ≤ d → refuses (.timeSelect h d) 0x0820 0x0203) ∧
      (d < 2 → (s.dom d).valid = false → refuses (.timeSelect h d) 0x0820 0x0117) ∧
      (d < 2 → (s.dom d).valid = true → s.time.inUse = d → Does (.timeSelect h d) s (fun t =>
        Answers 0x0820 h 0 ([BitVec.ofNat 8 d, 0, 0, 0] ++ leBytes 4 s.frm.count) s t ∧ engines t = engines s)) ∧
      (d < 2 → (s.dom d).valid = true → s.time.inUse ≠ d →
        (s.time.selHdr.isSome = true → refuses (.timeSelect h d) 0x0820 0x0301) ∧
        (s.time.selHdr = none → Does (.timeSelect h d) s (fun t =>
          engines t = { engines s with time := { s.time with selDue := some d, selHdr := some h } } ∧
          repliesOf t h.pair = repliesOf s h.pair)))) ∧
    (MayRun 0x0821 h stAny s →
      (s.time.held = none → refuses (.timeStepNow h) 0x0821 0x0116) ∧
      (∀ m, s.time.held = some m →
        (s.time.stepHdr.isSome = true → refuses (.timeStepNow h) 0x0821 0x0301) ∧
        (s.time.stepHdr = none → Does (.timeStepNow h) s (fun t =>
          engines t = { engines s with time := { s.time with stepDue := some m, stepHdr := some h } } ∧
          repliesOf t h.pair = repliesOf s h.pair))))

/-- PAIR_SWITCH of an ACTIVE device with a synchronised partner and no hand-over asks for one; without a partner that
follows it answers 0x0802, with one that is not synchronised 0x0803, during a hand-over 0x0301. PAIR_LEAVE of a
STANDBY or JOINING device, PAIR_CLAIM of a device that does not act after more than 8 frames without light and
heartbeat, and PAIR_REJOIN of a DETACHED device whose partner fits wait for the next rim with their role; elsewhere
they answer 0x0805, 0x0806 and 0x0804. No block of the converter changes. -/
def Obligations.PairCommandsAreChecked : Prop :=
  ∀ (s : State) (h : CmdHdr), PairOpen s h.pair →
    let refuses := fun (c : Instr) (op st : Nat) => Does c s (fun t => Answers op h st [] s t ∧ engines t = engines s)
    let asks := fun (op : Nat) (r : Role) (t : State) => t.pair.change = s.pair.change ++ [(h, op, r)] ∧
      t.pair.role = s.pair.role ∧ engines t = engines s ∧ repliesOf t h.pair = repliesOf s h.pair
    (MayRun 0x0901 h stUp s → s.pair.role ≠ .standby →
      let alone := s.pair.role ≠ .active ∨ s.pair.links.any id = false ∨ ¬ (s.pair.ptnrRole = 2 ∨ s.pair.ptnrRole = 3)
      let busy := s.pair.hover = true ∨ s.pair.hoverReq.isSome = true
      (alone → refuses (.pairSwitch h) 0x0901 0x0802) ∧
      (¬ alone → partnerSynced s = false → refuses (.pairSwitch h) 0x0901 0x0803) ∧
      (¬ alone → partnerSynced s = true → busy → refuses (.pairSwitch h) 0x0901 0x0301) ∧
      (¬ alone → partnerSynced s = true → ¬ busy → Does (.pairSwitch h) s (fun t =>
        t.pair.hoverReq = some (.switch h) ∧ t.pair.role = s.pair.role ∧ engines t = engines s ∧
        repliesOf t h.pair = repliesOf s h.pair))) ∧
    (MayRun 0x0902 h stUp s →
      (follows s = true → Does (.pairLeave h) s (asks 0x0902 .detached)) ∧
      (follows s = false → refuses (.pairLeave h) 0x0902 0x0805)) ∧
    (MayRun 0x0903 h stUp s →
      (acts s = false → 8 < s.pair.darkRun → 8 < s.pair.hbRun → Does (.pairClaim h) s (asks 0x0903 .active)) ∧
      (acts s = true ∨ s.pair.darkRun ≤ 8 ∨ s.pair.hbRun ≤ 8 → refuses (.pairClaim h) 0x0903 0x0806)) ∧
    (MayRun 0x0904 h stUp s →
      (s.pair.role = .detached → s.pair.helloBad = false → Does (.pairRejoin h) s (asks 0x0904 .joining)) ∧
      (s.pair.role ≠ .detached ∨ s.pair.helloBad = true → refuses (.pairRejoin h) 0x0904 0x0804))

/-- FLT_CLEAR (FCS-1 CLEAR_FAULTS for every source and kind) and STATS_CLEAR (FCS-1 STATS_RESET) wait for the next rim:
no fault bit and no statistic changes at execution. FLT_DRAIN into a buffer with room writes every queued record and
then every coalesced one, oldest first, answers their counts and FLT_LOST, empties both and clears FLT_LOST where
asked (what the command's own completion record may raise comes after); a buffer that is too short answers 0x0207
with the length it needs and leaves both. -/
def Obligations.FaultAndDiagnosticCommands : Prop :=
  ∀ (s : State) (h : CmdHdr) (source kind : Nat) (clr : Bool) (b : OutBuf),
    let bytes := s.flt.queue.flatMap queueBytes ++ s.flt.table.flatMap coalBytes
    (∀ x ∈ [(Instr.fltClear h source kind, 0x0A00, source, kind), (.fcs1ClearFaults h, 0x10090, 0x3FF, 0xFF)],
      MayRun x.2.1 h stAny s → Does x.1 s (fun t =>
        t.flt.clears = s.flt.clears ++ [(h, x.2.1, x.2.2.1, x.2.2.2)] ∧ t.flt.active = s.flt.active ∧
        t.flt.lines = s.flt.lines ∧ engines t = engines s ∧ repliesOf t h.pair = repliesOf s h.pair)) ∧
    (∀ x ∈ [(Instr.statsClear h, 0x0F00), (.fcs1StatsReset h, 0x100F0)], MayRun x.2 h stAny s → Does x.1 s (fun t =>
      engines t = { engines s with frm := { s.frm with stats := s.frm.stats ++ [(h, x.2)] } } ∧
      repliesOf t h.pair = repliesOf s h.pair)) ∧
    (MayRun 0x0A01 h stAny s → PairOpen s h.pair → acts s = true → b.addr % 8 = 0 →
      (bytes.length ≤ b.len → b.ok = true → Does (.fltDrain h clr b) s (fun t =>
        Answers 0x0A01 h 0 (leBytes 2 s.flt.queue.length ++ leBytes 2 s.flt.table.length ++ leBytes 4 s.flt.lost) s t ∧
        engines t = engines s ∧ .host b.addr bytes ∈ t.out ∧ t.flt.table = [] ∧
        t.flt.lost = (if clr then 0 else s.flt.lost) ∧ ∀ m ∈ t.flt.queue, m.1.blk = 0x11 ∨ m.1.blk = 0x10)) ∧
      (b.len < bytes.length → Does (.fltDrain h clr b) s (fun t =>
        Answers 0x0A01 h 0x0207 (leBytes 4 bytes.length) s t ∧ engines t = engines s)))

/-- PWR_DOMAIN of switchable domains with a change to make starts the lowest named domain that changes, the rest to
follow, and has no reply yet; a bad mask or direction answers 0x0203, one during another 0x0301. DEV_RESTART answers
DONE and the restart is due. ADC_CAL in MAINTENANCE with converters powered and none running starts over all of them
at its instant, and answers 0x0301 while one runs and 0x0302 where none is powered. -/
def Obligations.PowerAndCalibrationCommands : Prop :=
  ∀ (s : State) (h : CmdHdr) (mask on : Nat),
    let open_ := PairOpen s h.pair ∧ acts s = true
    (∀ x ∈ [(Instr.adcCal h, 0x0C00), (.fcs1Calibrate h, 0x10080)], MayRun x.2 h (stIs .maintenance) s →
      (s.adc.cal = none → convUp s ≠ 0 → Does x.1 s (fun t =>
        engines t = { engines s with adc := { s.adc with cal := some (h, x.2, h.time, convUp s) } } ∧
        repliesOf t h.pair = repliesOf s h.pair)) ∧
      (open_ → s.adc.cal.isSome = true → Does x.1 s (fun t =>
        Answers x.2 h 0x0301 [] s t ∧ engines t = engines s)) ∧
      (open_ → s.adc.cal = none → convUp s = 0 → Does x.1 s (fun t =>
        Answers x.2 h 0x0302 [] s t ∧ engines t = engines s))) ∧
    (MayRun 0x0B01 h stStill s → open_ → Does (.devRestart h) s (fun t =>
      Answers 0x0B01 h 0 [] s t ∧ engines t = { engines s with pwr := { s.pwr with restart := true } })) ∧
    (MayRun 0x0B00 h stUp s → mask < 4096 → ¬ (on = 0 ∧ stStill s.st = false) →
      let bad := (bitsOf 12 mask).any (fun d => decide (d < 5) || decide (8 < d)) = true ∨ 2 ≤ on
      (open_ → bad → Does (.pwrDomain h mask on) s (fun t =>
        Answers 0x0B00 h 0x0203 [] s t ∧ engines t = engines s)) ∧
      (open_ → ¬ bad → s.pwr.switching.isSome = true → Does (.pwrDomain h mask on) s (fun t =>
        Answers 0x0B00 h 0x0301 [] s t ∧ engines t = engines s)) ∧
      (∀ d ds, ¬ bad → s.pwr.switching = none →
        (bitsOf 12 mask).filter (fun i => tb s.pwr.on i != decide (on = 1)) = d :: ds → s.adc.cal = none →
        Does (.pwrDomain h mask on) s (fun t =>
          engines t = { engines s with pwr := { s.pwr with
            moving := 2 ^ d, switching := some { hdr := h, on := decide (on = 1), todo := d :: ds } } } ∧
          repliesOf t h.pair = repliesOf s h.pair)))

/-- FIR_TEST_EDGE in MAINTENANCE for a bound cell in a state that takes tests, with a level its kind has and fewer than
64 pending, queues the edge and puts the cell under test at block; a bad entry or level answers 0x0203, an illegal
state 0x0110, a full list 0x0304. FIR_TEST_END of one cell or of all, and FIR_TEST_HOLD_EXPIRE of a cell whose hold
has passed, mark the tests of those cells ended and discard their pending edges and no others; the expiry of a cell
whose hold has not passed changes nothing. -/
def Obligations.TestEdgesAreQueuedAndEnded : Prop :=
  ∀ (s : State) (h : CmdHdr) (k code time : Nat),
    let e := s.ent k
    let refuses := fun st : Nat => Does (.firTestEdge h k code time) s (fun t =>
      Answers 0x0F20 h st [] s t ∧ engines t = engines s)
    let ended := fun (sel : Nat → Bool) (t : State) =>
      t.fir = { s.fir with
        cells := s.fir.cells.map (fun c => if sel c.entry then { c with ended := true } else c)
        tests := s.fir.tests.filter (fun te => !sel te.entry) } ∧ engines t = { engines s with fir := t.fir }
    (MayRun 0x0F20 h stMaint s →
      let ok := k < 6144 ∧ (code = 0 ∨ code = 1 ∨ code = 4 ∨ (code = 2 ∧ e.fb = true))
      let legal := e.bound = true ∧ e.st ≠ 0 ∧ e.st ≠ 5 ∧ e.st ≠ 6
      (PairOpen s h.pair → acts s = true → (¬ ok → refuses 0x0203) ∧ (ok → ¬ legal → refuses 0x0110) ∧
        (ok → legal → 64 ≤ s.fir.tests.length → refuses 0x0304)) ∧
      (ok → legal → s.fir.tests.length < 64 → Does (.firTestEdge h k code time) s (fun t =>
        t.fir.tests = s.fir.tests ++ [{ hdr := h, entry := k, code := code, time := time, late := false, del := false }] ∧
        (∃ c ∈ t.fir.cells, c.entry = k ∧ c.ended = false) ∧ engines t = { engines s with fir := t.fir } ∧
        repliesOf t h.pair = repliesOf s h.pair))) ∧
    (MayRun 0x0F21 h stMaint s → PairOpen s h.pair → acts s = true →
      (k < 6144 ∨ k = 0xFFFF → Does (.firTestEnd h k) s (ended (fun j => decide (k = 0xFFFF) || j == k))) ∧
      (6144 ≤ k → k ≠ 0xFFFF → Does (.firTestEnd h k) s (fun t =>
        Answers 0x0F21 h 0x0203 [] s t ∧ engines t = engines s))) ∧
    (holdOver s k = true → Does (.firTestHoldExpire k) s (ended (fun j => j == k))) ∧
    (holdOver s k = false → Does (.firTestHoldExpire k) s (fun t => engines t = engines s))

/-- Light on a lane in DETECT starts TRAIN over its valid rows with no row measured (a standby stays in DETECT); the
flag without light marks it. The end of a dwell gives its row its figure, zero with fewer than 8 clean bursts or
downstream errors; after the last row the best row that reaches the limit is adopted and the lane is in ALIGN, or
the lane waits for its retry with cause 2. Lock moves ALIGN to CAPS with the polarities, capabilities CAPS to
DISCOVER, and the end of the wait RETRY to DETECT unless the lane is held. No other lane changes, and of the other
blocks only event parameters, cells, the cell protocol and the rank. -/
def Obligations.LaneBringUpAdvances : Prop :=
  ∀ (s : State) (k : Nat), k < 24 →
    let rest := fun t : State => (∀ j, j ≠ k → LaneSame (t.ln j) (s.ln j)) ∧
      engines t = { engines s with params := t.params, cells := t.cells, cev := t.cev, rnk := t.rnk }
    ((s.ln k).st = 1 → (s.ln k).light = false →
      Does (.lnkLightDetect k) s (fun t => rest t ∧ (t.ln k).st = (if acts s then 2 else 1) ∧ (t.ln k).light = true ∧
        (t.ln k).rows = validRows t k ∧ (t.ln k).foms = List.replicate 8 FomRow.reset) ∧
      Does (.lnkDetectFlag k) s (fun t => rest t ∧ LaneSame (t.ln k) { s.ln k with noLight := true })) ∧
    (∀ (w h clean : Nat) (dsErr : Bool) (j : Nat) (more : List Nat), (s.ln k).st = 2 → (s.ln k).rows = j :: more →
      let bad := (dsErr || (s.ln k).dsErr) && acts s
      let foms := (s.ln k).foms.set j { measured := true, dsErr := bad, few := decide (clean < 8), w := w, h := h
                                        fom := if clean < 8 ∨ bad = true then 0 else w * h }
      Does (.lnkEqDwellEnd k w h clean dsErr) s (fun t => rest t ∧ (t.ln k).foms = foms ∧ (t.ln k).rows = more ∧
        (more ≠ [] → (t.ln k).st = 2) ∧
        (more = [] → ∀ b, bestRow foms (s.p 0x8201) = some b → (t.ln k).st = 3 ∧ (t.ln k).row = b) ∧
        (more = [] → bestRow foms (s.p 0x8201) = none → (t.ln k).st = 8 ∧ (t.ln k).cause = 2))) ∧
    (∀ (rxInv : Bool) (dsInv : List Bool), (s.ln k).st = 3 → (s.ln k).rows = [] →
      Does (.lnkAlignLock k rxInv dsInv) s (fun t => rest t ∧ (t.ln k).st = 4 ∧ (t.ln k).rxInv = rxInv ∧
        (t.ln k).txInv = decide (dsInv.length < 2 * (dsInv.filter id).length) ∧ (t.ln k).caps = [])) ∧
    ((s.ln k).st = 4 → (s.ln k).caps ≠ [] ∨ (s.cv k).conc.isSome = true →
      Does (.lnkCapsQuiet k) s (fun t => rest t ∧ (t.ln k).st = 5 ∧ (t.ln k).roundOk = false)) ∧
    ((s.ln k).st = 8 → (s.ln k).held = false →
      Does (.lnkRetryWaitEnd k) s (fun t => rest t ∧ (t.ln k).st = 1 ∧ (t.ln k).light = false ∧ (t.ln k).caps = [] ∧
        (t.ln k).retries = (s.ln k).retries))

/-- In ALIGN, CAPS with no capability and DISCOVER with no completed round, the timeout puts the lane into its retry
wait with cause 3, 4 or 5 and one more retry; a first round with every assigned cell ranged or tried out completes
where a cell was ranged, and fails with cause 5 otherwise. Loss of signal in ACTIVE at the limit puts the lane into
DETECT with cause 6 and counts a loss. In every other state of the lane these events change nothing. No other lane
changes, and of the other blocks only event parameters, cells, the cell protocol and the rank. -/
def Obligations.LaneTimeoutsAndLosses : Prop :=
  ∀ (s : State) (k : Nat), k < 24 →
    let rest := fun t : State => (∀ j, j ≠ k → LaneSame (t.ln j) (s.ln j)) ∧
      engines t = { engines s with params := t.params, cells := t.cells, cev := t.cev, rnk := t.rnk }
    let failed := fun (cause : Nat) (t : State) => rest t ∧ (t.ln k).st = 8 ∧ (t.ln k).cause = cause ∧
      (t.ln k).retries = satAdd 4 (s.ln k).retries 1 ∧ (t.ln k).caps = []
    let nothing := fun t : State => engines t = engines s ∧ ∀ j, LaneSame (t.ln j) (s.ln j)
    let l := assigned s k
    let ovr := l.all (fun e => e.2.ranged || decide (s.p 0x9021 ≤ e.2.tries))
    ((s.ln k).st = 3 → Does (.lnkAlignTo k) s (failed 3)) ∧ ((s.ln k).st ≠ 3 → Does (.lnkAlignTo k) s nothing) ∧
    ((s.ln k).st = 4 → (s.ln k).caps = [] → (s.cv k).conc = none → Does (.lnkCapsTo k) s (failed 4)) ∧
    ((s.ln k).st ≠ 4 ∨ (s.ln k).caps ≠ [] ∨ (s.cv k).conc.isSome = true → Does (.lnkCapsTo k) s nothing) ∧
    ((s.ln k).st = 5 → (s.ln k).roundOk = false → Does (.lnkDiscTo k) s (failed 5)) ∧
    ((s.ln k).st ≠ 5 ∨ (s.ln k).roundOk = true → Does (.lnkDiscTo k) s nothing) ∧
    ((s.ln k).st = 5 → (s.ln k).gen ≠ 1 → (s.ln k).roundOk = false →
      (ovr = true → l.any (fun e => e.2.ranged) = true → Does (.lnkDiscRoundEnd k) s (fun t =>
        engines t = engines s ∧ LaneSame (t.ln k) { s.ln k with roundOk := true } ∧ rest t)) ∧
      (ovr = true → l.any (fun e => e.2.ranged) = false → Does (.lnkDiscRoundEnd k) s (failed 5)) ∧
      (ovr = false → Does (.lnkDiscRoundEnd k) s nothing)) ∧
    ((s.ln k).st = 6 → (s.ln k).gen ≠ 1 → s.p 0x8207 ≤ (s.ln k).losRun → Does (.lnkLos k) s (fun t =>
      rest t ∧ (t.ln k).st = 1 ∧ (t.ln k).cause = 6 ∧ t.lnk.downs = satAdd 32 s.lnk.downs 1)) ∧
    ((s.ln k).st = 6 → (s.ln k).gen = 1 → Does (.lnkLos k) s (fun t =>
      rest t ∧ LaneSame (t.ln k) { s.ln k with due := some (1, 6) })) ∧
    ((s.ln k).st ≠ 6 → Does (.lnkLos k) s nothing)

/-- A report of an assigned cell in a slot of the present schedule position, locked under the lane's polarity and with
its envelope, slot and instant in order, is appended to the intake with the values of its fields, is counted and
refreshes the slot's phase cache; with a fault in its content it is counted bad and missing where it was expected. A
failed lock counts an error and a miss of the slot, and so does BURST_LOCK_FAIL; a phase cache entry with as many
misses as the limit becomes invalid. A Cevel-1 report with its checksum is taken in likewise, without it is counted
bad. -/
def Obligations.ReportsAreTakenIn : Prop :=
  ∀ (s : State) (k i : Nat) (e : Entry), k < 24 → (s.ln k).st = 6 ∨ (s.ln k).st = 7 → acts s = true → s.ent i = e →
    e.seen.isSome = true →
    let rest := fun t : State => (∀ j, j ≠ k → LaneSame (t.ln j) (s.ln j)) ∧
      engines t = { engines s with obs := t.obs, cells := t.cells, cev := t.cev }
    let miss := fun t : State => t.obs = { s.obs with
      missing := if reportDue e = true then s.obs.missing ++ [i] else s.obs.missing }
    let unlocked := fun (slot : Nat) (t : State) => rest t ∧ miss t ∧ (t.ln k).errs = satAdd 32 (s.ln k).errs 1 ∧
      (t.ln k).pc = (let x := { Tab.get PcE.reset (s.ln k).pc slot with
                       miss := satAdd 3 (Tab.get PcE.reset (s.ln k).pc slot).miss 1 }
                     let pc := Tab.set PcE.reset slot x (s.ln k).pc
                     let y := Tab.get PcE.reset pc slot
                     if s.p 0x8208 ≤ y.miss then Tab.set PcE.reset slot { y with valid := false } pc else pc)
    (∀ b : Burst, b.lane = k → (s.ln k).gen ≠ 1 → s.entAt k b.slot = some (i, e) → slotNow s k b.slot = true →
      (s.cv k).seen.contains b.slot = false →
      let good := burstOn b (s.ln k) && burstShape b 0 (if (s.ln k).gen = 2 then 2 else 4) &&
        decide (bits 15 8 (bu b 0) = b.slot)
      let tm := tmOf s 16 (bits 47 32 (bu b 0)) (bits 60 48 (bu b 0))
      (b.lock = .fail → Does (.reportBurst b) s (unlocked b.slot)) ∧
      Does (.burstLockFail k b.slot) s (unlocked b.slot) ∧
      (b.lock ≠ .fail →
        let cached := fun t : State => (t.ln k).pc = Tab.set PcE.reset b.slot
          { phase := b.phase, thr := b.thr, valid := true, miss := 0 } (s.ln k).pc
        let r := fun m : Int => (Rpt.mk i m b.time (bits 23 0 (bu b 1) * 2 ^ 7) (bits 27 24 (bu b 1)) (tb (bu b 0) 24)
          (tb (bu b 0) 25) (tb (bu b 0) 26))
        (∀ m, good = true → tm = some m → Does (.reportBurst b) s (fun t => rest t ∧ cached t ∧
          t.obs = { s.obs with intake := s.obs.intake ++ [r m] })) ∧
        (good = false ∨ tm = none → Does (.reportBurst b) s (fun t => rest t ∧ cached t ∧ miss t)))) ∧
    (∀ slot, Does (.phaseCacheStale k slot) s (fun t => engines t = engines s ∧
      (∀ j, j ≠ k → LaneSame (t.ln j) (s.ln j)) ∧
      (s.p 0x8208 ≤ (Tab.get PcE.reset (s.ln k).pc slot).miss →
        (t.ln k).pc = Tab.set PcE.reset slot { Tab.get PcE.reset (s.ln k).pc slot with valid := false } (s.ln k).pc) ∧
      ((Tab.get PcE.reset (s.ln k).pc slot).miss < s.p 0x8208 → LaneSame (t.ln k) (s.ln k)))) ∧
    (∀ (b : List Byte) (time : Nat), (s.ln k).gen = 1 →
      let port := bits 4 0 (fld b 0 1)
      let h := fld b 0 1
      let r := fun m : Int => (Rpt.mk i m time (fld b 1 2 * 2 ^ 12) (b2n (tb h 5) + 2 * b2n (tb h 6)) (tb h 7)
        (tb (fld b 5 1) 0) (tb (fld b 5 1) 1))
      (b.length = 7 → crc8 (b.take 6) = fld b 6 1 → s.entAt k port = some (i, e) → ∀ m, tmOf s 3 (bits 15 13 (fld b 3 2)) (bits 12 0 (fld b 3 2)) = some m → Does (.c1Report k b time) s (fun t =>
          rest t ∧ t.obs = { s.obs with intake := s.obs.intake ++ [r m], missing := t.obs.missing } ∧
          s.obs.missing <+: t.obs.missing)) ∧
      (b.length ≠ 7 ∨ crc8 (b.take 6) ≠ fld b 6 1 → Does (.c1Report k b time) s (fun t =>
        rest t ∧ t.obs = s.obs ∧ t.cells = s.cells ∧ (t.cev.lanes = modAt s.cev.lanes k (fun c =>
          { c with bad := satAdd 32 c.bad 1 })))))

/-- A burst that answers the open ranging with the cell's identity, and a Cevel-1 answer with its checksum, end the
ranging: a delay in the lane's window counts as done, any other result as failed; outside DISCOVER the accepted
delay is the entry's DELAY and its CFG is due. A beacon in CAPS and an announcement in its frame with a new identity
enter the lane's capabilities in rising order; a beacon in TRAIN that names the row being measured marks its errors.
A concentrator's own capability is kept, its ports' are gathered. A beacon or announcement with neither lock is a
lock failure of its lane. An event that finds its lane otherwise changes nothing. -/
def Obligations.RangingAndCapabilities : Prop :=
  ∀ (s : State) (k : Nat), k < 24 →
    let rest := fun t : State => (∀ j, j ≠ k → LaneSame (t.ln j) (s.ln j)) ∧
      engines t = { engines s with params := t.params, cells := t.cells, cev := t.cev, rnk := t.rnk }
    let nothing := fun t : State => engines t = engines s ∧ ∀ j, LaneSame (t.ln j) (s.ln j)
    let failed := fun t : State => rest t ∧ (t.cv k).ranging = none ∧ (t.cv k).failed = satAdd 16 (s.cv k).failed 1
    let ranged := fun (slot d : Nat) (t : State) => rest t ∧ (t.cv k).ranging = none ∧
      (t.cv k).done = satAdd 16 (s.cv k).done 1 ∧
      ((s.ln k).st ≠ 5 → (s.ln k).gen ≠ 1 → ∀ i e, s.entAt k slot = some (i, e) →
        (t.ent i).delay = d ∧ (t.ent i).ranged = true ∧ (t.ent i).cfgDue = true)
    let gathered := fun (port : Nat) (c : Seen) (t : State) => rest t ∧ (t.ln k).st = (s.ln k).st ∧
      (t.ln k).caps = if c.id = 0 ∨ (s.ln k).caps.any (fun x => x.2.id == c.id) = true then (s.ln k).caps
        else insertBy (fun a b => decide (a.2.id < b.2.id)) (port, c) (s.ln k).caps
    (∀ rg, (s.cv k).ranging = some rg → k < s.cev.lanes.length → rangeOpen s k = true →
      (∀ b : Burst, b.lane = k → (s.ln k).gen ≠ 1 → burstOn b (s.ln k) = true →
        let mine := burstShape b 2 0 && decide ((burstSelf b).id = rg.id)
        let d := rangeDelay (s.ln k).gen b.tLock rg.dAt (s.cv k).latDev (burstSelf b).asym 0
        (mine = true → 0 ≤ d → d < 16 * (s.p (0x9000 + k) : Int) → Does (.rangingBurst b) s (ranged rg.slot d.toNat)) ∧
        (mine = false ∨ d < 0 ∨ 16 * (s.p (0x9000 + k) : Int) ≤ d → Does (.rangingBurst b) s failed)) ∧
      (∀ (b : List Byte) (tLock : Nat), (s.ln k).gen = 1 →
        let mine := decide (b.length = 7) && decide (crc8 (b.take 6) = fld b 6 1) && decide (fld b 0 1 = 0xFF)
        let d := rangeDelay 1 tLock rg.dAt (s.cv k).latDev (((s.cv k).conc.map Seen.asym).getD 0) (fld b 1 1 : Nat)
        (mine = true → 0 ≤ d → d < 16 * (s.p (0x9000 + k) : Int) → Does (.c1RangingAnswer k b tLock) s (ranged 0xFF d.toNat)) ∧
        (mine = false ∨ d < 0 ∨ 16 * (s.p (0x9000 + k) : Int) ≤ d → Does (.c1RangingAnswer k b tLock) s failed))) ∧
    (∀ b : Burst, b.lane = k → (s.ln k).gen ≠ 1 → k < s.lnk.lanes.length →
      let missed := fun t : State => engines t = engines s ∧ (∀ j, j ≠ k → LaneSame (t.ln j) (s.ln j)) ∧
        LaneSame (t.ln k) { s.ln k with
          errs := if b.lock = .fail ∧ 1 ≤ (s.ln k).st then satAdd 32 (s.ln k).errs 1 else (s.ln k).errs }
      let fit := decide (b.lock ≠ .fail) && burstShape b 1 0 && decide (bits 15 8 (bu b 0) = 0xFF)
      (fit = true → (s.ln k).st = 4 → burstOn b (s.ln k) = true → Does (.beacon b) s (gathered 0 (burstSelf b))) ∧
      (fit = true → (s.ln k).st = 2 → tb (bu b 1) 58 = true → (s.ln k).rows.head? = some (bits 61 59 (bu b 1)) →
        Does (.beacon b) s (fun t => engines t = engines s ∧ LaneSame (t.ln k) { s.ln k with dsErr := true })) ∧
      (fit = false → Does (.beacon b) s missed) ∧
      (∀ j w, roleOf s k s.frm.rims = .window j w true → burstOn b (s.ln k) = true → burstShape b 3 0 = true →
        bits 15 8 (bu b 0) = 0xFF → j = 1 → Does (.announce b) s (gathered 0 (burstSelf b))) ∧
      (burstOn b (s.ln k) = false → Does (.announce b) s missed)) ∧
    (∀ (b : List Byte) (time : Nat), (s.ln k).gen = 1 → 4 ≤ (s.ln k).st → (s.ln k).st ≤ 6 →
      let c : Seen := { id := fld b 1 6, fb := false, gen := 1, hw := fld b 7 1 % 16, asym := sext 16 (fld b 8 2) }
      (b.length = 11 → crc8 (b.take 10) = fld b 10 1 →
        (fld b 0 1 ≠ 0xFF → Does (.c1Capability k b time) s (gathered (fld b 0 1 % 32) c)) ∧
        (fld b 0 1 = 0xFF → Does (.c1Capability k b time) s (fun t => rest t ∧
          t.cev.lanes = modAt s.cev.lanes k (fun x => { x with conc := some c })))) ∧
      (b.length ≠ 11 ∨ crc8 (b.take 10) ≠ fld b 10 1 → Does (.c1Capability k b time) s nothing))

/-- FABRIC_COMPLETE of the oldest work removes it, gives SLACK_LAST and SLACK_MIN (−32768 where the next rim has come),
the durations of the stages and their maxima, counts a low slack and reports it where FRM_SLACK_WARN is not 0. The
guard of a frame not yet judged, with its work complete before the guard, judges it good and ends the run of
overruns; otherwise it counts an overrun, reports it, and a second in succession is due its reaction; a judged frame
stays. FRM_OVERRUN2 when due is reported and starts Safe Block from SAFE_STOP and from RUNNING without a
synchronised partner; with one it asks for a hand-over; in other states and in a device that does not act it only
reports. -/
def Obligations.FramesAreJudged : Prop :=
  ∀ s : State,
    let only := fun t : State => engines t = { engines s with frm := t.frm }
    (∀ (time : Nat) (stages : List Nat) (w : Work) (more : List Work), s.frm.work = w :: more →
      let slack : Int := if (match w.next with | some g => decide (g ≤ time) | none => false) = true then -32768
        else max (-32768) (min 32767 ((w.guard : Int) - time))
      let low := decide (slack < (s.p 0x1001 : Int))
      Does (.fabricComplete time stages) s (fun t => only t ∧ t.frm.work = more ∧ t.frm.slackLast = slack ∧
        t.frm.slackMin = min s.frm.slackMin slack ∧ t.frm.slackLow = satAdd 32 s.frm.slackLow (b2n low) ∧
        t.frm.stLast.length = 7 ∧ t.frm.stLast.getD 0 0 = 60 ∧
        (∀ i, 1 ≤ i → i < 7 → t.frm.stLast.getD i 0 = min 0xFFFF (stages.getD i 0)) ∧
        (∀ i, i < 7 → t.frm.stMax.getD i 0 = max (s.frm.stMax.getD i 0) (t.frm.stLast.getD i 0)) ∧
        t.frm.done = (if w.n = s.frm.count then some time else s.frm.done) ∧
        (low = true → s.p 0x1001 ≠ 0 → Reported 1 0 3 s t) ∧ (low = false ∨ s.p 0x1001 = 0 → t.flt.total = s.flt.total))) ∧
    (∀ (time : Nat) (stages : List Nat), s.frm.work = [] → Does (.fabricComplete time stages) s (fun t =>
      engines t = engines s)) ∧
    (s.frm.run = true → s.frm.rims ≠ 0 → s.frm.judged = none →
      (∀ td, s.frm.done = some td → td + 128 < s.frm.g + s.frm.len → Does .frmGuard s (fun t =>
        engines t = { engines s with frm := { s.frm with judged := some true, consec := 0 } })) ∧
      ((∀ td, s.frm.done = some td → s.frm.g + s.frm.len ≤ td + 128) → 128 ≤ s.frm.g + s.frm.len →
        Does .frmGuard s (fun t => only t ∧ Reported 1 0 1 s t ∧ t.frm.judged = some false ∧
          t.frm.overruns = satAdd 32 s.frm.overruns 1 ∧ t.frm.ovrLast = s.frm.count % 2 ^ 32 ∧
          t.frm.ovr2Due = decide (1 ≤ s.frm.consec) ∧ t.frm.consec = min 2 (s.frm.consec + 1)))) ∧
    (s.frm.run = false ∨ s.frm.rims = 0 ∨ s.frm.judged.isSome = true → Does .frmGuard s (fun t => engines t = engines s)) ∧
    (s.frm.ovr2Due = false → Does .frmOverrun2 s (fun t => engines t = engines s)) ∧
    (s.frm.ovr2Due = true →
      let told := fun t : State => Reported 1 0 2 s t ∧ t.frm = { s.frm with ovr2Due := false, ovrFault := true }
      let blocks := fun t : State => told t ∧ t.trp.sbLatch = true ∧ t.sbk.injDue.isSome = true ∧ Acted t ∧
        engines t = { engines s with frm := t.frm, trp := t.trp, sbk := t.sbk, cells := t.cells, cev := t.cev, rnk := t.rnk }
      let twin := s.pair.role = .active ∧ partnerSynced s = true
      (acts s = false ∨ (s.st ≠ .safeStop ∧ s.st ≠ .running) → Does .frmOverrun2 s (fun t => told t ∧ only t)) ∧
      (acts s = true → s.st = .safeStop → Does .frmOverrun2 s blocks) ∧
      (acts s = true → s.st = .running → ¬ twin → Does .frmOverrun2 s blocks) ∧
      (s.st = .running → twin → Does .frmOverrun2 s (fun t => told t ∧ only t ∧
        (t.pair.hoverReq.isSome = true ∨ t.pair.hover = true))))

/-- A rod whose discrepancy has lasted its time is flagged and reported, a triple whose implausibility has lasted is
latched and reported; before that nothing changes. A control slot whose error has lasted reacts by its code: 0 only
ends the wait, 1 warns, 2 holds, 3 blocks its cells, 4 and 5 ask for Safe Stop and Safe Block; each but 0 counts an
event and is reported. A calibration that completes answers DONE, keeps the accepted factors for the next rim, marks
the failed channels and writes its record. -/
def Obligations.SignalFaultsAreLatched : Prop :=
  ∀ (s : State) (r tri k : Nat),
    let nothing := fun t : State => engines t = engines s ∧ t.flt.total = s.flt.total
    (discDue s r = true → Does (.adcRodDisc r) s (fun t => Reported 2 r 3 s t ∧ engines t = { engines s with
      adc := { s.adc with rods := modAt s.adc.rods r (fun x => { x with disc := true }) } })) ∧
    (discDue s r = false → Does (.adcRodDisc r) s nothing) ∧
    (plausDue s tri = true → Does (.adcPlaus tri) s (fun t => Reported 2 tri 5 s t ∧ engines t = { engines s with
      adc := { s.adc with tris := modAt s.adc.tris tri (fun x => { x with fault := true }) } })) ∧
    (plausDue s tri = false → Does (.adcPlaus tri) s nothing) ∧
    (let sl := s.ctl.slots.getD k Slot.reset
     let code := s.p (0x4008 + 32 * k)
     (sl.due = false → Does (.ctlFeReaction k) s nothing) ∧
     (sl.due = true → code = 0 → Does (.ctlFeReaction k) s (fun t => engines t = { engines s with
       ctl := { s.ctl with slots := s.ctl.slots.set k { sl with due := false } } } ∧ t.flt.total = s.flt.total)) ∧
     (sl.due = true → code ≠ 0 → Does (.ctlFeReaction k) s (fun t =>
       min (s.flt.total + 1) (2 ^ 32 - 1) ≤ t.flt.total ∧ (code ≠ 1 → isActive t 4 k 3 = true) ∧
       engines t = { engines s with ctl := { s.ctl with
         slots := s.ctl.slots.set k { sl with
           due := false
           raised := true
           hold := sl.hold || decide (code = 2)
           block := if code = 3 then s.p (0x4009 + 32 * k) else sl.block }
         events := satAdd 32 s.ctl.events 1
         stopDue := s.ctl.stopDue || decide (code = 4)
         blockDue := s.ctl.blockDue || decide (code = 5) } }))) ∧
    (∀ (time : Nat) (sums : List CalSum) (h : CmdHdr) (op t0 convs : Nat), s.adc.cal = some (h, op, t0, convs) →
      PairOpen s h.pair → acts s = true → s.hif.held = [] →
      let ok := (sums.filter (fun c => tb convs (c.ch / 16))).filterMap (fun c => (calFact c).map (fun f => (c.ch, f)))
      let bad := (List.range 192).filter (fun ch => tb convs (ch / 16) && !(ok.any (fun x => x.1 == ch)))
      let us := (time - t0) / 1000
      Does (.adcCalComplete time sums) s (fun t =>
        Answers op h 0 (calData convs bad.length us (maskOf bad)) s t ∧ engines t = { engines s with adc := { s.adc with
          cal := none, calSpan := some (t0, time, convs), newFact := ok, calTime := us, calFail := maskOf bad } })) ∧
    (∀ time sums, s.adc.cal = none → s.hif.held = [] → Does (.adcCalComplete time sums) s nothing)

/-- A bound SUSPECT entry at RNK_SUSPECT_MAX is proposed for FAILED, at RNK_RECOVER good reports for ACTIVE; a bound
ACTIVE entry at OBS_MISSED missed reports and one at three skips for SUSPECT. Of two proposals the stronger stands,
of two alike the one that comes first in R117. The entry's other fields and every other entry and block stay, and an
entry in another state or below its limit stays whole. -/
def Obligations.CellRulesAreProposed : Prop :=
  ∀ (s : State) (k : Nat),
    let e := s.ent k
    ∀ x ∈ [(Instr.suspectTimeout k, decide (e.st = 3) && decide (s.p 0x6883 ≤ e.susp), 6, 0x0C),
        (.suspectRecover k, decide (e.st = 3) && decide (s.p 0x6882 ≤ e.good), 2, 0x0B),
        (.missedLimit k, decide (e.st = 2) && decide (s.p 0x5040 ≤ e.missed), 3, 0x09),
        (.skipLimit k, decide (e.st = 2) && decide (3 ≤ e.skips), 3, 0x08)],
      (e.bound = true → x.2.1 = true → Does x.1 s (fun t =>
        t.ent k = { e with nxt := match e.nxt with
          | some (st0, c0) => if ruleRank st0 < ruleRank x.2.2.1 ∨ (ruleRank st0 = ruleRank x.2.2.1 ∧ x.2.2.2 < c0)
              then some (x.2.2.1, x.2.2.2) else some (st0, c0)
          | none => some (x.2.2.1, x.2.2.2) } ∧
        (∀ j, j ≠ k → t.ent j = s.ent j) ∧ engines t = { engines s with cells := t.cells })) ∧
      (e.bound = false ∨ x.2.1 = false → Does x.1 s (fun t => engines t = engines s))

/-- A bound SUSPECT entry whose run of implausible reports reaches OBS_RESEED takes the run's voltage, is counted and
reported. A bound entry with enough pairs ends its block: an accepted estimate moves C_EST by its share, is counted
and marks the entry for the batch, a rejected one is counted and reported and leaves C_EST. A trend point brings the
trend of every bound entry forward, and of no other. A tally batch of a journal that takes records writes the marked
entries and marks none; otherwise nothing changes. -/
def Obligations.CellEstimatesAreKept : Prop :=
  ∀ (s : State) (k : Nat),
    let e := s.ent k
    let others := fun t : State => ∀ j, j ≠ k → t.ent j = s.ent j
    let learn := { e with sqq := 0, sqv := 0, nq := 0 }
    (e.bound = true → e.st = 3 → s.p 0x5042 ≠ 0 → s.p 0x5042 ≤ e.run → Does (.obsReseed k) s (fun t =>
      Reported 5 e.rod 2 s t ∧ t.ent k = (e.seedFrom s e.runT e.runV).noLearn ∧ others t ∧
      engines t = { engines s with cells := t.cells, obs := { s.obs with reseeds := satAdd 32 s.obs.reseeds 1 } })) ∧
    (e.bound = false ∨ e.st ≠ 3 ∨ s.p 0x5042 = 0 ∨ e.run < s.p 0x5042 → Does (.obsReseed k) s (fun t =>
      engines t = engines s)) ∧
    (e.bound = true → s.p 0x5045 ≤ e.nq →
      (∀ c, blockEst s e = some c → Does (.obsClBlock k) s (fun t =>
        t.ent k = Entry.touch { learn with
          cEst := satU 32 (e.cEst + rdiv (c - e.cEst) (2 ^ s.p 0x5046)), blkAcc := true } ∧ others t ∧
        k ∈ t.rnk.dirty ∧ engines t = { engines s with
          cells := t.cells, rnk := t.rnk, obs := { s.obs with clBlocks := satAdd 32 s.obs.clBlocks 1 } })) ∧
      (blockEst s e = none → Does (.obsClBlock k) s (fun t =>
        Reported 5 e.rod 3 s t ∧ t.ent k = learn ∧ others t ∧
        engines t = { engines s with cells := t.cells, obs := { s.obs with clRej := satAdd 32 s.obs.clRej 1 } }))) ∧
    (e.bound = false ∨ e.nq < s.p 0x5045 → Does (.obsClBlock k) s (fun t => engines t = engines s)) ∧
    (Tab.wf Entry.reset s.cells = true → Does .trendPoint s (fun t =>
      (∀ j, t.ent j = if (s.ent j).bound = true then (s.ent j).trendPoint (s.p 0x504C) else s.ent j) ∧
      engines t = { engines s with cells := t.cells })) ∧
    (jnlTakes s = true → s.rnk.dirty ≠ [] → Does .tallyBatch s (fun t =>
      engines t = { engines s with rnk := { s.rnk with dirty := [] } } ∧
      t.jnl.batchNum = (s.jnl.batchNum + 1) % 2 ^ 32)) ∧
    (jnlTakes s = false ∨ s.rnk.dirty = [] → Does .tallyBatch s (fun t => engines t = engines s ∧ t.jnl = s.jnl))

/-- In any state but OFF: DBk_CMD of an open pair moves the producer where it stays within the ring and does not move
back, DBk_RPL the consumer where it does not pass the producer; a doorbell that would is counted and ignored; one of
a closed pair changes nothing. OPEN_LO keeps its value, OPEN_HI starts an open with both halves, CLOSE closes its
pair, whose owed replies are dropped. A write elsewhere changes nothing, a read of FRM_COUNT_LO latches the high
part. Every access shows the link up. In OFF nothing changes. -/
def Obligations.DoorbellsMoveTheirIndices : Prop :=
  ∀ (s : State) (k v off : Nat),
    let pairs := fun (ps : List RPair) (t : State) => engines t = engines s ∧ t.hif.linkUp = true ∧
      t.hif = { s.hif with pairs := ps, linkUp := true, width := t.hif.width, speed := t.hif.speed }
    (s.st ≠ .off →
      (∀ p, s.hif.pairs[k]? = some p → p.open_ = true →
        (idxDist p.cmdCons v ≤ p.cmdUnits ∧ idxDist p.cmdCons p.cmdProd ≤ idxDist p.cmdCons v →
          Does (.hifDbCmd k v) s (pairs (s.hif.pairs.set k { p with cmdProd := v % 2 ^ 16 }))) ∧
        (¬ (idxDist p.cmdCons v ≤ p.cmdUnits ∧ idxDist p.cmdCons p.cmdProd ≤ idxDist p.cmdCons v) →
          Does (.hifDbCmd k v) s (pairs (s.hif.pairs.set k { p with badDb := satAdd 8 p.badDb 1 }))) ∧
        (idxDist p.rplCons v ≤ idxDist p.rplCons p.rplProd →
          Does (.hifDbRpl k v) s (pairs (s.hif.pairs.set k { p with rplCons := v % 2 ^ 16 }))) ∧
        (idxDist p.rplCons p.rplProd < idxDist p.rplCons v →
          Does (.hifDbRpl k v) s (pairs (s.hif.pairs.set k { p with badDb := satAdd 8 p.badDb 1 })))) ∧
      ((s.hif.pairs[k]?).map RPair.open_ ≠ some true →
        Does (.hifDbCmd k v) s (pairs s.hif.pairs) ∧ Does (.hifDbRpl k v) s (pairs s.hif.pairs)) ∧
      Does (.hifDbOpenLo v) s (fun t => engines t = engines s ∧ t.hif.openLo = v % 2 ^ 32 ∧
        t.hif.pairs = s.hif.pairs ∧ t.hif.opening = s.hif.opening) ∧
      Does (.hifDbOpenHi v) s (fun t => engines t = engines s ∧ t.hif.pairs = s.hif.pairs ∧
        t.hif.opening = some (v % 2 ^ 32 * 2 ^ 32 + s.hif.openLo)) ∧
      (∀ p, s.hif.pairs[v % 4]? = some p →
        Does (.hifDbClose v) s (pairs (s.hif.pairs.set (v % 4) { p with open_ := false, replies := [] }))) ∧
      Does (.barWriteDiscarded k off v) s (pairs s.hif.pairs) ∧
      Does .frmCountLoRead s (fun t => engines t = { engines s with frm := { s.frm with
        hiLatch := s.pub.frm.count / 2 ^ 32 % 2 ^ 16 + s.pub.frm.wrap % 2 ^ 16 * 2 ^ 16 } })) ∧
    (s.st = .off → ∀ c ∈ [Instr.hifDbCmd k v, .hifDbRpl k v, .hifDbOpenLo v, .hifDbOpenHi v, .hifDbClose v,
      .barWriteDiscarded k off v, .frmCountLoRead], Does c s (fun t => engines t = engines s ∧ t.hif = s.hif))

/-- A port reset counts a loss, closes every pair and drops what its rings are owed, and keeps windows and commands in
flight; a link loss only counts and shows the link down. A descriptor with a bad checksum sets OPEN_ERR 1 of its
pair, with a bad range 2, a fresh start with commands in flight 3, an unreadable one 4 of some pair; a good resume
opens with its indices at 0 and NEXT kept; before READY the open waits. REPLY_WRITE writes the oldest reply to the
next entry with its phase and raises the vector; a full ring keeps it. No block of the converter changes. -/
def Obligations.PortEventsAndRepliesAreServed : Prop :=
  ∀ s : State,
    Does .hostPortReset s (fun t => engines t = engines s ∧ t.hif.downs = satAdd 16 s.hif.downs 1 ∧
      t.hif.linkUp = false ∧ t.hif.fly = s.hif.fly ∧ t.hif.pairs.length = s.hif.pairs.length ∧
      (∀ p ∈ t.hif.pairs, p.open_ = false ∧ p.replies = []) ∧
      t.hif.pairs.map (fun p => (p.next, p.window)) = s.hif.pairs.map (fun p => (p.next, p.window))) ∧
    Does .pcieLinkDown s (fun t => engines t = engines s ∧
      t.hif = { s.hif with downs := satAdd 16 s.hif.downs 1, linkUp := false, width := 0, speed := 0 }) ∧
    (∀ (addr : Nat) (desc : Option (List Byte)), s.hif.opening = some addr → s.hif.held = [] →
      (s.st = .off ∨ s.st = .starting → Does (.sessionOpenComplete desc) s (fun t =>
        engines t = engines s ∧ t.hif = s.hif)) ∧
      (s.st ≠ .off → s.st ≠ .starting →
        let fails := fun (k err : Nat) (t : State) => engines t = engines s ∧ t.hif = { s.hif with
          opening := none
          pairs := s.hif.pairs.modify k (fun p => { p with open_ := false, replies := [], openErr := err }) }
        (desc = none → Does (.sessionOpenComplete desc) s (fun t => ∃ k, k < 4 ∧ fails k 4 t)) ∧
        (∀ b, desc = some b →
          let sound := decide (b.length = 64) && decide (crc32c (b.take 60) = fld b 60 4) && decide (fld b 32 28 = 0)
          let busy := decide (fld b 27 1 = 1) && s.hif.fly.any (fun f => f.pair == fld b 24 1)
          (sound = false → Does (.sessionOpenComplete desc) s (fails (fld b 24 1) 1)) ∧
          (sound = true → descOk addr b = false → Does (.sessionOpenComplete desc) s (fails (fld b 24 1) 2)) ∧
          (sound = true → descOk addr b = true → busy = true → Does (.sessionOpenComplete desc) s (fails (fld b 24 1) 3)) ∧
          (sound = true → descOk addr b = true → fld b 27 1 = 0 → Does (.sessionOpenComplete desc) s (fun t =>
            engines t = engines s ∧ t.hif = { s.hif with
              opening := none
              openReq := none
              pairs := s.hif.pairs.modify (fld b 24 1) (fun p => { p with
                open_ := true, gen := fld b 25 1, vector := fld b 26 1, openErr := 0, cmdBase := fld b 0 8,
                rplBase := fld b 8 8, cmdUnits := fld b 16 4, rplEnts := fld b 20 4, cmdProd := 0, cmdCons := 0,
                rplProd := 0, rplCons := 0, replies := [] }) }))))) ∧
    (∀ (k : Nat) (p : RPair) (r : Reply) (more : List Reply), s.hif.pairs[k]? = some p → k < 4 → p.open_ = true →
      p.replies = r :: more →
      let phase := decide (p.rplProd / p.rplEnts % 2 = 0)
      (idxDist p.rplCons p.rplProd < p.rplEnts → Does (.replyWrite k) s (fun t => engines t = engines s ∧
        t.hif = { s.hif with pairs := s.hif.pairs.set k { p with replies := more, rplProd := (p.rplProd + 1) % 2 ^ 16 } } ∧
        t.out = [.host (p.rplBase + 64 * (p.rplProd % p.rplEnts)) (replyBytes phase r), .msi p.vector])) ∧
      (p.rplEnts ≤ idxDist p.rplCons p.rplProd → Does (.replyWrite k) s (fun t => engines t = engines s ∧
        t.hif = s.hif ∧ t.out = [])))

/-- The packet of the pair whose turn it is: a bad LEN answers 0x0204 and skips what the ring holds, a bad CRC 0x0401; a
SEQ outside the window 0x0403 with NEXT, one in it without its record or with another CRC 0x0402, each counted a
refusal; a duplicate with the same CRC repeats its final reply marked as such. The next SEQ advances NEXT, enters
the window and waits for its MIR_ACK with a synchronised partner, for its COMMAND record with a healthy journal, and
without either is refused 0x0404 where volatile acceptance is off. MIRROR_TIMEOUT of a command that waits for its
MIR_ACK starts its COMMAND record instead. -/
def Obligations.PacketsAreTakenInOrder : Prop :=
  ∀ (s : State) (k time : Nat) (b : List Byte) (p : RPair), s.hif.pairs[k]? = some p → readsRings s = true →
    nextPair s = some k → s.hif.held = [] → acts s = true →
    let n := pktLen p.gen b
    let q := b.take n
    let h : CmdHdr := { pair := k, seq := fld b 0 4, tag := pktTag p.gen b, force := false, rsvd := false, time := time }
    let op := if p.gen = 1 then 0x10000 + pktOp b else pktOp b
    let fits := lenOk p.gen n && decide (n ≤ 64 * idxDist p.cmdCons p.cmdProd) && decide (n ≤ b.length)
    let cons := (p.cmdCons + cdiv n 64) % 2 ^ 16
    let refused := fun (st : Nat) (data : List Byte) (c : Nat) (t : State) => Answers op h st data s t ∧
      engines t = engines s ∧ (t.hif.pairs[k]?).map (fun x => (x.cmdCons, x.refs, x.next, x.window)) =
        some (c, satAdd 24 p.refs 1, p.next, p.window)
    let run := fun P : State → Prop => Does (.packetIntake k b time) s P
    (fits = false → run (refused 0x0204 [] p.cmdProd)) ∧
    (fits = true → pktSum p.gen q ≠ pktCrc p.gen q → run (refused 0x0401 [] cons)) ∧
    (fits = true → pktSum p.gen q = pktCrc p.gen q → isSession op = false →
      (h.seq ≠ p.next → inWindow p.next h.seq = false → run (refused 0x0403 (leBytes 4 p.next) cons)) ∧
      (h.seq ≠ p.next → inWindow p.next h.seq = true →
        (p.window.find? (fun w => w.seq == h.seq) = none → run (refused 0x0402 [] cons)) ∧
        (∀ w, p.window.find? (fun w => w.seq == h.seq) = some w →
          (w.crc ≠ pktCrc p.gen q → run (refused 0x0402 [] cons)) ∧
          (∀ r, w.crc = pktCrc p.gen q → w.reply = some r → r.pair = k → run (fun t =>
            repliesOf t k = repliesOf s k ++ [{ r with dup := true }] ∧ engines t = engines s ∧
            (t.hif.pairs[k]?).map (fun x => (x.dups, x.refs, x.next)) = some (satAdd 32 p.dups 1, p.refs, p.next))))) ∧
      (h.seq = p.next →
        let f : Fly := { pair := k, gen := p.gen, seq := h.seq, crc := pktCrc p.gen q, opcode := pktOp q, tag := h.tag
                         packet := q, basis := 0, mirror := false, jseq := 0, since := time, exec := false, old := false }
        let mine := fun (g : Fly → Fly) => (s.hif.fly ++ [f]).map (fun x => if x.pair = k ∧ x.seq = h.seq then g x else x)
        let waits := fun (g : Fly → Fly) (t : State) => t.hif.fly = mine g ∧ engines t = engines s ∧
          repliesOf t k = repliesOf s k ∧ (t.hif.pairs[k]?).map (fun x => (x.cmdCons, x.next, x.window)) =
            some (cons, (p.next + 1) % 2 ^ 32, (RPair.take h.seq f.crc 0 p).window)
        (partnerSynced s = true → run (waits (fun x => { x with mirror := true }))) ∧
        (partnerSynced s = false → jnlHealthy s.toDev = true → run (waits (fun x =>
          { x with mirror := false, jseq := s.jnl.next }))) ∧
        (partnerSynced s = false → jnlHealthy s.toDev = false → s.p 0 ≠ 1 → run (fun t =>
          Answers (if p.gen = 1 then 0x10000 + pktOp q else pktOp q) h 0x0404 [] s t ∧ engines t = engines s)))) ∧
    (∀ (seq : Nat) (f : Fly), s.hif.fly.find? (fun f => f.pair == k && f.seq == seq && f.mirror && f.basis == 0) = some f →
      jnlHealthy s.toDev = true → s.hif.openReq = none → Does (.mirrorTimeout k seq) s (fun t =>
        engines t = engines s ∧ repliesOf t k = repliesOf s k ∧
        t.hif.fly = s.hif.fly.map (fun x => if x.pair = f.pair ∧ x.seq = f.seq then
          { x with mirror := false, jseq := s.jnl.next } else x)))

/-- In a paired device with a lock on the link that carries it: a message that fails its checks is only counted, one
whose number was seen is dropped. A new HB gives the partner's role, state, synchronisation, table CRC and trip
count, the offsets and GRID_OK, and ends the silence; CELL, LOOP and OBS of the frame in progress are kept by a
follower for its rim; HELLO gives presence, the delays and whether level and silicon fit; IMAGE adds to what a
joining device has; HOVER_ACK of the announced rim is noted. Unheard, nothing changes. No block of the converter
changes, but that the trip count of a follower follows its active partner. -/
def Obligations.PartnerMessagesAreTakenIn : Prop :=
  ∀ (s : State) (p : PHdr) (m : HbMsg) (cells : List CellRec) (loops : List LoopRec) (obs : List ObsRec)
    (im : ImageMsg) (he : HelloMsg) (fn : Nat), s.hif.held = [] →
    let heard := paired s = true ∧ s.st ≠ .off ∧ s.pair.links.getD p.link false = true
    let rx := (p.mseq :: s.pair.mseqRx).take 64
    let all := [Instr.hb p m, .cell p cells, .loop p loops, .obs p obs, .image p im, .hello p he, .hoverAck p fn]
    let pair := fun (q : Pair) (t : State) => engines t = engines s ∧ t.hif = s.hif ∧ t.pair = q
    let kept := { s.pair with mseqRx := rx }
    (¬ heard → ∀ c ∈ all, Does c s (pair s.pair)) ∧
    (heard → p.good = false → ∀ c ∈ all, Does c s (pair { s.pair with bad := satAdd 16 s.pair.bad 1 })) ∧
    (heard → p.good = true → s.pair.mseqRx.contains p.mseq = true → ∀ c ∈ all, Does c s (pair s.pair)) ∧
    (heard → p.good = true → s.pair.mseqRx.contains p.mseq = false →
      (m.sys ≠ b2n s.pair.sys → Does (.hb p m) s (fun t =>
        engines t = { engines s with trp := if follows s = true ∧ m.role = 1 then { s.trp with seq := m.tripSeq % 256 } else s.trp } ∧
        t.pair.ptnrRole = m.role % 8 ∧ t.pair.ptnrDev = m.devState % 16 ∧ t.pair.ptnrSync = m.synced ∧
        t.pair.ptnrCrc = some m.tableCrc ∧ t.pair.ptnrTrip = m.tripSeq ∧ t.pair.hbRun = 0 ∧ t.pair.role = s.pair.role ∧
        t.pair.rxOwn = satS 16 ((p.time : Int) - 16 * s.frm.g) ∧ t.pair.rxPtnr = m.rxOfs ∧
        (t.pair.gridOk = true ↔ follows s = true ∧ t.pair.offset.natAbs ≤ 64))) ∧
      (follows s = true → inFrame p s = true →
        Does (.cell p cells) s (pair { kept with inCell := s.pair.inCell ++ cells }) ∧
        Does (.loop p loops) s (pair { kept with
          inLoop := s.pair.inLoop ++ loops
          rotation := s.pair.rotation + loops.length
          progress := if s.pair.step = 6 then s.pair.progress + loops.length else s.pair.progress }) ∧
        Does (.obs p obs) s (pair { kept with
          inObs := s.pair.inObs ++ obs
          rotation := s.pair.rotation + obs.length
          progress := if s.pair.step = 6 then s.pair.progress + obs.length else s.pair.progress })) ∧
      (follows s = false ∨ inFrame p s = false → ∀ c ∈ [Instr.cell p cells, .loop p loops, .obs p obs], Does c s (pair kept)) ∧
      (s.pair.role = .joining → Does (.image p im) s (fun t => engines t = engines s ∧ t.hif = s.hif ∧
        t.pair = { kept with
          image := s.pair.image ++ [im]
          imageDone := s.pair.imageDone || im.last
          progress := t.pair.progress } ∧ (s.pair.step ≠ 3 → t.pair.progress = s.pair.progress))) ∧
      (s.pair.role ≠ .joining → Does (.image p im) s (pair kept)) ∧
      (he.sys ≠ b2n s.pair.sys → s.pair.role ≠ .joining ∨ helloFits he s = true → Does (.hello p he) s (pair { kept with
        heardHello := true
        helloBad := !helloFits he s
        imageSent := false
        ptnrPres := true
        sameSys := false
        lanes := s.pair.lanes.mapIdx (fun k x => { x with ptnrLat := he.latDev.getD k 0 }) })) ∧
      (he.sys ≠ b2n s.pair.sys → s.pair.role = .joining → helloFits he s = false → Does (.hello p he) s (fun t =>
        engines t = engines s ∧ t.hif = s.hif ∧ t.pair.role = .detached ∧ Reported 0x0B 0 5 s t)) ∧
      (he.sys = b2n s.pair.sys → s.pair.sameSys = false → Does (.hello p he) s (fun t =>
        engines t = engines s ∧ t.hif = s.hif ∧ t.pair.role = .detached ∧ Reported 0x0B 0 4 s t)) ∧
      (s.pair.role = .active → s.pair.hover = true → fn = s.pair.hoverFn → s.frm.count = fn →
        Does (.hoverAck p fn) s (pair { kept with hoverAck := true })) ∧
      (s.pair.role ≠ .active ∨ s.pair.hover = false ∨ fn ≠ s.pair.hoverFn ∨ s.frm.count ≠ fn →
        Does (.hoverAck p fn) s (pair kept)))

/-- A new MIRROR in a follower enters the command, accepted by its mirror, into flight and window, and sends MIR_ACK; an
empty one starts its pair anew at SEQ with an empty window; one already in the window is only acknowledged; a device
that does not follow ignores it. EXEC in a follower gives the command its number and sends EXEC_ACK. MIR_ACK in a
device that executes accepts the command that waits for it, with basis MIRRORED and its ACCEPTED reply; EXEC_ACK
marks the order of that number as acknowledged. No block of the converter changes. -/
def Obligations.MirroredCommandsAreKeptInStep : Prop :=
  ∀ (s : State) (p : PHdr) (pair gen seq num time : Nat) (b : List Byte), s.hif.held = [] →
    paired s = true → s.st ≠ .off → s.pair.links.getD p.link false = true → p.good = true →
    s.pair.mseqRx.contains p.mseq = false →
    let rx := (p.mseq :: s.pair.mseqRx).take 64
    let sent := fun (msg : PMsg) (t : State) => s.pair.dark = false → s.pwr.dark = false →
      t.out = [.partner s.pair.mseqTx s.frm.count msg]
    (follows s = true →
      (b = [] → pair < 4 → Does (.mirror p pair gen seq b) s (fun t => engines t = engines s ∧ sent (.mirAck pair seq) t ∧
        t.hif = { s.hif with pairs := s.hif.pairs.modify pair (fun q => { q with gen := gen, next := seq, window := [] }) })) ∧
      (b ≠ [] → (winOf s pair seq).isSome = true → Does (.mirror p pair gen seq b) s (fun t =>
        engines t = engines s ∧ sent (.mirAck pair seq) t ∧ t.hif = s.hif)) ∧
      (b ≠ [] → winOf s pair seq = none → formStatus gen (pktOp b) b = none → Does (.mirror p pair gen seq b) s (fun t =>
        engines t = engines s ∧ sent (.mirAck pair seq) t ∧ t.hif = { s.hif with
          fly := s.hif.fly ++ [{ pair := pair, gen := gen, seq := seq, crc := pktCrc gen b, opcode := pktOp b,
                                 tag := pktTag gen b, packet := b, basis := 1, mirror := false, jseq := 0, since := t.now,
                                 exec := false, old := false }]
          pairs := s.hif.pairs.modify pair (RPair.take seq (pktCrc gen b) 1) })) ∧
      Does (.partnerExec p pair seq num) s (fun t => engines t = engines s ∧ sent (.execAck num) t ∧ t.hif = s.hif ∧
        t.pair.execNo = num ∧ t.pair.execs = s.pair.execs ++
          (if (flyOf s pair seq).isSome then [(num, pair, seq, true)] else [])) ∧
      (∀ c ∈ [Instr.mirAck p pair seq time, .execAck p num], acts s = false → Does c s (fun t => engines t = engines s ∧
        t.hif = s.hif ∧ t.pair = { s.pair with mseqRx := rx }))) ∧
    (acts s = true → follows s = false →
      (∀ c ∈ [Instr.mirror p pair gen seq b, .partnerExec p pair seq num], Does c s (fun t => engines t = engines s ∧
        t.hif = s.hif ∧ t.pair = { s.pair with mseqRx := rx })) ∧
      Does (.execAck p num) s (fun t => engines t = engines s ∧ t.hif = s.hif ∧ t.pair = { s.pair with
        mseqRx := rx
        execs := s.pair.execs.map (fun e => if e.1 = num then (e.1, e.2.1, e.2.2.1, true) else e) }) ∧
      (∀ f, s.hif.fly.find? (fun f => f.pair == pair && f.seq == seq && f.mirror && f.basis == 0) = some f →
        formStatus f.gen f.opcode f.packet = none → s.hif.openReq = none → PairOpen s pair →
        Does (.mirAck p pair seq time) s (fun t => engines t = engines s ∧
          repliesOf t pair = repliesOf s pair ++ [acceptedReply f.ctx 1 false] ∧
          t.hif.fly = s.hif.fly.map (fun x =>
            if x.pair = pair ∧ x.seq = seq then { x with basis := 1, mirror := false } else x))))

/-- A lock on a link not yet locked sets it and the partner's presence and sends HELLO; its loss clears it, counts, and
reports PAIR_LINK while the other remains, else PAIR_LINKS with HELLO forgotten. A removed board reports
PAIR_REMOVED: an active device with a synchronised partner asks for a hand-over, a standby or joining one leaves the
pair. A partner's removal clears its presence. A standby that loses a monitored lane reports it while a link
remains. A frame start of the partner on a monitor input ends the dark run and marks its lane; a follower takes the
plan in as observed; frames of the own name or in an unpaired device do nothing. -/
def Obligations.LinksAndPresenceActOnThePair : Prop :=
  ∀ (s : State) (l k fn sys time : Nat), s.hif.held = [] →
    let pair := fun (q : Pair) (t : State) => engines t = engines s ∧ t.hif = s.hif ∧ t.pair = q
    let known := fun (q : Pair) (t : State) => engines t = engines s ∧ t.hif = s.hif ∧ t.pair = { q with mseqTx := t.pair.mseqTx }
    (paired s = true → s.st ≠ .off → l < 2 → s.pair.links.getD l false = false →
      Does (.partnerLinkLock l) s (known { s.pair with links := s.pair.links.set l true, ptnrPres := true }) ∧
      Does (.partnerLinkDown l) s (pair s.pair)) ∧
    (s.pair.links.getD l false = true →
      Does (.partnerLinkLock l) s (pair s.pair) ∧
      ((s.pair.links.set l false).any id = true → Does (.partnerLinkDown l) s (fun t => Reported 0x0B l 8 s t ∧
        pair { s.pair with links := s.pair.links.set l false, downs := satAdd 16 s.pair.downs 1 } t)) ∧
      ((s.pair.links.set l false).any id = false → Does (.partnerLinkDown l) s (fun t => Reported 0x0B 0 9 s t ∧
        pair { s.pair with links := s.pair.links.set l false, downs := satAdd 16 s.pair.downs 1, heardHello := false } t))) ∧
    (k < 24 → s.pair.role = .standby → (s.ln k).st = 7 → s.pair.links.any id = true →
      Does (.monitorLost k) s (fun t => Reported 0x0B k 0xA s t ∧ pair s.pair t)) ∧
    (s.pair.role ≠ .standby → Does (.monitorLost k) s (pair s.pair)) ∧
    Does .ptnrPresHigh s (pair { s.pair with ptnrPres := false, lostRaised := false }) ∧
    (s.pair.brdPres = false → Does .brdPresHigh s (pair s.pair)) ∧
    (s.pair.brdPres = true →
      (paired s = false ∨ s.st = .off → Does .brdPresHigh s (pair { s.pair with brdPres := false })) ∧
      (paired s = true → s.st ≠ .off →
        (s.pair.role = .active → partnerSynced s = true → s.pair.hoverReq = none → s.pair.hover = false →
          Does .brdPresHigh s (fun t => Reported 0x0B 0 0xC s t ∧
            pair { s.pair with brdPres := false, hoverReq := some .removal } t)) ∧
        (s.pair.role = .active → partnerSynced s = false → Does .brdPresHigh s (fun t => Reported 0x0B 0 0xC s t ∧
          Acted t ∧ t.trp.sbLatch = true ∧ t.pair = { s.pair with brdPres := false, offAt := some (s.frm.rims + 2) })) ∧
        (s.pair.role = .standby ∨ s.pair.role = .joining → Does .brdPresHigh s (fun t => Reported 0x0B 0 0xC s t ∧
          engines t = engines s ∧ t.hif = s.hif ∧ t.pair.role = .detached)))) ∧
    (∀ f : Option MxFrame, paired s = false ∨ s.st = .off ∨ sys = b2n s.pair.sys →
      Does (.mxFsDetect k fn sys time f) s (pair s.pair)) ∧
    (∀ f : MxFrame, paired s = true → s.st ≠ .off → sys ≠ b2n s.pair.sys → k < 24 → s.pair.role ≠ .active →
      ((s.ln k).st ≠ 7 ∨ follows s = false → Does (.mxFsDetect k fn sys time (some f)) s (fun t => engines t = engines s ∧
        t.pair.darkRun = 0 ∧ t.pair.role = s.pair.role ∧ (k < s.pair.lanes.length →
          (t.pair.lanes.getD k PLane.reset).mxSeen = s.frm.rims))) ∧
      ((s.ln k).st = 7 → fn = lastFrame s.toDev → follows s = true → f.mgt = [] → f.plan = true →
        Does (.mxFsDetect k fn sys time (some f)) s (fun t => t.pair.darkRun = 0 ∧ t.pair.role = s.pair.role ∧
          engines t = { engines s with
            trp := { s.trp with seq := f.tripSeq % 256 }
            rnk := t.rnk
            cells := mapCells (fun (_ : Nat) (e : Entry) => if e.bound && e.lane == k then
              Entry.order (s.frm.g + f.tx) (horizon s) (hardFrame s e.rod) (seenOrder f e.slot) e else e) s.cells })))

/-- The heartbeat of the last rim is judged once: present it clears MISSED, absent it counts a loss, and the second
absence makes a synchronised standby active with a takeover counted and reported. An announced hand-over goes at its
rim if acknowledged; otherwise it is void, and a PAIR_SWITCH is refused 0x0803. A standby whose acknowledged rim
brought no frame on a monitored lane becomes active with a hand-over counted. Frames of the partner seen by an
active device for two frames are a split: detached, Safe Block injected, reported. A starting device is detached,
joins, or is active, by what it heard. Joining takes its steps in order, restarts when slow or out of step, and ends
in a synchronised standby. -/
def Obligations.RolesFollowHeartbeatsAndHandOvers : Prop :=
  ∀ s : State, s.hif.held = [] →
    let pair := fun (q : Pair) (t : State) => engines t = engines s ∧ t.hif = s.hif ∧ t.pair = q
    let here := s.pair.hbLink || s.pair.hbMx
    let judged := { s.pair with
      hbJudged := true
      linkLast := s.pair.hbLink
      mxLast := s.pair.hbMx
      missed := if here then 0 else min 2 (s.pair.missed + 1)
      losses := if here then s.pair.losses else satAdd 8 s.pair.losses 1
      lostRaised := s.pair.lostRaised && !here }
    (paired s = true → s.pair.hbJudged = false → s.pair.role = .standby →
      (here = true ∨ s.pair.missed = 0 → Does .heartbeatJudge s (pair judged)) ∧
      (here = false → 0 < s.pair.missed → s.pair.synced = true → Does .heartbeatJudge s (fun t => engines t = engines s ∧
        t.hif = s.hif ∧ t.pair.role = .active ∧ t.pair.takeovers = satAdd 32 s.pair.takeovers 1 ∧ t.pair.missed = 0 ∧
        (∀ j, (s.ln j).st ≠ 7 → LaneSame (t.ln j) (s.ln j)) ∧
        (∀ j, (s.ln j).st = 7 → (t.ln j).st = 6) ∧ Reported 0x0B 0 1 s t))) ∧
    (s.pair.hbJudged = true ∨ s.pair.role = .active ∨ paired s = false → Does .heartbeatJudge s (pair s.pair)) ∧
    (s.pair.role = .active → s.pair.hover = true → s.pair.hoverGo = false → s.frm.count = s.pair.hoverFn →
      (s.pair.hoverAck = true → Does .handoverJudge s (pair { s.pair with hoverGo := true })) ∧
      (∀ h, s.pair.hoverAck = false → s.pair.hoverWhy = some (.switch h) → PairOpen s h.pair →
        Does .handoverJudge s (fun t => engines t = engines s ∧ t.pair.hover = false ∧ t.pair.hoverWhy = none ∧
          t.pair.role = .active ∧ Reported 0x0B 0 0xD s t ∧ Answers 0x0901 h 0x0803 [] s t))) ∧
    (s.pair.role = .standby → s.pair.hoverAck = true → s.pair.hoverFn = lastFrame s.toDev →
      (∀ k, k < 24 → (s.ln k).st = 7 → (s.pair.lanes.getD k PLane.reset).mxSeen ≠ s.frm.rims) →
      Does .handoverMonitorCheck s (fun t => engines t = engines s ∧ t.pair.role = .active ∧
        t.pair.handovers = satAdd 32 s.pair.handovers 1 ∧ Reported 0x0B 0 2 s t)) ∧
    (paired s = true → s.pair.role = .active → 2 ≤ s.pair.splitRun → Does .pairSplit s (fun t =>
      t.pair.role = .detached ∧ Acted t ∧ t.trp.sbLatch = true ∧ Reported 0x0B 0 0xB s t ∧ t.st = s.st ∧ t.frm = s.frm)) ∧
    (s.pair.role ≠ .active ∨ s.pair.splitRun = 0 → Does .pairSplit s (pair s.pair)) ∧
    (s.st = .starting → paired s = true → s.pwr.roleDone = false → s.jnl.restored = true →
      Does .pairWaitEnd s (fun t => engines t = { engines s with pwr := { s.pwr with roleDone := true } } ∧
        (t.pair.role, t.pair.step) =
          if s.pair.sameSys then (Role.detached, if s.pair.role = .detached then s.pair.step else 0)
          else if s.pair.heardActive || (s.pair.heardHello && s.pair.sys) then (Role.joining, 1)
          else (Role.active, 0))) ∧
    (s.pair.role = .joining →
      (s.pair.step = 1 → s.pair.links.any id = true → s.pair.heardHello = true → s.pair.helloBad = false →
        Does .joinStepDone s (fun t => t.pair.step = 2 ∧ t.pll.syncDone = false ∧ t.cells = s.cells)) ∧
      (s.pair.step = 2 → s.pll.syncDone = true → s.pair.gridOk = true → Does .joinStepDone s (pair { s.pair with step := 3, progress := 0 })) ∧
      (s.pair.step = 3 → s.pair.imageDone = true → Does .joinStepDone s (fun t => t.pair.step = 4)) ∧
      (s.pair.step = 3 → s.pair.imageDone = false → Does .joinStepDone s (pair s.pair)) ∧
      (s.pair.step = 4 → s.jnl.compact = false → Does .joinStepDone s (pair { s.pair with step := 5, progress := 0 })) ∧
      (s.pair.step = 5 → allObserve s = true → Does .joinStepDone s (pair { s.pair with step := 6, progress := 0, rotation := 0 })) ∧
      (s.pair.step = 6 → (slotsOn s).length + s.boundL.length ≤ s.pair.rotation → s.pair.lanes.any (fun x => x.skew) = false →
        Does .joinStepDone s (fun t => engines t = engines s ∧ t.pair.role = .standby ∧ t.pair.synced = true)) ∧
      Does .pairJoinSlow s (fun t => engines t = engines s ∧ t.pair.role = .joining ∧ t.pair.step = 1 ∧ t.pair.image = [] ∧
        Reported 0x0B 0 6 s t)) ∧
    (s.pair.role ≠ .joining → Does .joinStepDone s (pair s.pair) ∧ Does .pairJoinSlow s (pair s.pair)) ∧
    (s.pair.role = .standby → s.p 0xB003 < s.pair.hbRun ∨ 1024 ≤ s.pair.gridRun ∨ s.pair.lanes.any (fun x => x.skew) = true →
      Does .syncedLoss s (fun t => engines t = engines s ∧ t.pair.role = .joining ∧ t.pair.step = 1 ∧ t.pair.synced = false)) ∧
    (s.pair.role ≠ .standby → Does .syncedLoss s (pair s.pair)) ∧
    (s.pair.crcRun = 16 → Does .pairTableDiff s (fun t => pair { s.pair with crcRun := 17 } t ∧ Reported 0x0B 0 7 s t)) ∧
    (s.pair.crcRun ≠ 16 → Does .pairTableDiff s (pair s.pair))

/-- A link change and the delay timer act on their ports only; a Pdelay_Req is answered with its stamp, a Pdelay_Resp
gives a delay, or a report where it exceeds the limit. An Announce on a port that is up sets a better master of each
domain of that number; its timeout takes the master away. A two-step Sync waits for its Follow_Up, a one-step Sync
or the matching Follow_Up gives the domain its offset and validity. Loss of sync invalidates a domain, and holdover
begins with the last. Eight agreeing large offsets make a step due where the other domain agrees or steps are
allowed; else the other domain is selected or the step held and reported. -/
def Obligations.NetworkTimeFollowsItsMasters : Prop :=
  ∀ (s : State) (port domain : Nat),
    let only := fun t : State => engines t = { engines s with time := t.time }
    let same := fun t : State => engines t = engines s
    (∀ up : Bool, Does (.ethLinkChange port up) s (fun t => engines t = { engines s with time := { s.time with
      ports := modAt s.time.ports port (fun p => { p with up := up, pd := if up then p.pd else [] }) } })) ∧
    Does .pdelayReqTimer s (fun t => engines t = { engines s with time := { s.time with
      pdSeq := (s.time.pdSeq + 1) % 2 ^ 16 } } ∧
      t.out = ([0, 1].filter (fun p => (s.port p).up)).map (fun p => .ptp p 0 s.time.pdSeq 0)) ∧
    (∀ seqId raw : Nat,
      (port < 2 → (s.port port).up = true → Does (.ptpPdelayReq port seqId raw) s (fun t => same t ∧
        t.out = [.ptp port 1 seqId (ptpT s.toDev (ingress s port raw).toNat)])) ∧
      ((s.port port).up = false → Does (.ptpPdelayReq port seqId raw) s (fun t => same t ∧ t.out = []))) ∧
    (∀ m : PdelayMsg, m.port < 2 →
      let d := openDiv 8 (ingress s m.port m.t4G16 - egress s m.port m.t1G16 - (m.t3 - m.t2)) 2
      ((s.port m.port).up = true → d ≤ s.pI 0xC009 → Does (.ptpPdelayResp m) s (fun t =>
        engines t = { engines s with time := { s.time with
          ports := modAt s.time.ports m.port (fun p => { p with pd := (d :: p.pd).take 8 }) } })) ∧
      ((s.port m.port).up = true → s.pI 0xC009 < d → Does (.ptpPdelayResp m) s (fun t => only t ∧
        t.time.ports = s.time.ports ∧ Reported 0x0C m.port 5 s t)) ∧
      ((s.port m.port).up = false → Does (.ptpPdelayResp m) s same)) ∧
    (∀ ds : MasterDs,
      ((s.port port).up = false → Does (.ptpAnnounce port domain ds) s same) ∧
      ((s.port port).up = true → Does (.ptpAnnounce port domain ds) s (fun t => only t ∧
        ∀ d ∈ domsOf s domain, d < s.time.doms.length → port < (s.dom d).master.length →
          ((s.dom d).master.getD port none = none ∨
            (∃ m, (s.dom d).master.getD port none = some m ∧ (m.identity = ds.identity ∨ betterDs ds m = true)) →
            (t.dom d).master = (s.dom d).master.set port (some ds)) ∧
          (∀ m, (s.dom d).master.getD port none = some m → m.identity ≠ ds.identity → betterDs ds m = false →
            (t.dom d).master = (s.dom d).master)))) ∧
    Does (.ptpAnnounceTimeout port domain) s (fun t => only t ∧ ∀ d ∈ domsOf s domain, d < s.time.doms.length →
      (t.dom d).master = (s.dom d).master.set port none) ∧
    (∀ d, d < 2 → s.time.doms.length = 2 → Does (.ptpSyncLoss d) s (fun t => only t ∧ (t.dom d).valid = false ∧
      t.dom (1 - d) = s.dom (1 - d) ∧ ((s.dom d).valid = true → (s.dom (1 - d)).valid = false →
        t.time.holdover = true ∧ t.time.slew = 0 ∧ Reported 0x0C s.time.inUse 4 s t))) ∧
    (∀ (m : SyncMsg) (d : Nat), domsOf s m.domain = [d] → d < s.time.doms.length → (s.dom d).port = m.port →
      (∀ y, (s.port m.port).up = true → -4 ≤ m.logInt → m.logInt ≤ 0 → (s.dom d).master.getD m.port none = some y →
        (m.twoStep = true → Does (.ptpSync m) s (fun t => only t ∧
          t.dom d = { s.dom d with pend := (s.dom d).pend.set m.port (some m) })) ∧
        (∀ pd, m.twoStep = false → meanPd s m.port = some pd → Does (.ptpSync m) s (fun t => only t ∧
          (t.dom d).theta = some (m.origin + m.corr + pd - (ingress s m.port m.rawG16 + s.time.delta)) ∧
          (t.dom d).valid = true))) ∧
      (∀ y pd, (s.dom d).pend.getD m.port none = some y → y.seqId = m.seqId → meanPd s m.port = some pd →
        Does (.ptpFollowUp m) s (fun t => only t ∧
          (t.dom d).theta = some (m.origin + y.corr + m.corr + pd - (ingress s m.port y.rawG16 + s.time.delta)) ∧
          (t.dom d).valid = true ∧ (t.dom d).pend = (s.dom d).pend.set m.port none))) ∧
    (let u := s.time.inUse
      let x := s.dom u
      let o := s.dom (1 - u)
      let mid := median (x.offs.take 8)
      let ready := 8 ≤ x.offs.length ∧ 8 ≤ x.ovr ∧ (∀ y ∈ x.offs.take 8, ((y - mid).natAbs : Int) ≤ s.pI 0xC003) ∧
        s.time.stepDue = none ∧ s.time.selDue = none
      let near := ∃ y, o.theta = some y ∧ ((y - mid).natAbs : Int) ≤ s.pI 0xC003
      (ready → (o.valid = true ∧ near) ∨ (o.valid = false ∧ s.p 0xC004 = 1) → Does .timeStep s (fun t =>
        engines t = { engines s with time := { s.time with stepDue := some mid } })) ∧
      (ready → o.valid = true → ¬ near → Does .timeStep s (fun t =>
        engines t = { engines s with time := { s.time with selDue := some (1 - u) } })) ∧
      (ready → o.valid = false → s.p 0xC004 ≠ 1 → Does .timeStep s (fun t =>
        engines t = { engines s with time := { s.time with held := some mid, slew := 0 } } ∧
        (s.time.held = none → Reported 0x0C u 2 s t))) ∧
      (¬ ready → Does .timeStep s same))

/-- An armed output fires: one pulse counted, the rising edge and its time kept, its fall due a width later; a single
one is disarmed and shown as fired, a periodic one moves its target by a period; a late one is counted and reported.
The end of a pulse sets the output idle. An output that is not armed stays. PLL_LOCK in a powered, unlocked PLL sets
lock, band, lock time and outputs and counts. SYNC_IN_TIMEOUT while armed disarms it and is reported. PLL_UNLOCK
clears lock and outputs, counts, stops the frame engine, asserts line 0 with its report, and the device goes dark. -/
def Obligations.OutputsPulseAndThePllLocks : Prop :=
  ∀ (s : State) (i band us : Nat),
    let same := fun t : State => engines t = engines s
    (∀ o, s.tout[i]? = some o → i < 8 → o.armed = true → o.due = none →
      let r := toutRise s o
      let late := r.2 || o.lateNext
      Does (.toutFire i) s (fun t =>
        engines t = { engines s with tout := s.tout.set i { o with
          armed := decide (o.mode = 2)
          mode := if o.mode = 2 then 2 else 0
          target := if o.mode ≠ 2 then o.target else if o.ptp then (o.target + o.period) % 2 ^ 32 else o.target + o.period
          fired := decide (o.mode ≠ 2)
          late := late
          pulses := satAdd 16 o.pulses 1
          lates := satAdd 8 o.lates (if late then 1 else 0)
          last := scaleTime s o.ptp r.1 % 2 ^ 32
          ends := some (r.1 + o.width)
          idleAt := o.ends.getD o.idleAt
          lateNext := false
          first := 0 } } ∧ (late = true → Reported 0x0C i 7 s t))) ∧
    ((∀ o, s.tout[i]? = some o → o.armed = false) → Does (.toutFire i) s same) ∧
    (∀ o e, s.tout[i]? = some o → o.ends = some e → Does (.toutPulseEnd i) s (fun t =>
      engines t = { engines s with tout := s.tout.set i { o with ends := none, idleAt := e } })) ∧
    ((∀ o, s.tout[i]? = some o → o.ends = none) → Does (.toutPulseEnd i) s same) ∧
    (s.pll.lock = false → tb s.pwr.on 10 = true → Does (.pllLock band us) s (fun t =>
      engines t = { engines s with pll := { s.pll with
        lock := true, band := band % 64, lockUs := min us 0xFFFF, locks := satAdd 16 s.pll.locks 1, outs := 0x1F } })) ∧
    (s.pll.lock = true ∨ tb s.pwr.on 10 = false → Does (.pllLock band us) s same) ∧
    (s.pll.armed = true → Does .syncInTimeout s (fun t => Reported 0x0D 0 1 s t ∧
      engines t = { engines s with pll := { s.pll with armed := false, syncMiss := true } })) ∧
    (s.pll.armed = false → Does .syncInTimeout s same) ∧
    (s.pll.lock = true → s.pwr.inReset = false → Does .pllUnlock s (fun t =>
      engines t = { engines s with
        pll := { s.pll with lock := false, outs := 0, unlocks := satAdd 16 s.pll.unlocks 1 }
        frm := { s.frm with run := false, armed := false }
        pwr := { s.pwr with dark := true, darkNext := false } } ∧
      tb t.flt.lines 0 = true ∧ isActive t 0x0D 0 (lineKind 0).2 = true)) ∧
    (s.pll.lock = false → Does .pllUnlock s same)

/-- In a device that is not held in reset: FLT_SELF, a failed rail of a powered domain, a critical temperature and an
uncorrected error of the regions of lines 1 and 2 assert their line and make their kind active. Line 1 always, and
the others without a synchronised partner, set the Safe Block latch and take A_r afresh, and the device goes dark
later, at FATAL_DARK; the others darken it at once. A corrected error is only reported, an uncorrected one of
another region is reported as an error. A high temperature is reported once. A fault message is taken in and
counted. In reset nothing happens. -/
def Obligations.FatalEventsDarkenOrBlock : Prop :=
  ∀ (s : State) (addr : Nat),
    let same := fun t : State => engines t = engines s
    let dark := { engines s with pwr := { s.pwr with dark := true, darkNext := false } }
    let fatal := fun (c : Instr) (l blk inst : Nat) =>
      (l ≠ 1 → partnerSynced s = true → Does c s (fun t => engines t = dark ∧ tb t.flt.lines l = true ∧
        isActive t blk inst (lineKind l).2 = true)) ∧
      (l = 1 ∨ partnerSynced s = false → Does c s (fun t => t.pwr = { s.pwr with darkNext := true } ∧
        tb t.flt.lines l = true ∧ isActive t blk inst (lineKind l).2 = true ∧ t.trp.sbLatch = true ∧ Acted t ∧
        t.st = s.st ∧ t.frm = s.frm ∧ t.params = s.params))
    (s.pwr.inReset = false →
      fatal .fltSelf 1 (lineKind 1).1 5 ∧ fatal .tempCrit 5 (lineKind 5).1 0 ∧
      (∀ d, d ≠ 0 → tb s.pwr.on d = true → fatal (.supplyFail d) 4 (lineKind 4).1 d) ∧
      fatal (.eccError 0 addr false) 2 (lineKind 2).1 0 ∧ fatal (.eccError 1 addr false) 2 (lineKind 2).1 1 ∧
      fatal (.eccError 5 addr false) 1 (lineKind 1).1 5 ∧
      (∀ r ∈ [2, 3, 4], Does (.eccError r addr false) s (fun t => same t ∧ isActive t 0x0E r 2 = true)) ∧
      (∀ r, r < 6 → Does (.eccError r addr true) s (fun t => same t ∧ Reported 0x0E r 1 s t)) ∧
      (∀ tj : Int, s.pwr.warned = false → 1120 ≤ tj → tempWarn s ≤ tj → Does (.tempHigh tj) s (fun t =>
        engines t = { engines s with pwr := { s.pwr with warned := true } } ∧ Reported 0x13 0 3 s t)) ∧
      (∀ w : BitVec 64, Does (.faultMessage w) s (fun t => same t ∧ min (s.flt.total + 1) (2 ^ 32 - 1) ≤ t.flt.total ∧
        (2 ≤ (FMsg.ofWord w.toNat).sev →
          isActive t (FMsg.ofWord w.toNat).blk (FMsg.ofWord w.toNat).inst (FMsg.ofWord w.toNat).kind = true)))) ∧
    (∀ d, d = 0 ∨ tb s.pwr.on d = false → Does (.supplyFail d) s same) ∧
    (∀ (tj : Int), s.pwr.warned = true ∨ tj < tempWarn s → Does (.tempHigh tj) s same) ∧
    (∀ r c, 6 ≤ r → Does (.eccError r addr c) s same) ∧
    (s.pwr.darkNext = true → Does .fatalDark s (fun t => engines t = dark)) ∧
    (s.pwr.darkNext = false → Does .fatalDark s same) ∧
    (s.pwr.inReset = true → ∀ (w : BitVec 64) (r : Nat) (b : Bool) (tj : Int),
      ∀ c ∈ [Instr.fltSelf, .tempCrit, .eccError r addr b, .tempHigh tj, .faultMessage w], Does c s same)

/-- TRC_PRE_FULL moves filling to waiting. In waiting, an edge at its level, a line trigger and a mask violation of a
stopping slot start the part after the trigger, with the source and the instant kept; an edge inside the band, a
disabled line and a word inside its mask do nothing, a first violation is reported. TRC_POST_COMPLETE in that part
with its words written counts a capture, marks its segment and reports it. TRIG_LINE_ARM of a follower that is idle
with a source arms. EVR_TRIGGER queues one trigger of its type while fewer than 64 wait, and holds those of cells
and fatal lines beyond; EVR_RECORD_WRITE takes the oldest from the queue, numbers it, and writes its record to the
ring, and to the first area while that has room. -/
def Obligations.RecordersTakeTheirEvents : Prop :=
  ∀ (s : State) (time slot : Nat) (v : Int),
    let same := fun t : State => engines t = engines s
    let only := fun t : State => engines t = { engines s with trc := t.trc }
    let hit := fun (src sl : Nat) (g : Nat) (t : State) => only t ∧ t.trc.st = 3 ∧ t.trc.src = src ∧ t.trc.trigSlot = sl ∧
      t.trc.trigG = g
    (s.trc.st = 1 → Does .trcPreFull s (fun t => engines t = { engines s with trc := { s.trc with st := 2 } })) ∧
    (s.trc.st ≠ 1 → Does .trcPreFull s same) ∧
    (s.trc.st = 2 → s.trc.tested < time →
      (tb (s.p 0xF015) 0 = true → (s.p 0xF017 ≠ 1 ∧ s.pI 0xF018 ≤ v) ∨ (s.p 0xF017 ≠ 0 ∧ v ≤ s.pI 0xF018) →
        Does (.trcEdgeTrigger time v) s (hit 0 (s.p 0xF016) time)) ∧
      (¬ ((s.p 0xF017 ≠ 1 ∧ s.pI 0xF018 ≤ v) ∨ (s.p 0xF017 ≠ 0 ∧ v ≤ s.pI 0xF018)) →
        Does (.trcEdgeTrigger time v) s same)) ∧
    (s.trc.st = 2 → s.p 0xF050 ≠ 0 → (s.pO 0xF052).isSome = true → tb (s.p 0xF015) 2 = true →
      Does (.trigLineFire time) s (hit 2 0xFF (time - s.p 0xF054))) ∧
    (s.p 0xF050 = 0 ∨ s.pO 0xF052 = none → Does (.trigLineFire time) s same) ∧
    (slot < 16 → s.trc.masked.getD slot 0 < time → maskOut s slot v = true →
      (1 ≤ s.trc.st → s.trc.st ≤ 4 → s.p (0xF020 + slot) ≠ 2 → Does (.trcMaskViolation slot time v) s (fun t =>
        engines t = { engines s with trc := { s.trc with
          masked := s.trc.masked.set slot time, maskViol := satAdd 32 s.trc.maskViol 1, violOnce := true } } ∧
        (s.trc.violOnce = false → Reported 0x0F 0 2 s t))) ∧
      (s.trc.st = 2 → s.p (0xF020 + slot) = 2 → tb (s.p 0xF015) 1 = true → Does (.trcMaskViolation slot time v) s (fun t =>
        hit 1 slot time t ∧ t.trc.maskViol = satAdd 32 s.trc.maskViol 1))) ∧
    (maskOut s slot v = false ∨ s.trc.st = 0 ∨ s.trc.st = 5 → Does (.trcMaskViolation slot time v) s same) ∧
    (s.trc.st = 3 → s.trc.trigWord.isSome = true → s.postN ≤ s.trc.post → Does .trcPostComplete s (fun t => only t ∧
      t.trc.captures = satAdd 32 s.trc.captures 1 ∧ tb t.trc.doneMap s.trc.seg = true ∧
      (t.trc.st = 4 ∨ t.trc.st = 5) ∧ Reported 0x0F 0 1 s t)) ∧
    (s.trc.st ≠ 3 ∨ s.trc.post < s.postN → Does .trcPostComplete s same) ∧
    (pvStored s.toDev 0xF050 = 2 → s.pO 0xF051 ≠ none →
      (s.trc.st = 0 ∨ s.trc.st = 5 → s.trc.armDue = false → trcNoSrc s = false → tb s.pwr.on 4 = true →
        Does .trigLineArm s (fun t => t.trc.armDue = true ∧ t.trc.seg = 0 ∧ t.trc.doneMap = 0 ∧
          engines t = { engines s with trc := t.trc, params := t.params })) ∧
      (s.trc.armDue = true → Does .trigLineArm s (fun t =>
        engines t = { engines s with trc := { s.trc with armIgn := satAdd 16 s.trc.armIgn 1 } }))) ∧
    (pvStored s.toDev 0xF050 ≠ 2 → Does .trigLineArm s same) ∧
    (∀ (typ : Nat) (cause : BitVec 64), typ ≤ 3 → Does (.evrTrigger typ cause time) s (fun t => same t ∧
      (s.evr.queue.length < 64 → ∃ tr, t.evr.queue = s.evr.queue ++ [tr] ∧ tr.typ = typ) ∧
      (64 ≤ s.evr.queue.length → 2 ≤ typ → t.evr.queue = s.evr.queue ∧ ∃ tr, t.evr.held = s.evr.held ++ [tr] ∧ tr.typ = typ))) ∧
    (∀ tr rest, s.evr.queue = tr :: rest →
      let num := numAfter s.evr.num 1
      let queue := rest ++ s.evr.held.take (64 - rest.length)
      (s.evr.first < 1024 → Does .evrRecordWrite s (fun t => same t ∧ queue <+: t.evr.queue ∧ t.evr.num = num ∧
        t.evr.first = s.evr.first + 1)) ∧
      (1024 ≤ s.evr.first → Does .evrRecordWrite s (fun t => same t ∧ t.evr = { s.evr with
        queue := queue
        held := s.evr.held.drop (64 - rest.length)
        num := num
        mem := s.evr.mem.writeBytes (lastSlot num) (evrBytes tr num s.jnl.boot 0) }))) ∧
    (s.evr.queue = [] → Does .evrRecordWrite s (fun t => same t ∧ t.evr = s.evr))

/-- JNL_RECORD_COMMIT of an open record marks it with the flashes that are written and moves COMMITTED; one that is not
open, or with no flash written, does nothing. In both flashes, a command that waited for its record is accepted with
basis JOURNALLED, and a reply that waited for its COMPLETION is given. A batch's last record sets its frame.
JNL_FLASH_FAIL of a flash in use takes it out of service, counts and reports it; of another, nothing.
JNL_COMPACTION_START opens a checkpoint at the next record number when the blocks in use reach the limit.
BLOCK_ERASE_DONE frees one block. No block of the converter changes but the rank's batch. -/
def Obligations.RecordsCommitAndFlashesFail : Prop :=
  ∀ (s : State) (q flash addr : Nat), s.hif.held = [] →
    let same := fun t : State => engines t = engines s
    let still := fun t : State => same t ∧ t.jnl = s.jnl ∧ t.hif = s.hif
    let plain := fun r : JRec => (∀ a b c, r.pl ≠ .batch a b c) ∧ ∀ b, r.pl ≠ .ckptEnd b
    let marked := fun r : JRec => { s.jnl with
      recs := s.jnl.recs.map (fun x => if x.jseq = q then { x with c0 := writes0 s.jnl r, c1 := writes1 s.jnl r } else x)
      committed := max s.jnl.committed q }
    (s.jnl.recs.find? (fun r => r.jseq == q && r.open_) = none → Does (.jnlRecordCommit q) s still) ∧
    (∀ r, s.jnl.recs.find? (fun r => r.jseq == q && r.open_) = some r →
      (writes0 s.jnl r = false → writes1 s.jnl r = false → Does (.jnlRecordCommit q) s still) ∧
      (writes0 s.jnl r ≠ writes1 s.jnl r → plain r → Does (.jnlRecordCommit q) s (fun t =>
        same t ∧ t.hif = s.hif ∧ t.jnl = marked r)) ∧
      (∀ num first es, writes0 s.jnl r ≠ writes1 s.jnl r → r.pl = .batch num first es → r.last = true →
        Does (.jnlRecordCommit q) s (fun t => t.jnl = marked r ∧ t.hif = s.hif ∧
          engines t = { engines s with rnk := { s.rnk with batchFrame := s.frm.count % 2 ^ 32 } })) ∧
      (writes0 s.jnl r = true → writes1 s.jnl r = true → plain r → s.jnl.evrClears = [] → s.jnl.syncs = [] →
        s.hif.openReq = none →
        (∀ f, s.hif.fly.find? (fun f => f.basis == 0 && !f.mirror && f.jseq == q) = some f → s.hif.due = [] →
          formStatus f.gen f.opcode f.packet = none → PairOpen s f.pair → Does (.jnlRecordCommit q) s (fun t =>
            same t ∧ t.jnl = marked r ∧ repliesOf t f.pair = repliesOf s f.pair ++ [acceptedReply f.ctx 2 false] ∧
            t.hif.fly = s.hif.fly.map (fun x =>
              if x.pair = f.pair ∧ x.seq = f.seq then { x with basis := 2, mirror := false } else x))) ∧
        (∀ d, s.hif.fly.find? (fun f => f.basis == 0 && !f.mirror && f.jseq == q) = none → s.hif.due = [d] → d.jseq = q →
          PairOpen s d.hdr.pair → acts s = true → Does (.jnlRecordCommit q) s (fun t =>
            same t ∧ t.jnl = marked r ∧ Answers d.opcode d.hdr 0 d.data s t ∧ t.hif.due = [])))) ∧
    (s.jnl.f0 || s.jnl.behind0 → Does (.jnlFlashFail 0 addr) s (fun t => same t ∧ t.jnl.f0 = false ∧ t.jnl.behind0 = false ∧
      t.jnl.f1 = s.jnl.f1 ∧ t.jnl.err0 = satAdd 16 s.jnl.err0 1 ∧ t.jnl.err1 = s.jnl.err1 ∧ Reported 0x11 0 1 s t)) ∧
    (s.jnl.f1 || s.jnl.behind1 → Does (.jnlFlashFail 1 addr) s (fun t => same t ∧ t.jnl.f1 = false ∧ t.jnl.behind1 = false ∧
      t.jnl.f0 = s.jnl.f0 ∧ t.jnl.err1 = satAdd 16 s.jnl.err1 1 ∧ t.jnl.err0 = s.jnl.err0 ∧ Reported 0x11 1 1 s t)) ∧
    (((flash = 0 → s.jnl.f0 = false ∧ s.jnl.behind0 = false) ∧ (flash = 1 → s.jnl.f1 = false ∧ s.jnl.behind1 = false)) →
      Does (.jnlFlashFail flash addr) s still) ∧
    (jnlTakes s = true → s.jnl.compact = false → s.p 0x0200 * 2048 ≤ 100 * s.jnl.blocks.length →
      Does .jnlCompactionStart s (fun t => engines t = { engines s with rnk := t.rnk } ∧ t.hif = s.hif ∧
        t.jnl.compact = true ∧ t.jnl.ckBegin = s.jnl.next ∧ t.jnl.compHdr = none)) ∧
    (s.jnl.compact = true ∨ 100 * s.jnl.blocks.length < s.p 0x0200 * 2048 → Does .jnlCompactionStart s still) ∧
    (s.jnl.dirty ≠ 0 → Does .blockEraseDone s (fun t => same t ∧ t.hif = s.hif ∧
      t.jnl = { s.jnl with dirty := s.jnl.dirty - 1, full := t.jnl.full })) ∧
    (s.jnl.dirty = 0 → Does .blockEraseDone s still)

/-- With the supervisor powered, a descriptor that finds a slot while every core is busy and none may be preempted joins
its level's list; without a slot it joins the spill queue in that mode while there is room, and otherwise the
enqueuer stalls, counted and reported once. A core that is freed takes the first descriptor of the highest level
that it may run; with none it stays free. The watchdog of a running core asserts line 3. The end of a load window
keeps LAST and MAX of every core and reports those above the warning. A class or core that is not there, or an
unpowered supervisor, changes nothing. Only the scheduler's block changes. -/
def Obligations.CoresTakeAndReleaseTasks : Prop :=
  ∀ (s : State) (cls src time c : Nat),
    let same := fun t : State => engines t = engines s
    let only := fun t : State => engines t = { engines s with sch := t.sch }
    let l := classLevel cls
    let k : Task := { cls := cls, src := src, enq := time, seen := false, used := 0 }
    (9 ≤ cls ∨ tb s.pwr.on 3 = false → Does (.taskEnqueue cls src time) s same) ∧
    (cls < 9 → tb s.pwr.on 3 = true → l < s.sch.lvls.length →
      Does (.taskEnqueue cls src time) s only ∧
      ((s.lvl l).spill = [] → slotFree s l = true → (∀ i, i < 4 → (s.core i).task.isSome = true) → victim s cls l = none →
        Does (.taskEnqueue cls src time) s (fun t => only t ∧ t.sch.cores = s.sch.cores ∧
          t.lvl l = { s.lvl l with
            ready := (s.lvl l).ready ++ [k]
            depthMax := max (s.lvl l).depthMax ((s.lvl l).ready.length + 1) } ∧
          ∀ j, j ≠ l → t.lvl j = s.lvl j)) ∧
      ((s.lvl l).spill ≠ [] ∨ (slotFree s l = false ∧ spillMode s l = true) → spilled s < 8192 →
        Does (.taskEnqueue cls src time) s (fun t => only t ∧ t.sch.cores = s.sch.cores ∧
          (t.lvl l).spill = (s.lvl l).spill ++ [k] ∧ (t.lvl l).ready = (s.lvl l).ready ∧ (∀ j, j ≠ l → t.lvl j = s.lvl j) ∧
          ((s.lvl l).spill = [] → Reported 0x12 l 3 s t))) ∧
      ((s.lvl l).spill = [] → slotFree s l = false → spillMode s l = false → Does (.taskEnqueue cls src time) s (fun t =>
        only t ∧ t.sch.stalls = satAdd 32 s.sch.stalls 1 ∧ t.sch.cores = s.sch.cores ∧
        t.lvl l = { s.lvl l with stalls := (s.lvl l).stalls + 1 } ∧ (∀ j, j ≠ l → t.lvl j = s.lvl j) ∧
        ((s.lvl l).stalls = 0 → (s.lvl l).bp = false → Reported 0x12 l 2 s t)))) ∧
    (c < 4 → c < s.sch.cores.length → (∀ i, i < 4 → i ≠ c → (s.core i).task.isSome = true) →
      ((∀ i, i < 8 → (s.lvl i).ready = [] ∧ (s.lvl i).spill = []) → Does (.coreFree c time) s (fun t => only t ∧
        (t.core c).task = none ∧ (∀ i, i ≠ c → t.core i = s.core i) ∧ t.sch.lvls = s.sch.lvls)) ∧
      (∀ j k more, j < 8 → j < s.sch.lvls.length → (s.lvl j).ready = k :: more → (classCores k.cls).contains c = true →
        (∀ i, j < i → i < 8 → (s.lvl i).ready = []) → (∀ i, i < 8 → (s.lvl i).spill = []) →
        Does (.coreFree c time) s (fun t => only t ∧ (t.core c).task = some { k with seen := true } ∧
          (t.core c).since = time ∧ (t.lvl j).ready = more ∧ (∀ i, i ≠ c → t.core i = s.core i) ∧
          (∀ i, i ≠ j → t.lvl i = s.lvl i)))) ∧
    (4 ≤ c → Does (.coreFree c time) s same) ∧
    ((s.core c).task.isSome = true → s.pwr.inReset = false → partnerSynced s = true → Does (.supWdog c) s (fun t =>
      engines t = { engines s with pwr := { s.pwr with dark := true, darkNext := false } } ∧ tb t.flt.lines 3 = true ∧
      isActive t (lineKind 3).1 c (lineKind 3).2 = true)) ∧
    ((s.core c).task.isSome = true → s.pwr.inReset = false → partnerSynced s = false → Does (.supWdog c) s (fun t =>
      t.pwr = { s.pwr with darkNext := true } ∧ tb t.flt.lines 3 = true ∧ t.trp.sbLatch = true ∧ Acted t ∧ t.sch = s.sch)) ∧
    ((s.core c).task = none → Does (.supWdog c) s same) ∧
    (∀ busy : List Nat, Does (.schLoadWindowEnd busy) s (fun t =>
      engines t = { engines s with sch := { s.sch with
        cores := s.sch.cores.mapIdx (fun i x => { x with
          load := loadOf (busy.getD i 0) s.sch.loadWin, loadMax := max x.loadMax (loadOf (busy.getD i 0) s.sch.loadWin) })
        loadWin := s.p 0x0309
        loadWarn := s.p 0x030A } } ∧
      ∀ i, i < 4 → i < s.sch.cores.length → s.sch.loadWarn < loadOf (busy.getD i 0) s.sch.loadWin → Reported 0x12 i 5 s t))

/-- DOMAIN_SWITCHED puts the domain in progress on or off and starts the next; after the last one the command is
answered DONE. PWR_FAIL_ASSERT marks the failure; a running start-up is stopped, a calibration refused 0x0303, and
with a restored journal the open records whose pages are not all programmed are void, and the journal is in its
power-fail sequence. Held in reset nothing happens. PWR_FAIL_SEQUENCE_END with the pin high clears the mark, ends
the sequence, and a stopped start-up goes on; with the pin low the mark stays. -/
def Obligations.PowerDomainsAndPowerFailsAreFollowed : Prop :=
  ∀ (s : State) (ends : List Nat), s.hif.held = [] →
    (∀ x d, s.pwr.switching = some x → x.todo = [d] → PairOpen s x.hdr.pair → acts s = true → s.adc.cal = none →
      Does .domainSwitched s (fun t => t.pwr = { s.pwr with
        on := if x.on then setB s.pwr.on d true else setB s.pwr.on d false
        switching := none
        moving := 0 } ∧ Answers 0x0B00 x.hdr 0 [] s t ∧ t.st = s.st ∧ t.frm = s.frm ∧ t.trp = s.trp)) ∧
    (∀ x d e rest, s.pwr.switching = some x → x.todo = d :: e :: rest → s.adc.cal = none →
      Does .domainSwitched s (fun t => t.pwr = { s.pwr with
        on := if x.on then setB s.pwr.on d true else setB s.pwr.on d false
        switching := some { x with todo := e :: rest }
        moving := 2 ^ e } ∧ t.st = s.st ∧ t.frm = s.frm ∧ t.trp = s.trp)) ∧
    (s.pwr.switching = none → Does .domainSwitched s (fun t => engines t = engines s ∧ t.hif = s.hif)) ∧
    (s.pwr.inReset = true → Does (.pwrFailAssert ends) s (fun t => engines t = engines s ∧ t.jnl = s.jnl ∧ t.hif = s.hif)) ∧
    (s.pwr.inReset = false →
      let mark := { s.pwr with pwrFail := true, stopped := s.pwr.stopped || decide (s.st = .starting) }
      (s.adc.cal = none → s.jnl.restored = false ∨ s.jnl.pwrFail = 1 → Does (.pwrFailAssert ends) s (fun t =>
        engines t = { engines s with pwr := mark } ∧ t.jnl = s.jnl ∧ t.hif = s.hif)) ∧
      (∀ h op t0 convs, s.adc.cal = some (h, op, t0, convs) → s.jnl.restored = false → PairOpen s h.pair →
        acts s = true → Does (.pwrFailAssert ends) s (fun t =>
          engines t = { engines s with pwr := mark, adc := { s.adc with cal := none, calSpan := some (t0, s.now, convs) } } ∧
          Answers op h 0x0303 (calData convs 0 ((s.now - t0) / 1000) 0) s t)) ∧
      (s.adc.cal = none → s.jnl.restored = true → s.jnl.pwrFail ≠ 1 → s.jnl.recs.filter JRec.open_ = [] →
        s.jnl.compact = false → s.jnl.f0 = false → s.jnl.f1 = false → s.jnl.evrClears = [] → s.jnl.syncs = [] →
        s.hif.fly = [] → s.hif.openReq = none → s.hif.due = [] → Does (.pwrFailAssert ends) s (fun t =>
          t.pwr = mark ∧ t.jnl.pwrFail = 1 ∧ t.jnl.recs = s.jnl.recs ∧ t.st = s.st ∧ t.frm = s.frm))) ∧
    (s.st ≠ .starting →
      (s.jnl.pwrFail ≠ 1 → ∀ high, Does (.pwrFailSequenceEnd high) s (fun t => engines t = { engines s with
        pwr := { s.pwr with pwrFail := s.pwr.pwrFail && !high } } ∧ t.jnl = s.jnl)) ∧
      (s.jnl.pwrFail = 1 → pendingSeqs s = [] → Does (.pwrFailSequenceEnd true) s (fun t => engines t = { engines s with
        pwr := { s.pwr with pwrFail := false } } ∧ t.jnl = { s.jnl with pwrFail := 2 })) ∧
      (s.jnl.pwrFail = 1 → pendingSeqs s = [] → Does (.pwrFailSequenceEnd false) s (fun t => engines t = engines s ∧
        t.jnl = s.jnl))) ∧
    (s.st = .starting → s.pwr.stopped = true → s.pwr.inReset = false → s.jnl.pwrFail ≠ 1 → s.pwr.paused = false →
      Does (.pwrFailSequenceEnd true) s (fun t => engines t = { engines s with
        pwr := { s.pwr with pwrFail := false, stopped := false, paused := false } }))

/-- ADC_CAL that comes up for execution in a device that executes commands, its pair open: outside MAINTENANCE it
answers 0x0100 WRONG_STATE; in MAINTENANCE it answers 0x0301 BUSY while one runs, 0x0302 DOMAIN_OFF where none runs
and both ADC-L and ADC-H are off, and otherwise, with the time base running, a calibration runs afterwards and no
reply is due yet. A refused one changes no block of the converter. -/
def Obligations.CalibrationRunsOnlyInMaintenance : Prop :=
  ∀ (s : State) (h : CmdHdr), MayRun 0x0C00 h stAny s → PairOpen s h.pair → acts s = true →
    let refused := fun st : Nat => Does (.adcCal h) s (fun t => Answers 0x0C00 h st [] s t ∧ engines t = engines s)
    (s.st ≠ .maintenance → refused 0x0100) ∧
    (s.st = .maintenance → s.adc.cal.isSome = true → refused 0x0301) ∧
    (s.st = .maintenance → s.adc.cal = none → tb s.pwr.on 5 = false → tb s.pwr.on 6 = false → refused 0x0302) ∧
    (s.st = .maintenance → s.adc.cal = none → tb s.pwr.on 5 = true ∨ tb s.pwr.on 6 = true → s.frm.armed = true →
      Does (.adcCal h) s (fun t => (∃ convs, t.adc.cal = some (h, 0x0C00, h.time, convs) ∧ convs ≠ 0) ∧
        repliesOf t h.pair = repliesOf s h.pair))

/-- In SAFE_STOP and SAFE_BLOCKED, REF_QUEUE, FCS-1 RAMP and REF_REPLACE that come up for execution answer 0x0100
WRONG_STATE, whatever their entry, and no block of the converter changes. REF_STOP and FCS-1 RAMP_STOP of a group or
of all are accepted in whatever state they come up for execution: the stop waits for its frame, and the groups it
names have no entry queued. -/
def Obligations.RampsAreRefusedInASafeState : Prop :=
  ∀ (s : State) (h : CmdHdr) (a : RampArgs) (g mask dur : Nat) (ts : List Int), PairOpen s h.pair → acts s = true →
    (∀ x ∈ [(Instr.refQueue h a, 0x0300), (.fcs1Ramp h g mask dur ts, 0x10030), (.refReplace h a, 0x0301)],
      MayRun x.2 h stAny s → s.st = .safeStop ∨ s.st = .safeBlocked →
        Does x.1 s (fun t => Answers x.2 h 0x0100 [] s t ∧ engines t = engines s)) ∧
    (∀ x ∈ [(Instr.refStop h g, 0x0302), (.fcs1RampStop h g, 0x10031)], MayRun x.2 h stAny s → g ≤ 7 ∨ g = 0xFF →
      Does x.1 s (fun t => (∃ n, t.ref.ops = s.ref.ops ++ [{ hdr := h, opcode := x.2, group := g, cnt := n }]) ∧
        (∀ k, k < 8 → k < t.ref.grps.length → g = 0xFF ∨ g = k → (t.ref.grps.getD k Grp.reset).queue = [])))
end

