-- ==== Sys2Proof/Laws/Keep.lean ====
section
/-! SUPPORT. What an operation leaves as it is: the part of the state that most operations keep, and how folds and
branches keep it. -/

namespace Sys2Proof.Machine

open Sys2Proof

/-- The frame counter, the grid time of the last rim and the rims counted. -/
structure Grid where
  count : Nat
  wrap  : Nat
  g     : Nat
  rims  : Nat

/-- What most operations leave as it is: the queue of waiting commands, the device state, the frame grid, the
publication, and the memories of the two recorders. -/
structure Kept where
  pending : List Instr
  st      : DevState
  grid    : Grid
  len     : Nat
  pub     : Dev
  mem     : Memory × Memory

/-- The kept part of a state. -/
def keep (s : State) : Kept :=
  ⟨s.pending, s.st, ⟨s.frm.count, s.frm.wrap, s.frm.g, s.frm.rims⟩, s.frm.len, s.pub, (s.trc.mem, s.evr.mem)⟩

@[simp] theorem keep_mk st frm flt evr jnl hif params pair pwr adc ref ctl cells obs rnk fir lnk cev
    trp sbk time tout pll trc sch free now out pub pending :
    keep ⟨⟨st, frm, flt, evr, jnl, hif, params, pair, pwr, adc, ref, ctl, cells, obs, rnk, fir, lnk, cev,
      trp, sbk, time, tout, pll, trc, sch, free, now⟩, out, pub, pending⟩ =
      ⟨pending, st, ⟨frm.count, frm.wrap, frm.g, frm.rims⟩, frm.len, pub, (trc.mem, evr.mem)⟩ := (rfl)

@[simp] theorem keep_fold (s : State) :
    Kept.mk s.pending s.st ⟨s.frm.count, s.frm.wrap, s.frm.g, s.frm.rims⟩ s.frm.len s.pub (s.trc.mem, s.evr.mem) =
      keep s := (rfl)

@[simp] theorem keep_mkDev (s : State) (o : List Output) (p : Dev) (q : List Instr) :
    keep ⟨s.toDev, o, p, q⟩ = ⟨q, (keep s).st, (keep s).grid, (keep s).len, p, (keep s).mem⟩ := (rfl)

@[simp] theorem keep_eta (k : Kept) : Kept.mk k.pending k.st k.grid k.len k.pub k.mem = k := (rfl)

@[simp] theorem keep_ite (c : Prop) [Decidable c] (a b : State) :
    keep (if c then a else b) = if c then keep a else keep b := by split <;> rfl

/-- A fold of steps that keep a part of the state keeps it. -/
theorem foldl_kept {α β} (π : State → β) (l : List α) (f : State → α → State) (s : State)
    (h : ∀ a x, π (f a x) = π a) : π (l.foldl f s) = π s := by
  induction l generalizing s with
  | nil => rfl
  | cons x xs ih => simp only [List.foldl_cons, ih, h]

/-- The same for a fold that also gathers something beside the state. -/
theorem foldl_fst_kept {α β γ} (π : State → γ) (l : List α) (f : State × β → α → State × β) (s : State × β)
    (h : ∀ a x, π (f a x).1 = π a.1) : π (l.foldl f s).1 = π s.1 := by
  induction l generalizing s with
  | nil => rfl
  | cons x xs ih => simp only [List.foldl_cons, ih, h]

@[simp] theorem keep_foldl {α} (l : List α) (f : State → α → State) (s : State)
    (h : ∀ a x, keep (f a x) = keep a) : keep (l.foldl f s) = keep s := foldl_kept keep l f s h

@[simp] theorem keep_foldl_pending {α} (l : List α) (f : State → α → State) (s : State)
    (h : ∀ a x, (keep (f a x)).pending = (keep a).pending) : (keep (l.foldl f s)).pending = (keep s).pending :=
  foldl_kept (fun x => (keep x).pending) l f s h

@[simp] theorem ite_pending (c : Prop) [Decidable c] (a b : Kept) :
    (if c then a else b).pending = if c then a.pending else b.pending := by split <;> rfl

@[simp] theorem keep_foldl_st {α} (l : List α) (f : State → α → State) (s : State)
    (h : ∀ a x, (keep (f a x)).st = (keep a).st) : (keep (l.foldl f s)).st = (keep s).st :=
  foldl_kept (fun x => (keep x).st) l f s h

@[simp] theorem ite_st (c : Prop) [Decidable c] (a b : Kept) :
    (if c then a else b).st = if c then a.st else b.st := by split <;> rfl

@[simp] theorem keep_foldl_grid {α} (l : List α) (f : State → α → State) (s : State)
    (h : ∀ a x, (keep (f a x)).grid = (keep a).grid) : (keep (l.foldl f s)).grid = (keep s).grid :=
  foldl_kept (fun x => (keep x).grid) l f s h

@[simp] theorem ite_grid (c : Prop) [Decidable c] (a b : Kept) :
    (if c then a else b).grid = if c then a.grid else b.grid := by split <;> rfl

@[simp] theorem keep_foldl_len {α} (l : List α) (f : State → α → State) (s : State)
    (h : ∀ a x, (keep (f a x)).len = (keep a).len) : (keep (l.foldl f s)).len = (keep s).len :=
  foldl_kept (fun x => (keep x).len) l f s h

@[simp] theorem ite_len (c : Prop) [Decidable c] (a b : Kept) :
    (if c then a else b).len = if c then a.len else b.len := by split <;> rfl

@[simp] theorem keep_foldl_pub {α} (l : List α) (f : State → α → State) (s : State)
    (h : ∀ a x, (keep (f a x)).pub = (keep a).pub) : (keep (l.foldl f s)).pub = (keep s).pub :=
  foldl_kept (fun x => (keep x).pub) l f s h

@[simp] theorem ite_pub (c : Prop) [Decidable c] (a b : Kept) :
    (if c then a else b).pub = if c then a.pub else b.pub := by split <;> rfl

@[simp] theorem keep_foldl_mem {α} (l : List α) (f : State → α → State) (s : State)
    (h : ∀ a x, (keep (f a x)).mem = (keep a).mem) : (keep (l.foldl f s)).mem = (keep s).mem :=
  foldl_kept (fun x => (keep x).mem) l f s h

@[simp] theorem ite_mem (c : Prop) [Decidable c] (a b : Kept) :
    (if c then a else b).mem = if c then a.mem else b.mem := by split <;> rfl

/-! A field of the state is that field of its kept part. -/

theorem pending_eq (s : State) : s.pending = (keep s).pending := (rfl)
theorem st_eq (s : State) : s.st = (keep s).st := (rfl)
theorem pub_eq (s : State) : s.pub = (keep s).pub := (rfl)
theorem grid_eq (s : State) : Grid.mk s.frm.count s.frm.wrap s.frm.g s.frm.rims = (keep s).grid := (rfl)
theorem len_eq (s : State) : s.frm.len = (keep s).len := rfl
theorem mem_eq (s : State) : (s.trc.mem, s.evr.mem) = (keep s).mem := (rfl)

end Sys2Proof.Machine
end

