-- ==== Sys2Proof/Laws/KeepCells.lean ====
section
/-! SUPPORT. What an operation leaves as it is: the shared operations, the engines of the frame, the trips and the cell table. -/

namespace Sys2Proof.Machine

open Sys2Proof

@[simp] theorem State_draw_keep (s : State) : keep (State.draw s) = keep s := by
  simp [State.draw]

@[simp] theorem State_emit_keep (o : Output) (s : State) : keep (State.emit o s) = keep s := by
  rfl

@[simp] theorem State_tell_keep (m : PMsg) (s : State) : keep (State.tell m s) = keep s := by
  simp [State.tell]

@[simp] theorem State_at_keep (t : Nat) (s : State) : keep (State.at t s) = keep s := by
  simp [State.at]

@[simp] theorem State_setEnt_keep (k : Nat) (e : Entry) (s : State) : keep (State.setEnt k e s) = keep s := by
  simp [State.setEnt]

@[simp] theorem State_modEnt_keep (k : Nat) (f : Entry → Entry) (s : State) : keep (State.modEnt k f s) = keep s := by
  simp [State.modEnt]

@[simp] theorem fltCore_keep (m : FMsg) (fr : Nat) (s : State) : keep (fltCore m fr s).1 = keep s := by
  simp [fltCore]

@[simp] theorem evrPush_keep (tr : Trig) (s : State) : keep (evrPush tr s) = keep s := by
  simp [evrPush]

@[simp] theorem fltTake_keep (m : FMsg) (fr : Nat) (s : State) : keep (fltTake m fr s) = keep s := by
  simp [fltTake]

@[simp] theorem raiseSev_keep (blk inst kind sev detail : Nat) (s : State) :
    keep (raiseSev blk inst kind sev detail s) = keep s := by
  simp [raiseSev]

@[simp] theorem raise_keep (blk inst kind detail : Nat) (s : State) : keep (raise blk inst kind detail s) = keep s := by
  simp [raise]

@[simp] theorem raiseIf_keep (c : Bool) (blk inst kind detail : Nat) (s : State) :
    keep (raiseIf c blk inst kind detail s) = keep s := by
  simp [raiseIf]

@[simp] theorem jnlFullCheck_keep (s : State) : keep (jnlFullCheck s) = keep s := by
  simp [jnlFullCheck]

@[simp] theorem jnlAdd_keep (pl : JPayload) (s : State) : keep (jnlAdd pl s) = keep s := by
  simp [jnlAdd]

@[simp] theorem pushReply_keep (r : Reply) (s : State) : keep (pushReply r s) = keep s := by
  simp [pushReply]

@[simp] theorem complete_keep (r : Reply) (s : State) : keep (complete r s) = keep s := by
  simp [complete]

@[simp] theorem deliver_keep (op : Nat) (r : Reply) (s : State) : keep (deliver op r s) = keep s := by
  simp [deliver]

@[simp] theorem finish_keep (c : Ctx) (status : Nat) (data : List Byte) (s : State) :
    keep (finish c status data s) = keep s := by
  simp [finish]

@[simp] theorem finishCommit_keep (c : Ctx) (data : List Byte) (chg : List JChange) (s : State) :
    keep (finishCommit c data chg s) = keep s := by
  simp [finishCommit]

@[simp] theorem done_keep (c : Ctx) (data : List Byte) (s : State) : keep (done c data s) = keep s := by
  simp [done]

@[simp] theorem refuse_keep (c : Ctx) (status : Nat) (s : State) : keep (refuse c status s) = keep s := by
  simp [refuse]

@[simp] theorem settle_keep (s : State) : keep (settle s) = keep s := by
  simp [settle]

@[simp] theorem sendExec_keep (acked : Bool) (c : Ctx) (s : State) : keep (sendExec acked c s) = keep s := by
  simp [sendExec]

@[simp] theorem markExec_keep (c : Ctx) (s : State) : keep (markExec c s) = keep s := by
  simp [markExec]

@[simp] theorem holdCmd_keep (i : Instr) (s : State) : keep (holdCmd i s) = keep s := by
  simp [holdCmd]

@[simp] theorem notActive_keep (c : Ctx) (s : State) : keep (notActive c s) = keep s := by
  simp [notActive]

theorem checked_kept {β} (π : Kept → β) (c : Ctx) (states : DevState → Bool) (own : State → State) (s : State)
    (h : ∀ x, π (keep (own x)) = π (keep x)) : π (keep (checked c states own s)) = π (keep s) := by
  simp only [checked]; (repeat' split) <;> simp [h]

@[simp] theorem checked_keep (c : Ctx) (states : DevState → Bool) (own : State → State) (s : State)
    (h : ∀ x, keep (own x) = keep x) : keep (checked c states own s) = keep s := checked_kept id c states own s h

@[simp] theorem followJoin_keep (c : Ctx) (s : State) : keep (followJoin c s) = keep s := by
  simp [followJoin]

theorem hostCmd_kept {β} (π : Kept → β) (i : Instr) (c : Ctx) (states : DevState → Bool) (own : State → State)
    (s : State) (h : ∀ x, π (keep (own x)) = π (keep x)) :
    π (keep (hostCmd i c states own s)) = π (keep s) := by
  simp only [hostCmd]
  (repeat' split) <;> simp [checked_kept π c states own _ h]

@[simp] theorem hostCmd_keep (i : Instr) (c : Ctx) (states : DevState → Bool) (own : State → State) (s : State)
    (h : ∀ x, keep (own x) = keep x) : keep (hostCmd i c states own s) = keep s := hostCmd_kept id i c states own s h

@[simp] theorem hostCmd_keep_pending (i : Instr) (c : Ctx) (states : DevState → Bool) (own : State → State) (s : State)
    (h : ∀ x, (keep (own x)).pending = (keep x).pending) :
    (keep (hostCmd i c states own s)).pending = (keep s).pending :=
  hostCmd_kept Kept.pending i c states own s h

@[simp] theorem hostCmd_keep_st (i : Instr) (c : Ctx) (states : DevState → Bool) (own : State → State) (s : State)
    (h : ∀ x, (keep (own x)).st = (keep x).st) : (keep (hostCmd i c states own s)).st = (keep s).st :=
  hostCmd_kept Kept.st i c states own s h

@[simp] theorem hostCmd_keep_grid (i : Instr) (c : Ctx) (states : DevState → Bool) (own : State → State) (s : State)
    (h : ∀ x, (keep (own x)).grid = (keep x).grid) : (keep (hostCmd i c states own s)).grid = (keep s).grid :=
  hostCmd_kept Kept.grid i c states own s h

@[simp] theorem hostCmd_keep_len (i : Instr) (c : Ctx) (states : DevState → Bool) (own : State → State) (s : State)
    (h : ∀ x, (keep (own x)).len = (keep x).len) : (keep (hostCmd i c states own s)).len = (keep s).len :=
  hostCmd_kept Kept.len i c states own s h

@[simp] theorem hostCmd_keep_pub (i : Instr) (c : Ctx) (states : DevState → Bool) (own : State → State) (s : State)
    (h : ∀ x, (keep (own x)).pub = (keep x).pub) : (keep (hostCmd i c states own s)).pub = (keep s).pub :=
  hostCmd_kept Kept.pub i c states own s h

@[simp] theorem spAdvance_keep (g : Nat) (r0 : RunE) (s : State) : keep (spAdvance g r0 s) = keep s := by
  simp [spAdvance]

@[simp] theorem spBegin_keep (g : Nat) (q : QEnt) (v0 : List Int) (late : Bool) (prev : Option Seg) (d2 : Option Nat) (s : State) :
    keep (spBegin g q v0 late prev d2 s) = keep s := by
  simp [spBegin]

@[simp] theorem spNext_keep (n g : Nat) (prev : Option RunE) (s : State) : keep (spNext n g prev s) = keep s := by
  simp only [spNext]; (repeat' split) <;> simp

@[simp] theorem spFlush_keep (g : Nat) (s : State) : keep (spFlush g s) = keep s := by
  simp [spFlush]

@[simp] theorem spGroup_keep (n g : Nat) (s : State) : keep (spGroup n g s) = keep s := by
  simp only [spGroup]; (repeat' split) <;> simp

@[simp] theorem refStage_keep (n : Nat) (s : State) : keep (refStage n s) = keep s := by
  simp [refStage]

@[simp] theorem refReplies_keep (s : State) : keep (refReplies s) = keep s := by
  simp [refReplies]

@[simp] theorem spClear_keep (gs : List Nat) (s : State) : keep (spClear gs s).1 = keep s := by
  simp [spClear]

@[simp] theorem spStopAll_keep (s : State) : keep (spStopAll s) = keep s := by
  simp [spStopAll]

@[simp] theorem spAppendAuto_keep (m : Nat) (v : Int) (s : State) : keep (spAppendAuto m v s) = keep s := by
  simp [spAppendAuto]

@[simp] theorem spInit_keep (s : State) : keep (spInit s) = keep s := by
  simp [spInit]

@[simp] theorem spAppend_keep (e : RampArgs) (seq : Nat) (s : State) : keep (spAppend e seq s) = keep s := by
  simp [spAppend]

@[simp] theorem refQueue_keep (c : Ctx) (e : RampArgs) (s : State) : keep (refQueue c e s) = keep s := by
  simp [refQueue]

@[simp] theorem refReplace_keep (c : Ctx) (e : RampArgs) (s : State) : keep (refReplace c e s) = keep s := by
  simp [refReplace]

@[simp] theorem refStop_keep (c : Ctx) (g : Nat) (s : State) : keep (refStop c g s) = keep s := by
  simp [refStop]

@[simp] theorem refPhaseLoad_keep (c : Ctx) (nco frame phase : Nat) (s : State) :
    keep (refPhaseLoad c nco frame phase s) = keep s := by
  simp [refPhaseLoad]

@[simp] theorem hostRefQueue_keep (h : CmdHdr) (e : RampArgs) (s_ : State) : keep (hostRefQueue h e s_) = keep s_ := by
  simp [hostRefQueue]

@[simp] theorem hostRefReplace_keep (h : CmdHdr) (e : RampArgs) (s_ : State) :
    keep (hostRefReplace h e s_) = keep s_ := by
  simp [hostRefReplace]

@[simp] theorem hostRefStop_keep (h : CmdHdr) (g : Nat) (s_ : State) : keep (hostRefStop h g s_) = keep s_ := by
  simp [hostRefStop]

@[simp] theorem hostRefPhaseLoad_keep (h : CmdHdr) (nco frame phase : Nat) (s_ : State) :
    keep (hostRefPhaseLoad h nco frame phase s_) = keep s_ := by
  simp [hostRefPhaseLoad]

@[simp] theorem hostFcs1Ramp_keep (h : CmdHdr) (group mask dur : Nat) (targets : List Int) (s_ : State) :
    keep (hostFcs1Ramp h group mask dur targets s_) = keep s_ := by
  simp [hostFcs1Ramp]

@[simp] theorem hostFcs1RampStop_keep (h : CmdHdr) (g : Nat) (s_ : State) :
    keep (hostFcs1RampStop h g s_) = keep s_ := by
  simp [hostFcs1RampStop]

@[simp] theorem plausLatch_keep (t : Nat) (s : State) : keep (plausLatch t s) = keep s := by
  simp [plausLatch]

@[simp] theorem discLatch_keep (r : Nat) (s : State) : keep (discLatch r s) = keep s := by
  simp [discLatch]

@[simp] theorem adcClose_keep (inp : RimIn) (s : State) : keep (adcClose inp s) = keep s := by
  simp [adcClose]

@[simp] theorem adcRods_keep (s : State) : keep (adcRods s) = keep s := by
  simp [adcRods]

@[simp] theorem adcReport_keep (s : State) : keep (adcReport s) = keep s := by
  simp only [adcReport]; (repeat' split) <;> simp

@[simp] theorem adcStage_keep (inp : RimIn) (s : State) : keep (adcStage inp s) = keep s := by
  simp [adcStage]

@[simp] theorem calAbort_keep (s : State) : keep (calAbort s) = keep s := by
  simp only [calAbort]; (repeat' split) <;> simp

@[simp] theorem calDone_keep (t : Nat) (sums : List CalSum) (s : State) : keep (calDone t sums s) = keep s := by
  simp only [calDone]; (repeat' split) <;> simp

@[simp] theorem feReact_keep (k : Nat) (s : State) : keep (feReact k s) = keep s := by
  simp [feReact]

@[simp] theorem ctlStage_keep (s : State) : keep (ctlStage s) = keep s := by
  simp [ctlStage]

@[simp] theorem feReset_keep (s : State) : keep (feReset s) = keep s := by
  simp [feReset]

@[simp] theorem feClear_keep (k : Nat) (s : State) : keep (feClear k s) = keep s := by
  simp [feClear]

@[simp] theorem propose_keep (k st cause : Nat) (s : State) : keep (propose k st cause s) = keep s := by
  simp [propose]

@[simp] theorem applyRules_keep (s : State) : keep (applyRules s) = keep s := by
  simp [applyRules]

@[simp] theorem nvRule_keep (k : Nat) (f : Entry → Entry) (s : State) : keep (nvRule k f s) = keep s := by
  simp [nvRule]

@[simp] theorem suspectTimeout_keep (k : Nat) (s : State) : keep (suspectTimeout k s) = keep s := by
  simp [suspectTimeout]

@[simp] theorem suspectRecover_keep (k : Nat) (s : State) : keep (suspectRecover k s) = keep s := by
  simp [suspectRecover]

@[simp] theorem missedLimit_keep (k : Nat) (s : State) : keep (missedLimit k s) = keep s := by
  simp [missedLimit]

@[simp] theorem skipLimit_keep (k : Nat) (s : State) : keep (skipLimit k s) = keep s := by
  simp [skipLimit]

@[simp] theorem misFault_keep (k : Nat) (s : State) : keep (misFault k s) = keep s := by
  simp only [misFault]; (repeat' split) <;> simp

@[simp] theorem discRule_keep (k : Nat) (s : State) : keep (discRule k s) = keep s := by
  simp only [discRule]; (repeat' split) <;> simp

@[simp] theorem cellRules_keep (s : State) : keep (cellRules s) = keep s := by
  simp [cellRules]

@[simp] theorem countAvail_keep (s : State) : keep (countAvail s) = keep s := by
  simp [countAvail]

@[simp] theorem vtgtPass_keep (r : Nat) (s : State) : keep (vtgtPass r s) = keep s := by
  simp only [vtgtPass]; (repeat' split) <;> simp

@[simp] theorem spareStage_keep (s : State) : keep (spareStage s) = keep s := by
  simp [spareStage]

@[simp] theorem markDirty_keep (ks : List Nat) (s : State) : keep (markDirty ks s) = keep s := by
  simp [markDirty]

@[simp] theorem obsClBlock_keep (k : Nat) (s : State) : keep (obsClBlock k s) = keep s := by
  simp only [obsClBlock]; (repeat' split) <;> simp

@[simp] theorem obsReseed_keep (k : Nat) (s : State) : keep (obsReseed k s) = keep s := by
  simp [obsReseed]

@[simp] theorem rptImpl_keep (k : Nat) (r : Rpt) (s : State) : keep (rptImpl k r s) = keep s := by
  simp [rptImpl]

@[simp] theorem rptApply_keep (k : Nat) (r : Rpt) (err : Int) (s : State) : keep (rptApply k r err s) = keep s := by
  simp [rptApply]

@[simp] theorem obsReport_keep (r : Rpt) (s : State) : keep (obsReport r s) = keep s := by
  simp [obsReport]

@[simp] theorem obsMissing_keep (k : Nat) (s : State) : keep (obsMissing k s) = keep s := by
  simp [obsMissing]

@[simp] theorem trendPoint_keep (s : State) : keep (trendPoint s) = keep s := by
  simp [trendPoint]

@[simp] theorem wearRise_keep (k : Nat) (s : State) : keep (wearRise k s) = keep s := by
  simp [wearRise]

@[simp] theorem lossClear_keep (s : State) : keep (lossClear s) = keep s := by
  simp only [lossClear]; (repeat' split) <;> simp

@[simp] theorem obsStage_keep (t0 : Nat) (s : State) : keep (obsStage t0 s) = keep s := by
  simp [obsStage]

@[simp] theorem obsSums_keep (s : State) : keep (obsSums s) = keep s := by
  simp [obsSums]

@[simp] theorem senseStage_keep (s : State) : keep (senseStage s) = keep s := by
  simp [senseStage]

@[simp] theorem tripLane_keep (a mask t k : Nat) (s : State) : keep (tripLane a mask t k s) = keep s := by
  simp [tripLane]

@[simp] theorem tripEvent_keep (a mask t : Nat) (s : State) : keep (tripEvent a mask t s) = keep s := by
  simp [tripEvent]

@[simp] theorem tripUpdate_keep (t : Nat) (s : State) : keep (tripUpdate t s) = keep s := by
  simp [tripUpdate]

@[simp] theorem injectSafeBlock_keep (cause detail t : Nat) (s : State) :
    keep (injectSafeBlock cause detail t s) = keep s := by
  simp [injectSafeBlock]

@[simp] theorem askSafeStop_keep (cause : Nat) (s : State) : keep (askSafeStop cause s) = keep s := by
  simp [askSafeStop]

@[simp] theorem askSafeBlock_keep (cause : Nat) (s : State) : keep (askSafeBlock cause s) = keep s := by
  simp [askSafeBlock]

@[simp] theorem tgReact_keep (code t : Nat) (s : State) : keep (tgReact code t s) = keep s := by
  simp [tgReact]

@[simp] theorem raiseLatch_keep (i : Nat) (s : State) : keep (raiseLatch i s) = keep s := by
  simp [raiseLatch]

@[simp] theorem latchAgain_keep (i : Nat) (stamp : Option Nat) (s : State) : keep (latchAgain i stamp s) = keep s := by
  simp [latchAgain]

@[simp] theorem latchSet_keep (i : Nat) (stamp : Option Nat) (s : State) : keep (latchSet i stamp s) = keep s := by
  simp [latchSet]

@[simp] theorem latchInfo_keep (before after : State) (i : Nat) (s : State) :
    keep (latchInfo before after i s) = keep s := by
  simp [latchInfo]

@[simp] theorem tripLatch_keep (is_ : List Nat) (stamp : Option Nat) (t : Nat) (s : State) :
    keep (tripLatch is_ stamp t s) = keep s := by
  simp [tripLatch]

@[simp] theorem tripFilterPass_keep (i t : Nat) (s : State) : keep (tripFilterPass i t s) = keep s := by
  simp [tripFilterPass]

@[simp] theorem holdEscalate_keep (r : Nat) (s : State) : keep (holdEscalate r s) = keep s := by
  simp [holdEscalate]

@[simp] theorem holdStage_keep (s : State) : keep (holdStage s) = keep s := by
  simp [holdStage]

@[simp] theorem holdEnd_keep (s : State) : keep (holdEnd s) = keep s := by
  simp [holdEnd]

@[simp] theorem tripConfigure_keep (s : State) : keep (tripConfigure s) = keep s := by
  simp [tripConfigure]

@[simp] theorem tripSettle_keep (s : State) : keep (tripSettle s) = keep s := by
  simp [tripSettle]

@[simp] theorem trpClear_keep (c : Ctx) (inputs : Nat) (tg : Bool) (idle : List Nat) (s : State) :
    keep (trpClear c inputs tg idle s) = keep s := by
  simp only [trpClear]; (repeat' split) <;> simp

@[simp] theorem tripClearRim_keep (s : State) : keep (tripClearRim s) = keep s := by
  simp [tripClearRim]

@[simp] theorem tripClearReplies_keep (old : State) (n : Nat) (s : State) :
    keep (tripClearReplies old n s) = keep s := by
  simp [tripClearReplies]

@[simp] theorem trpTest_keep (c : Ctx) (inputs : Nat) (s : State) : keep (trpTest c inputs s) = keep s := by
  simp [trpTest]

@[simp] theorem hostTrpClear_keep (h : CmdHdr) (inputs : Nat) (tg : Bool) (idle : List Nat) (s_ : State) :
    keep (hostTrpClear h inputs tg idle s_) = keep s_ := by
  simp [hostTrpClear]

@[simp] theorem hostTrpTest_keep (h : CmdHdr) (inputs : Nat) (s_ : State) :
    keep (hostTrpTest h inputs s_) = keep s_ := by
  simp [hostTrpTest]

@[simp] theorem hostFcs1TripReset_keep (h : CmdHdr) (inputs : Nat) (idle : List Nat) (s_ : State) :
    keep (hostFcs1TripReset h inputs idle s_) = keep s_ := by
  simp [hostFcs1TripReset]

@[simp] theorem sbkEnv_keep (r : Nat) (s : State) : keep (sbkEnv r s) = keep s := by
  simp [sbkEnv]

@[simp] theorem stopStage_keep (s : State) : keep (stopStage s) = keep s := by
  simp only [stopStage]; (repeat' split) <;> simp

@[simp] theorem vrestStage_keep (s : State) : keep (vrestStage s) = keep s := by
  simp only [vrestStage]; (repeat' split) <;> simp

@[simp] theorem safeStopComplete_keep (s : State) : keep (safeStopComplete s) = keep s := by
  simp only [safeStopComplete]; (repeat' split) <;> simp

@[simp] theorem tgHeard_keep (lan t : Nat) (s : State) : keep (tgHeard lan t s) = keep s := by
  simp [tgHeard]

@[simp] theorem tgBad_keep (s : State) : keep (tgBad s) = keep s := by
  simp [tgBad]

@[simp] theorem tgMatch_keep (body : List Byte) (t : Nat) (s : State) : keep (tgMatch body t s) = keep s := by
  simp only [tgMatch]; (repeat' split) <;> simp

@[simp] theorem tgRequest_keep (lan : Nat) (body : List Byte) (t : Nat) (s : State) :
    keep (tgRequest lan body t s) = keep s := by
  simp only [tgRequest]; (repeat' split) <;> simp

@[simp] theorem telegramReceive_keep (lan : Nat) (bytes : List Byte) (t : Nat) (s : State) :
    keep (telegramReceive lan bytes t s) = keep s := by
  simp only [telegramReceive]; (repeat' split) <;> simp

@[simp] theorem tgLoss_keep (lan : Nat) (s : State) : keep (tgLoss lan s) = keep s := by
  simp [tgLoss]

@[simp] theorem tgSilence_keep (t : Nat) (s : State) : keep (tgSilence t s) = keep s := by
  simp [tgSilence]

@[simp] theorem tgStage_keep (s : State) : keep (tgStage s) = keep s := by
  simp [tgStage]

@[simp] theorem testAbort_keep (sel : TestEdge → Bool) (s : State) : keep (testAbort sel s) = keep s := by
  simp [testAbort]

@[simp] theorem testEnd_keep (sel : Nat → Bool) (s : State) : keep (testEnd sel s) = keep s := by
  simp [testEnd]

@[simp] theorem testHoldExpire_keep (k : Nat) (s : State) : keep (testHoldExpire k s) = keep s := by
  simp [testHoldExpire]

@[simp] theorem testEnds_keep (s : State) : keep (testEnds s) = keep s := by
  simp only [testEnds]; (repeat' split) <;> simp

@[simp] theorem firStage_keep (s0 : State) : keep (firStage s0) = keep s0 := by
  have h : ∀ x : State, keep (testEnds x) = keep x := testEnds_keep
  simp only [firStage]
  generalize hs : testEnds _ = s1
  have h1 : keep s1 = keep s0 := by
    rw [← hs, h]
    (repeat' split) <;> simp
  simp [h1]

@[simp] theorem firTestEdge_keep (c : Ctx) (k code time : Nat) (s : State) :
    keep (firTestEdge c k code time s) = keep s := by
  simp [firTestEdge]

@[simp] theorem firTestEnd_keep (c : Ctx) (k : Nat) (s : State) : keep (firTestEnd c k s) = keep s := by
  simp [firTestEnd]

@[simp] theorem hostFirTestEdge_keep (h : CmdHdr) (entry code time : Nat) (s_ : State) :
    keep (hostFirTestEdge h entry code time s_) = keep s_ := by
  simp [hostFirTestEdge]

@[simp] theorem hostFirTestEnd_keep (h : CmdHdr) (entry : Nat) (s_ : State) :
    keep (hostFirTestEnd h entry s_) = keep s_ := by
  simp [hostFirTestEnd]

@[simp] theorem cellWait_keep (c : Ctx) (op : CellOp) (bound16 forced : Bool) (s : State) :
    keep (cellWait c op bound16 forced s) = keep s := by
  simp [cellWait]

@[simp] theorem refuseAt_keep (c : Ctx) (status k : Nat) (s : State) : keep (refuseAt c status k s) = keep s := by
  simp [refuseAt]

@[simp] theorem cellBind_keep (c : Ctx) (b : BindArgs) (s : State) : keep (cellBind c b s) = keep s := by
  simp only [cellBind]; (repeat' split) <;> simp

@[simp] theorem cellRange_keep (c : Ctx) (op : CellOp) (first count : Nat) (ok : Entry → Bool) (takes : Bool) (bound16 : Bool) (s : State) :
    keep (cellRange c op first count ok takes bound16 s) = keep s := by
  simp only [cellRange]; (repeat' split) <;> simp

@[simp] theorem cellUnbind_keep (c : Ctx) (first count : Nat) (s : State) :
    keep (cellUnbind c first count s) = keep s := by
  simp [cellUnbind]

@[simp] theorem cellBlock_keep (c : Ctx) (first count : Nat) (s : State) :
    keep (cellBlock c first count s) = keep s := by
  simp [cellBlock]

@[simp] theorem cellRelease_keep (c : Ctx) (first count : Nat) (s : State) :
    keep (cellRelease c first count s) = keep s := by
  simp [cellRelease]

@[simp] theorem cellBypass_keep (c : Ctx) (first count : Nat) (s : State) :
    keep (cellBypass c first count s) = keep s := by
  simp [cellBypass]

@[simp] theorem cellReplace_keep (c : Ctx) (k cellId : Nat) (s : State) : keep (cellReplace c k cellId s) = keep s := by
  simp [cellReplace]

@[simp] theorem cellSet_keep (c : Ctx) (k mask minInt cNom : Nat) (s : State) :
    keep (cellSet c k mask minInt cNom s) = keep s := by
  simp [cellSet]

@[simp] theorem cellLoad_keep (c : Ctx) (first : Nat) (ps : List (List Byte)) (s : State) :
    keep (cellLoad c first ps s) = keep s := by
  simp only [cellLoad]; (repeat' split) <;> simp

@[simp] theorem cellClear_keep (c : Ctx) (first count : Nat) (s : State) :
    keep (cellClear c first count s) = keep s := by
  simp [cellClear]

@[simp] theorem pcClear_keep (lane slot : Nat) (s : State) : keep (pcClear lane slot s) = keep s := by
  simp [pcClear]

@[simp] theorem mgtSend_keep (lane : Nat) (m : Mgt) (s : State) : keep (mgtSend lane m s) = keep s := by
  simp [mgtSend]

@[simp] theorem slotLeft_keep (e : Entry) (s : State) : keep (slotLeft e s) = keep s := by
  simp only [slotLeft]; (repeat' split) <;> simp

@[simp] theorem cellPut_keep (op : CellOp) (x : Nat × Entry) (s : State) : keep (cellPut op x s) = keep s := by
  simp only [cellPut]; (repeat' split) <;> simp

@[simp] theorem cellApply_keep (p : PendCell) (s : State) : keep (cellApply p s).1 = keep s := by
  simp [cellApply]

@[simp] theorem cellRim_keep (next : Nat) (s : State) : keep (cellRim next s).1 = keep s := by
  simp only [cellRim]
  exact (foldl_fst_kept keep _ _ _ (fun a x => by simp)).trans (by simp)

@[simp] theorem cellReply_keep (n : Nat) (p : PendCell × List Nat) (s : State) : keep (cellReply n p s) = keep s := by
  simp [cellReply]

@[simp] theorem hostCellBind_keep (h : CmdHdr) (b : BindArgs) (s_ : State) : keep (hostCellBind h b s_) = keep s_ := by
  simp [hostCellBind]

@[simp] theorem hostCellUnbind_keep (h : CmdHdr) (k n : Nat) (s_ : State) :
    keep (hostCellUnbind h k n s_) = keep s_ := by
  simp [hostCellUnbind]

@[simp] theorem hostCellBlock_keep (h : CmdHdr) (k n : Nat) (s_ : State) : keep (hostCellBlock h k n s_) = keep s_ := by
  simp [hostCellBlock]

@[simp] theorem hostCellRelease_keep (h : CmdHdr) (k n : Nat) (s_ : State) :
    keep (hostCellRelease h k n s_) = keep s_ := by
  simp [hostCellRelease]

@[simp] theorem hostCellBypass_keep (h : CmdHdr) (k n : Nat) (s_ : State) :
    keep (hostCellBypass h k n s_) = keep s_ := by
  simp [hostCellBypass]

@[simp] theorem hostCellReplace_keep (h : CmdHdr) (k id_ : Nat) (s_ : State) :
    keep (hostCellReplace h k id_ s_) = keep s_ := by
  simp [hostCellReplace]

@[simp] theorem hostCellSet_keep (h : CmdHdr) (k m i n : Nat) (s_ : State) :
    keep (hostCellSet h k m i n s_) = keep s_ := by
  simp [hostCellSet]

@[simp] theorem hostCellLoad_keep (h : CmdHdr) (f : Nat) (ps : List (List Byte)) (s_ : State) :
    keep (hostCellLoad h f ps s_) = keep s_ := by
  simp [hostCellLoad]

@[simp] theorem hostCellClear_keep (h : CmdHdr) (k n : Nat) (s_ : State) : keep (hostCellClear h k n s_) = keep s_ := by
  simp [hostCellClear]

@[simp] theorem hostFcs1CellAdd_keep (h : CmdHdr) (b : BindArgs) (s_ : State) :
    keep (hostFcs1CellAdd h b s_) = keep s_ := by
  simp [hostFcs1CellAdd]

@[simp] theorem hostFcs1CellRemove_keep (h : CmdHdr) (k : Nat) (s_ : State) :
    keep (hostFcs1CellRemove h k s_) = keep s_ := by
  simp [hostFcs1CellRemove]

@[simp] theorem hostFcs1CellBlock_keep (h : CmdHdr) (k : Nat) (s_ : State) :
    keep (hostFcs1CellBlock h k s_) = keep s_ := by
  simp [hostFcs1CellBlock]

@[simp] theorem hostFcs1CellUnblock_keep (h : CmdHdr) (k : Nat) (s_ : State) :
    keep (hostFcs1CellUnblock h k s_) = keep s_ := by
  simp [hostFcs1CellUnblock]

@[simp] theorem hostFcs1CellBypass_keep (h : CmdHdr) (k : Nat) (s_ : State) :
    keep (hostFcs1CellBypass h k s_) = keep s_ := by
  simp [hostFcs1CellBypass]

@[simp] theorem hostFcs1CellSwap_keep (h : CmdHdr) (k id_ : Nat) (s_ : State) :
    keep (hostFcs1CellSwap h k id_ s_) = keep s_ := by
  simp [hostFcs1CellSwap]

end Sys2Proof.Machine
end

