-- ==== Sys2Proof/Laws/KeepLanes.lean ====
section
/-! SUPPORT. What an operation leaves as it is: the lanes, time, the recorders, the fault collector and the scheduler. -/

namespace Sys2Proof.Machine

open Sys2Proof

@[simp] theorem State_modLn_keep (k : Nat) (f : LaneS → LaneS) (s : State) : keep (State.modLn k f s) = keep s := by
  simp [State.modLn]

@[simp] theorem State_modCv_keep (k : Nat) (f : CevLane → CevLane) (s : State) : keep (State.modCv k f s) = keep s := by
  simp [State.modCv]

@[simp] theorem fireP_keep (sel : Nat → Bool) (s : State) : keep (fireP sel s) = keep s := by
  simp [fireP]

@[simp] theorem laneLeave_keep (k : Nat) (s : State) : keep (laneLeave k s) = keep s := by
  simp [laneLeave]

@[simp] theorem laneToDetect_keep (k st : Nat) (s : State) : keep (laneToDetect k st s) = keep s := by
  simp [laneToDetect]

@[simp] theorem laneFail_keep (k cause : Nat) (s : State) : keep (laneFail k cause s) = keep s := by
  simp [laneFail]

@[simp] theorem lightDetect_keep (k : Nat) (s : State) : keep (lightDetect k s) = keep s := by
  simp [lightDetect]

@[simp] theorem detectFlag_keep (k : Nat) (s : State) : keep (detectFlag k s) = keep s := by
  simp [detectFlag]

@[simp] theorem dwellEnd_keep (k w h clean : Nat) (dsErr : Bool) (s : State) :
    keep (dwellEnd k w h clean dsErr s) = keep s := by
  simp only [dwellEnd]; (repeat' split) <;> simp

@[simp] theorem alignLock_keep (k : Nat) (rxInv : Bool) (dsInv : List Bool) (s : State) :
    keep (alignLock k rxInv dsInv s) = keep s := by
  simp [alignLock]

@[simp] theorem alignTo_keep (k : Nat) (s : State) : keep (alignTo k s) = keep s := by
  simp [alignTo]

@[simp] theorem capsTo_keep (k : Nat) (s : State) : keep (capsTo k s) = keep s := by
  simp [capsTo]

@[simp] theorem assignTo_keep (k i : Nat) (c : Seen) (s : State) : keep (assignTo k i c s) = keep s := by
  simp only [assignTo]; (repeat' split) <;> simp

@[simp] theorem assignPass_keep (k : Nat) (byId : Bool) (s : State) : keep (assignPass k byId s) = keep s := by
  simp only [assignPass]
  (repeat' (first | split | (refine (keep_foldl _ _ _ (fun a x => ?_)).trans ?_))) <;> first | (simp; done) | (simp_all; done)

@[simp] theorem assignLane_keep (k : Nat) (s : State) : keep (assignLane k s) = keep s := by
  simp [assignLane]

@[simp] theorem gather_keep (k port : Nat) (c : Seen) (s : State) : keep (gather k port c s) = keep s := by
  simp [gather]

@[simp] theorem capsQuiet_keep (k : Nat) (s : State) : keep (capsQuiet k s) = keep s := by
  simp [capsQuiet]

@[simp] theorem weaveForm_keep (k : Nat) (s : State) : keep (weaveForm k s) = keep s := by
  simp [weaveForm]

@[simp] theorem weaveEpoch_keep (k : Nat) (s : State) : keep (weaveEpoch k s) = keep s := by
  simp only [weaveEpoch]; (repeat' split) <;> simp

@[simp] theorem discRound_keep (k : Nat) (s : State) : keep (discRound k s) = keep s := by
  simp [discRound]

@[simp] theorem discTo_keep (k : Nat) (s : State) : keep (discTo k s) = keep s := by
  simp [discTo]

@[simp] theorem retryWaitEnd_keep (k : Nat) (s : State) : keep (retryWaitEnd k s) = keep s := by
  simp [retryWaitEnd]

@[simp] theorem rangeFail_keep (k : Nat) (s : State) : keep (rangeFail k s) = keep s := by
  simp only [rangeFail]; (repeat' split) <;> simp

@[simp] theorem setDelay_keep (k i d : Nat) (s : State) : keep (setDelay k i d s) = keep s := by
  simp [setDelay]

@[simp] theorem rangeAccept_keep (k d : Nat) (pc : Option PcE) (s : State) : keep (rangeAccept k d pc s) = keep s := by
  simp only [rangeAccept]; (repeat' split) <;> simp

@[simp] theorem rangeJudge_keep (k tLock : Nat) (asym lag : Int) (pc : Option PcE) (s : State) :
    keep (rangeJudge k tLock asym lag pc s) = keep s := by
  simp only [rangeJudge]; (repeat' split) <;> simp

@[simp] theorem burstErr_keep (b : Burst) (s : State) : keep (burstErr b s) = keep s := by
  simp only [burstErr]; split <;> simp

@[simp] theorem rangingBurst_keep (b : Burst) (s0 : State) : keep (rangingBurst b s0) = keep s0 := by
  simp only [rangingBurst]; (repeat' split) <;> simp

@[simp] theorem beacon_keep (b : Burst) (s0 : State) : keep (beacon b s0) = keep s0 := by
  simp [beacon]

@[simp] theorem announce_keep (b : Burst) (s0 : State) : keep (announce b s0) = keep s0 := by
  simp [announce]

@[simp] theorem pcStale_keep (k slot : Nat) (s : State) : keep (pcStale k slot s) = keep s := by
  simp [pcStale]

@[simp] theorem reportBad_keep (k i slot : Nat) (s : State) : keep (reportBad k i slot s) = keep s := by
  simp [reportBad]

@[simp] theorem lockFail_keep (k slot : Nat) (s : State) : keep (lockFail k slot s) = keep s := by
  simp only [lockFail]; (repeat' split) <;> simp

@[simp] theorem burstLockFail_keep (k slot : Nat) (s : State) : keep (burstLockFail k slot s) = keep s := by
  simp [burstLockFail]

@[simp] theorem reportTake_keep (k : Nat) (r : Rpt) (s : State) : keep (reportTake k r s) = keep s := by
  simp [reportTake]

@[simp] theorem deltaTake_keep (b : Burst) (s : State) : keep (deltaTake b s) = keep s := by
  simp [deltaTake]

@[simp] theorem reportBurst_keep (b : Burst) (s0 : State) : keep (reportBurst b s0) = keep s0 := by
  simp only [reportBurst]; (repeat' split) <;> simp

@[simp] theorem c1RoundEnd_keep (k : Nat) (s : State) : keep (c1RoundEnd k s) = keep s := by
  simp [c1RoundEnd]

@[simp] theorem c1Report_keep (k : Nat) (b : List Byte) (t : Nat) (s0 : State) :
    keep (c1Report k b t s0) = keep s0 := by
  simp only [c1Report]; (repeat' split) <;> simp

@[simp] theorem c1Answer_keep (k : Nat) (b : List Byte) (tLock : Nat) (s : State) :
    keep (c1Answer k b tLock s) = keep s := by
  simp [c1Answer]

@[simp] theorem c1Capability_keep (k : Nat) (b : List Byte) (t : Nat) (s0 : State) :
    keep (c1Capability k b t s0) = keep s0 := by
  simp [c1Capability]

@[simp] theorem reportRules_keep (r : Rpt) (s : State) : keep (reportRules r s).1 = keep s := by
  simp only [reportRules]; (repeat' split) <;> simp

@[simp] theorem reportStage_keep (s : State) : keep (reportStage s) = keep s := by
  simp [reportStage]

@[simp] theorem learnCell_keep (i : Nat) (c : Seen) (s : State) : keep (learnCell i c s) = keep s := by
  simp only [learnCell]; (repeat' split) <;> simp

@[simp] theorem foundRule_keep (i : Nat) (s : State) : keep (foundRule i s) = keep s := by
  simp only [foundRule]; (repeat' split) <;> simp

@[simp] theorem foundStage_keep (s : State) : keep (foundStage s) = keep s := by
  simp [foundStage]

@[simp] theorem laneLost_keep (k : Nat) (s : State) : keep (laneLost k s) = keep s := by
  simp [laneLost]

@[simp] theorem lnkLos_keep (k : Nat) (s : State) : keep (lnkLos k s) = keep s := by
  simp [lnkLos]

@[simp] theorem losStep_keep (k : Nat) (s : State) : keep (losStep k s) = keep s := by
  simp [losStep]

@[simp] theorem missStep_keep (k m len : Nat) (s : State) : keep (missStep k m len s) = keep s := by
  simp [missStep]

@[simp] theorem laneStep_keep (k : Nat) (s : State) : keep (laneStep k s) = keep s := by
  simp [laneStep]

@[simp] theorem lanesRim_keep (m len : Nat) (s : State) : keep (lanesRim m len s) = keep s := by
  simp [lanesRim]

@[simp] theorem laneDomainOff_keep (k : Nat) (s : State) : keep (laneDomainOff k s) = keep s := by
  simp [laneDomainOff]

@[simp] theorem restartReplies_keep (n : Nat) (s : State) : keep (restartReplies n s) = keep s := by
  simp [restartReplies]

@[simp] theorem rangeStart_keep (k : Nat) (s : State) : keep (rangeStart k s) = keep s := by
  simp only [rangeStart]; (repeat' split) <;> simp

@[simp] theorem rangeStep_keep (k : Nat) (s : State) : keep (rangeStep k s) = keep s := by
  simp only [rangeStep]; (repeat' split) <;> simp

@[simp] theorem sendFrame_keep (len k : Nat) (s : State) : keep (sendFrame len k s) = keep s := by
  simp only [sendFrame]
  split
  · simp
  · rw [State_emit_keep]; simp

@[simp] theorem lanesSend_keep (len : Nat) (s : State) : keep (lanesSend len s) = keep s := by
  simp [lanesSend]

@[simp] theorem lnkRestart_keep (c : Ctx) (mask : Nat) (s : State) : keep (lnkRestart c mask s) = keep s := by
  simp [lnkRestart]

@[simp] theorem hostLnkRestart_keep (h : CmdHdr) (mask : Nat) (s_ : State) :
    keep (hostLnkRestart h mask s_) = keep s_ := by
  simp [hostLnkRestart]

@[simp] theorem hostFcs1LinkReset_keep (h : CmdHdr) (mask : Nat) (s_ : State) :
    keep (hostFcs1LinkReset h mask s_) = keep s_ := by
  simp [hostFcs1LinkReset]

@[simp] theorem State_modDom_keep (d : Nat) (f : TDom → TDom) (s : State) : keep (State.modDom d f s) = keep s := by
  simp [State.modDom]

@[simp] theorem validity_keep (before : State) (s : State) : keep (validity before s) = keep s := by
  simp [validity]

@[simp] theorem ptpAnnounce_keep (port domain : Nat) (ds : MasterDs) (s : State) :
    keep (ptpAnnounce port domain ds s) = keep s := by
  simp [ptpAnnounce]

@[simp] theorem ptpAnnounceTimeout_keep (port domain : Nat) (s : State) :
    keep (ptpAnnounceTimeout port domain s) = keep s := by
  simp [ptpAnnounceTimeout]

@[simp] theorem ptpSyncLoss_keep (d : Nat) (s : State) : keep (ptpSyncLoss d s) = keep s := by
  simp [ptpSyncLoss]

@[simp] theorem timeStep_keep (s : State) : keep (timeStep s) = keep s := by
  simp only [timeStep]; (repeat' split) <;> simp

@[simp] theorem freqGoal_keep (u : Nat) (s : State) : keep (freqGoal u s) = keep s := by
  simp only [freqGoal]; (repeat' split) <;> simp

@[simp] theorem phaseGoal_keep (u : Nat) (theta : Int) (s : State) : keep (phaseGoal u theta s) = keep s := by
  simp [phaseGoal]

@[simp] theorem syncDone_keep (d : Nat) (t1 t2g : Int) (s : State) : keep (syncDone d t1 t2g s) = keep s := by
  simp only [syncDone]; (repeat' split) <;> simp

@[simp] theorem ptpSync_keep (m : SyncMsg) (s : State) : keep (ptpSync m s) = keep s := by
  simp [ptpSync]

@[simp] theorem ptpFollowUp_keep (m : SyncMsg) (s : State) : keep (ptpFollowUp m s) = keep s := by
  simp only [ptpFollowUp]
  (repeat' (first | split | (refine (keep_foldl _ _ _ (fun a x => ?_)).trans ?_))) <;> first | (simp; done) | (simp_all; done)

@[simp] theorem ptpPdelayReq_keep (port seqId raw16 : Nat) (s : State) :
    keep (ptpPdelayReq port seqId raw16 s) = keep s := by
  simp [ptpPdelayReq]

@[simp] theorem ptpPdelayResp_keep (m : PdelayMsg) (s : State) : keep (ptpPdelayResp m s) = keep s := by
  simp [ptpPdelayResp]

@[simp] theorem pdelayReqTimer_keep (s : State) : keep (pdelayReqTimer s) = keep s := by
  simp [pdelayReqTimer]

@[simp] theorem ethLinkChange_keep (port : Nat) (up : Bool) (s : State) : keep (ethLinkChange port up s) = keep s := by
  simp [ethLinkChange]

@[simp] theorem toutFire_keep (i : Nat) (s : State) : keep (toutFire i s) = keep s := by
  simp [toutFire]

@[simp] theorem toutPulseEnd_keep (i : Nat) (s : State) : keep (toutPulseEnd i s) = keep s := by
  simp [toutPulseEnd]

@[simp] theorem toutRun_keep (a_ b_ c_ : Nat) (s_ : State) : keep (toutRun a_ b_ c_ s_) = keep s_ := by
  induction a_ generalizing s_ with
  | zero => rfl
  | succ n ih =>
    simp only [toutRun]
    split
    · simp [ih]
    · split <;> simp [ih]

@[simp] theorem toutSweep_keep (g : Nat) (s : State) : keep (toutSweep g s) = keep s := by
  simp [toutSweep]

@[simp] theorem pairPulse_keep (count g : Nat) (s : State) : keep (pairPulse count g s) = keep s := by
  simp [pairPulse]

@[simp] theorem toutArm_keep (c : Ctx) (a : ToutArgs) (s : State) : keep (toutArm c a s) = keep s := by
  simp [toutArm]

@[simp] theorem toutStop_keep (c : Ctx) (i : Nat) (s : State) : keep (toutStop c i s) = keep s := by
  simp [toutStop]

@[simp] theorem timeSelect_keep (c : Ctx) (d : Nat) (s : State) : keep (timeSelect c d s) = keep s := by
  simp [timeSelect]

@[simp] theorem timeStepNow_keep (c : Ctx) (s : State) : keep (timeStepNow c s) = keep s := by
  simp only [timeStepNow]; (repeat' split) <;> simp

@[simp] theorem timeSwitch_keep (n : Nat) (s : State) : keep (timeSwitch n s) = keep s := by
  simp only [timeSwitch]; (repeat' split) <;> simp

@[simp] theorem timeStepRim_keep (n g : Nat) (s : State) : keep (timeStepRim n g s) = keep s := by
  simp only [timeStepRim]; (repeat' split) <;> simp

@[simp] theorem servoRim_keep (k : Nat) (s : State) : keep (servoRim k s) = keep s := by
  simp [servoRim]

@[simp] theorem alignRim_keep (k g P : Nat) (s : State) : keep (alignRim k g P s) = keep s := by
  simp [alignRim]

@[simp] theorem timeConfigure_keep (old : State) (s : State) : keep (timeConfigure old s) = keep s := by
  simp [timeConfigure]

@[simp] theorem pllLock_keep (band us : Nat) (s : State) : keep (pllLock band us s) = keep s := by
  simp [pllLock]

@[simp] theorem syncArm_keep (s : State) : keep (syncArm s) = keep s := by
  simp [syncArm]

@[simp] theorem syncInTimeout_keep (s : State) : keep (syncInTimeout s) = keep s := by
  simp [syncInTimeout]

@[simp] theorem hostToutArm_keep (h : CmdHdr) (a : ToutArgs) (s_ : State) : keep (hostToutArm h a s_) = keep s_ := by
  simp [hostToutArm]

@[simp] theorem hostToutStop_keep (h : CmdHdr) (i : Nat) (s_ : State) : keep (hostToutStop h i s_) = keep s_ := by
  simp [hostToutStop]

@[simp] theorem hostTimeSelect_keep (h : CmdHdr) (d : Nat) (s_ : State) : keep (hostTimeSelect h d s_) = keep s_ := by
  simp [hostTimeSelect]

@[simp] theorem hostTimeStepNow_keep (h : CmdHdr) (s_ : State) : keep (hostTimeStepNow h s_) = keep s_ := by
  simp [hostTimeStepNow]

@[simp] theorem trcHeader_keep_pending (st : Nat) (s : State) : (keep (trcHeader st s)).pending = (keep s).pending := by
  simp [trcHeader, pending_eq]

@[simp] theorem trcHeader_keep_st (st : Nat) (s : State) : (keep (trcHeader st s)).st = (keep s).st := by
  simp [trcHeader, st_eq]

@[simp] theorem trcHeader_keep_grid (st : Nat) (s : State) : (keep (trcHeader st s)).grid = (keep s).grid := by
  simp [trcHeader, grid_eq]

@[simp] theorem trcHeader_keep_len (st : Nat) (s : State) : (keep (trcHeader st s)).len = (keep s).len := by
  simp [trcHeader, len_eq]

@[simp] theorem trcHeader_keep_pub (st : Nat) (s : State) : (keep (trcHeader st s)).pub = (keep s).pub := by
  simp [trcHeader, pub_eq]

@[simp] theorem fireOut_keep (code : Nat) (s : State) : keep (fireOut code s) = keep s := by
  simp only [fireOut]; (repeat' split) <;> simp

@[simp] theorem trcTrig_keep_pending (code slot t : Nat) (s : State) :
    (keep (trcTrig code slot t s)).pending = (keep s).pending := by
  simp only [trcTrig]; (repeat' split) <;> simp [pending_eq]

@[simp] theorem trcTrig_keep_st (code slot t : Nat) (s : State) : (keep (trcTrig code slot t s)).st = (keep s).st := by
  simp only [trcTrig]; (repeat' split) <;> simp [st_eq]

@[simp] theorem trcTrig_keep_grid (code slot t : Nat) (s : State) :
    (keep (trcTrig code slot t s)).grid = (keep s).grid := by
  simp only [trcTrig]; (repeat' split) <;> simp [grid_eq]

@[simp] theorem trcTrig_keep_len (code slot t : Nat) (s : State) :
    (keep (trcTrig code slot t s)).len = (keep s).len := by
  simp [trcTrig, len_eq]

@[simp] theorem trcTrig_keep_pub (code slot t : Nat) (s : State) :
    (keep (trcTrig code slot t s)).pub = (keep s).pub := by
  simp only [trcTrig]; (repeat' split) <;> simp [pub_eq]

@[simp] theorem trcComplete_keep_pending (flag : Nat) (s : State) :
    (keep (trcComplete flag s)).pending = (keep s).pending := by
  simp [trcComplete, pending_eq]

@[simp] theorem trcComplete_keep_st (flag : Nat) (s : State) : (keep (trcComplete flag s)).st = (keep s).st := by
  simp [trcComplete, st_eq]

@[simp] theorem trcComplete_keep_grid (flag : Nat) (s : State) : (keep (trcComplete flag s)).grid = (keep s).grid := by
  simp [trcComplete, grid_eq]

@[simp] theorem trcComplete_keep_len (flag : Nat) (s : State) : (keep (trcComplete flag s)).len = (keep s).len := by
  simp [trcComplete, len_eq]

@[simp] theorem trcComplete_keep_pub (flag : Nat) (s : State) : (keep (trcComplete flag s)).pub = (keep s).pub := by
  simp [trcComplete, pub_eq]

@[simp] theorem trcPostComplete_keep_pending (s : State) : (keep (trcPostComplete s)).pending = (keep s).pending := by
  simp only [trcPostComplete]; (repeat' split) <;> simp

@[simp] theorem trcPostComplete_keep_st (s : State) : (keep (trcPostComplete s)).st = (keep s).st := by
  simp only [trcPostComplete]; (repeat' split) <;> simp

@[simp] theorem trcPostComplete_keep_grid (s : State) : (keep (trcPostComplete s)).grid = (keep s).grid := by
  simp only [trcPostComplete]; (repeat' split) <;> simp

@[simp] theorem trcPostComplete_keep_len (s : State) : (keep (trcPostComplete s)).len = (keep s).len := by
  simp [trcPostComplete]

@[simp] theorem trcPostComplete_keep_pub (s : State) : (keep (trcPostComplete s)).pub = (keep s).pub := by
  simp only [trcPostComplete]; (repeat' split) <;> simp

@[simp] theorem trcPreFull_keep (s : State) : keep (trcPreFull s) = keep s := by
  simp [trcPreFull]

@[simp] theorem maskHit_keep_pending (slot t : Nat) (s : State) :
    (keep (maskHit slot t s)).pending = (keep s).pending := by
  simp only [maskHit]; (repeat' split) <;> simp [pending_eq]

@[simp] theorem maskHit_keep_st (slot t : Nat) (s : State) : (keep (maskHit slot t s)).st = (keep s).st := by
  simp only [maskHit]; (repeat' split) <;> simp [st_eq]

@[simp] theorem maskHit_keep_grid (slot t : Nat) (s : State) : (keep (maskHit slot t s)).grid = (keep s).grid := by
  simp only [maskHit]; (repeat' split) <;> simp [grid_eq]

@[simp] theorem maskHit_keep_len (slot t : Nat) (s : State) : (keep (maskHit slot t s)).len = (keep s).len := by
  simp [maskHit, len_eq]

@[simp] theorem maskHit_keep_pub (slot t : Nat) (s : State) : (keep (maskHit slot t s)).pub = (keep s).pub := by
  simp only [maskHit]; (repeat' split) <;> simp [pub_eq]

@[simp] theorem trcMaskViolation_keep_pending (slot t : Nat) (v : Int) (s : State) :
    (keep (trcMaskViolation slot t v s)).pending = (keep s).pending := by
  simp only [trcMaskViolation]; (repeat' split) <;> simp [pending_eq]

@[simp] theorem trcMaskViolation_keep_st (slot t : Nat) (v : Int) (s : State) :
    (keep (trcMaskViolation slot t v s)).st = (keep s).st := by
  simp only [trcMaskViolation]; (repeat' split) <;> simp [st_eq]

@[simp] theorem trcMaskViolation_keep_grid (slot t : Nat) (v : Int) (s : State) :
    (keep (trcMaskViolation slot t v s)).grid = (keep s).grid := by
  simp only [trcMaskViolation]; (repeat' split) <;> simp [grid_eq]

@[simp] theorem trcMaskViolation_keep_len (slot t : Nat) (v : Int) (s : State) :
    (keep (trcMaskViolation slot t v s)).len = (keep s).len := by
  simp [trcMaskViolation, len_eq]

@[simp] theorem trcMaskViolation_keep_pub (slot t : Nat) (v : Int) (s : State) :
    (keep (trcMaskViolation slot t v s)).pub = (keep s).pub := by
  simp only [trcMaskViolation]; (repeat' split) <;> simp [pub_eq]

@[simp] theorem ringPut_keep_pending (w : Nat) (s : State) : (keep (ringPut w s)).pending = (keep s).pending := by
  simp [ringPut, pending_eq]

@[simp] theorem ringPut_keep_st (w : Nat) (s : State) : (keep (ringPut w s)).st = (keep s).st := by
  simp [ringPut, st_eq]

@[simp] theorem ringPut_keep_grid (w : Nat) (s : State) : (keep (ringPut w s)).grid = (keep s).grid := by
  simp [ringPut, grid_eq]

@[simp] theorem ringPut_keep_len (w : Nat) (s : State) : (keep (ringPut w s)).len = (keep s).len := by
  simp [ringPut, len_eq]

@[simp] theorem ringPut_keep_pub (w : Nat) (s : State) : (keep (ringPut w s)).pub = (keep s).pub := by
  simp [ringPut, pub_eq]

@[simp] theorem afterPut_keep_pending (s : State) : (keep (afterPut s)).pending = (keep s).pending := by
  simp [afterPut]

@[simp] theorem afterPut_keep_st (s : State) : (keep (afterPut s)).st = (keep s).st := by
  simp [afterPut]

@[simp] theorem afterPut_keep_grid (s : State) : (keep (afterPut s)).grid = (keep s).grid := by
  simp [afterPut]

@[simp] theorem afterPut_keep_len (s : State) : (keep (afterPut s)).len = (keep s).len := by
  simp [afterPut]

@[simp] theorem afterPut_keep_pub (s : State) : (keep (afterPut s)).pub = (keep s).pub := by
  simp [afterPut]

@[simp] theorem putMarker_keep_pending (len : Nat) (s : State) :
    (keep (putMarker len s)).pending = (keep s).pending := by
  simp only [putMarker]; (repeat' split) <;> simp

@[simp] theorem putMarker_keep_st (len : Nat) (s : State) : (keep (putMarker len s)).st = (keep s).st := by
  simp only [putMarker]; (repeat' split) <;> simp

@[simp] theorem putMarker_keep_grid (len : Nat) (s : State) : (keep (putMarker len s)).grid = (keep s).grid := by
  simp only [putMarker]; (repeat' split) <;> simp

@[simp] theorem putMarker_keep_len (len : Nat) (s : State) : (keep (putMarker len s)).len = (keep s).len := by
  simp [putMarker]

@[simp] theorem putMarker_keep_pub (len : Nat) (s : State) : (keep (putMarker len s)).pub = (keep s).pub := by
  simp only [putMarker]; (repeat' split) <;> simp

@[simp] theorem putWord_keep_pending (open_ slot t v flags : Nat) (s : State) :
    (keep (putWord open_ slot t v flags s)).pending = (keep s).pending := by
  simp only [putWord]; (repeat' split) <;> simp [pending_eq]

@[simp] theorem putWord_keep_st (open_ slot t v flags : Nat) (s : State) :
    (keep (putWord open_ slot t v flags s)).st = (keep s).st := by
  simp only [putWord]; (repeat' split) <;> simp [st_eq]

@[simp] theorem putWord_keep_grid (open_ slot t v flags : Nat) (s : State) :
    (keep (putWord open_ slot t v flags s)).grid = (keep s).grid := by
  simp only [putWord]; (repeat' split) <;> simp [grid_eq]

@[simp] theorem putWord_keep_len (open_ slot t v flags : Nat) (s : State) :
    (keep (putWord open_ slot t v flags s)).len = (keep s).len := by
  simp [putWord, len_eq]

@[simp] theorem putWord_keep_pub (open_ slot t v flags : Nat) (s : State) :
    (keep (putWord open_ slot t v flags s)).pub = (keep s).pub := by
  simp only [putWord]; (repeat' split) <;> simp [pub_eq]

@[simp] theorem edgeTest_keep (v : Int) (s : State) : keep (edgeTest v s).1 = keep s := by
  simp [edgeTest]

@[simp] theorem edgeValue_keep_pending (slot t : Nat) (v : Int) (s : State) :
    (keep (edgeValue slot t v s)).pending = (keep s).pending := by
  simp only [edgeValue]; (repeat' split) <;> simp

@[simp] theorem edgeValue_keep_st (slot t : Nat) (v : Int) (s : State) :
    (keep (edgeValue slot t v s)).st = (keep s).st := by
  simp only [edgeValue]; (repeat' split) <;> simp

@[simp] theorem edgeValue_keep_grid (slot t : Nat) (v : Int) (s : State) :
    (keep (edgeValue slot t v s)).grid = (keep s).grid := by
  simp only [edgeValue]; (repeat' split) <;> simp

@[simp] theorem edgeValue_keep_len (slot t : Nat) (v : Int) (s : State) :
    (keep (edgeValue slot t v s)).len = (keep s).len := by
  simp [edgeValue]

@[simp] theorem edgeValue_keep_pub (slot t : Nat) (v : Int) (s : State) :
    (keep (edgeValue slot t v s)).pub = (keep s).pub := by
  simp only [edgeValue]; (repeat' split) <;> simp

@[simp] theorem trcEdgeTrigger_keep_pending (t : Nat) (v : Int) (s : State) :
    (keep (trcEdgeTrigger t v s)).pending = (keep s).pending := by
  simp only [trcEdgeTrigger]; (repeat' split) <;> simp [pending_eq]

@[simp] theorem trcEdgeTrigger_keep_st (t : Nat) (v : Int) (s : State) :
    (keep (trcEdgeTrigger t v s)).st = (keep s).st := by
  simp only [trcEdgeTrigger]; (repeat' split) <;> simp [st_eq]

@[simp] theorem trcEdgeTrigger_keep_grid (t : Nat) (v : Int) (s : State) :
    (keep (trcEdgeTrigger t v s)).grid = (keep s).grid := by
  simp only [trcEdgeTrigger]; (repeat' split) <;> simp [grid_eq]

@[simp] theorem trcEdgeTrigger_keep_len (t : Nat) (v : Int) (s : State) :
    (keep (trcEdgeTrigger t v s)).len = (keep s).len := by
  simp [trcEdgeTrigger, len_eq]

@[simp] theorem trcEdgeTrigger_keep_pub (t : Nat) (v : Int) (s : State) :
    (keep (trcEdgeTrigger t v s)).pub = (keep s).pub := by
  simp only [trcEdgeTrigger]; (repeat' split) <;> simp [pub_eq]

@[simp] theorem blockTake_keep_pending (open_ : Nat) (x : TSample) (s : State) :
    (keep (blockTake open_ x s)).pending = (keep s).pending := by
  simp only [blockTake]; (repeat' split) <;> simp [pending_eq]

@[simp] theorem blockTake_keep_st (open_ : Nat) (x : TSample) (s : State) :
    (keep (blockTake open_ x s)).st = (keep s).st := by
  simp only [blockTake]; (repeat' split) <;> simp [st_eq]

@[simp] theorem blockTake_keep_grid (open_ : Nat) (x : TSample) (s : State) :
    (keep (blockTake open_ x s)).grid = (keep s).grid := by
  simp only [blockTake]; (repeat' split) <;> simp [grid_eq]

@[simp] theorem blockTake_keep_len (open_ : Nat) (x : TSample) (s : State) :
    (keep (blockTake open_ x s)).len = (keep s).len := by
  simp [blockTake, len_eq]

@[simp] theorem blockTake_keep_pub (open_ : Nat) (x : TSample) (s : State) :
    (keep (blockTake open_ x s)).pub = (keep s).pub := by
  simp only [blockTake]; (repeat' split) <;> simp [pub_eq]

@[simp] theorem trcInstant_keep_pending (open_ : Nat) (l : List TSample) (s : State) :
    (keep (trcInstant open_ l s)).pending = (keep s).pending := by
  simp [trcInstant]

@[simp] theorem trcInstant_keep_st (open_ : Nat) (l : List TSample) (s : State) :
    (keep (trcInstant open_ l s)).st = (keep s).st := by
  simp [trcInstant]

@[simp] theorem trcInstant_keep_grid (open_ : Nat) (l : List TSample) (s : State) :
    (keep (trcInstant open_ l s)).grid = (keep s).grid := by
  simp [trcInstant]

@[simp] theorem trcInstant_keep_len (open_ : Nat) (l : List TSample) (s : State) :
    (keep (trcInstant open_ l s)).len = (keep s).len := by
  simp [trcInstant]

@[simp] theorem trcInstant_keep_pub (open_ : Nat) (l : List TSample) (s : State) :
    (keep (trcInstant open_ l s)).pub = (keep s).pub := by
  simp [trcInstant]

@[simp] theorem trcArm_keep_pending (s : State) : (keep (trcArm s)).pending = (keep s).pending := by
  simp [trcArm, pending_eq]

@[simp] theorem trcArm_keep_st (s : State) : (keep (trcArm s)).st = (keep s).st := by
  simp [trcArm, st_eq]

@[simp] theorem trcArm_keep_grid (s : State) : (keep (trcArm s)).grid = (keep s).grid := by
  simp [trcArm, grid_eq]

@[simp] theorem trcArm_keep_len (s : State) : (keep (trcArm s)).len = (keep s).len := by
  simp [trcArm, len_eq]

@[simp] theorem trcArm_keep_pub (s : State) : (keep (trcArm s)).pub = (keep s).pub := by
  simp [trcArm, pub_eq]

@[simp] theorem trcFill_keep_pending (s : State) : (keep (trcFill s)).pending = (keep s).pending := by
  simp [trcFill, pending_eq]

@[simp] theorem trcFill_keep_st (s : State) : (keep (trcFill s)).st = (keep s).st := by
  simp [trcFill, st_eq]

@[simp] theorem trcFill_keep_grid (s : State) : (keep (trcFill s)).grid = (keep s).grid := by
  simp [trcFill, grid_eq]

@[simp] theorem trcFill_keep_len (s : State) : (keep (trcFill s)).len = (keep s).len := by
  simp [trcFill, len_eq]

@[simp] theorem trcFill_keep_pub (s : State) : (keep (trcFill s)).pub = (keep s).pub := by
  simp [trcFill, pub_eq]

@[simp] theorem armPulse_keep (s : State) : keep (armPulse s) = keep s := by
  simp only [armPulse]; (repeat' split) <;> simp

@[simp] theorem trcStart_keep_pending (s : State) : (keep (trcStart s)).pending = (keep s).pending := by
  simp only [trcStart]; (repeat' split) <;> simp [pending_eq]

@[simp] theorem trcStart_keep_st (s : State) : (keep (trcStart s)).st = (keep s).st := by
  simp only [trcStart]; (repeat' split) <;> simp [st_eq]

@[simp] theorem trcStart_keep_grid (s : State) : (keep (trcStart s)).grid = (keep s).grid := by
  simp only [trcStart]; (repeat' split) <;> simp [grid_eq]

@[simp] theorem trcStart_keep_len (s : State) : (keep (trcStart s)).len = (keep s).len := by
  simp [trcStart, len_eq]

@[simp] theorem trcStart_keep_pub (s : State) : (keep (trcStart s)).pub = (keep s).pub := by
  simp only [trcStart]; (repeat' split) <;> simp [pub_eq]

@[simp] theorem trcRecalc_keep (old : State) (s : State) : keep (trcRecalc old s) = keep s := by
  simp [trcRecalc]

@[simp] theorem trcWindow_keep_pending (inp : RimIn) (len : Nat) (s : State) :
    (keep (trcWindow inp len s)).pending = (keep s).pending := by
  simp only [trcWindow]; (repeat' split) <;> simp [pending_eq]

@[simp] theorem trcWindow_keep_st (inp : RimIn) (len : Nat) (s : State) :
    (keep (trcWindow inp len s)).st = (keep s).st := by
  simp only [trcWindow]; (repeat' split) <;> simp [st_eq]

@[simp] theorem trcWindow_keep_grid (inp : RimIn) (len : Nat) (s : State) :
    (keep (trcWindow inp len s)).grid = (keep s).grid := by
  simp only [trcWindow]; (repeat' split) <;> simp [grid_eq]

@[simp] theorem trcWindow_keep_len (inp : RimIn) (len : Nat) (s : State) :
    (keep (trcWindow inp len s)).len = (keep s).len := by
  simp [trcWindow, len_eq]

@[simp] theorem trcWindow_keep_pub (inp : RimIn) (len : Nat) (s : State) :
    (keep (trcWindow inp len s)).pub = (keep s).pub := by
  simp only [trcWindow]; (repeat' split) <;> simp [pub_eq]

@[simp] theorem trcRim_keep_pending (s : State) : (keep (trcRim s)).pending = (keep s).pending := by
  simp [trcRim, pending_eq]

@[simp] theorem trcRim_keep_st (s : State) : (keep (trcRim s)).st = (keep s).st := by
  simp [trcRim, st_eq]

@[simp] theorem trcRim_keep_grid (s : State) : (keep (trcRim s)).grid = (keep s).grid := by
  simp [trcRim, grid_eq]

@[simp] theorem trcRim_keep_len (s : State) : (keep (trcRim s)).len = (keep s).len := by
  simp [trcRim, len_eq]

@[simp] theorem trcRim_keep_pub (s : State) : (keep (trcRim s)).pub = (keep s).pub := by
  simp [trcRim, pub_eq]

@[simp] theorem trigLineFire_keep_pending (t : Nat) (s : State) :
    (keep (trigLineFire t s)).pending = (keep s).pending := by
  simp only [trigLineFire]; (repeat' split) <;> simp

@[simp] theorem trigLineFire_keep_st (t : Nat) (s : State) : (keep (trigLineFire t s)).st = (keep s).st := by
  simp only [trigLineFire]; (repeat' split) <;> simp

@[simp] theorem trigLineFire_keep_grid (t : Nat) (s : State) : (keep (trigLineFire t s)).grid = (keep s).grid := by
  simp only [trigLineFire]; (repeat' split) <;> simp

@[simp] theorem trigLineFire_keep_len (t : Nat) (s : State) : (keep (trigLineFire t s)).len = (keep s).len := by
  simp [trigLineFire]

@[simp] theorem trigLineFire_keep_pub (t : Nat) (s : State) : (keep (trigLineFire t s)).pub = (keep s).pub := by
  simp only [trigLineFire]; (repeat' split) <;> simp

@[simp] theorem trigLineArm_keep_pending (s : State) : (keep (trigLineArm s)).pending = (keep s).pending := by
  simp only [trigLineArm]; (repeat' split) <;> simp [pending_eq]

@[simp] theorem trigLineArm_keep_st (s : State) : (keep (trigLineArm s)).st = (keep s).st := by
  simp only [trigLineArm]; (repeat' split) <;> simp [st_eq]

@[simp] theorem trigLineArm_keep_grid (s : State) : (keep (trigLineArm s)).grid = (keep s).grid := by
  simp only [trigLineArm]; (repeat' split) <;> simp [grid_eq]

@[simp] theorem trigLineArm_keep_len (s : State) : (keep (trigLineArm s)).len = (keep s).len := by
  simp [trigLineArm, len_eq]

@[simp] theorem trigLineArm_keep_pub (s : State) : (keep (trigLineArm s)).pub = (keep s).pub := by
  simp only [trigLineArm]; (repeat' split) <;> simp [pub_eq]

@[simp] theorem trcTrip_keep_pending (i t : Nat) (before after : State) :
    (keep (trcTrip i t before after)).pending = (keep after).pending := by
  simp only [trcTrip]; (repeat' split) <;> simp

@[simp] theorem trcTrip_keep_st (i t : Nat) (before after : State) :
    (keep (trcTrip i t before after)).st = (keep after).st := by
  simp only [trcTrip]; (repeat' split) <;> simp

@[simp] theorem trcTrip_keep_grid (i t : Nat) (before after : State) :
    (keep (trcTrip i t before after)).grid = (keep after).grid := by
  simp only [trcTrip]; (repeat' split) <;> simp

@[simp] theorem trcTrip_keep_len (i t : Nat) (before after : State) :
    (keep (trcTrip i t before after)).len = (keep after).len := by
  simp [trcTrip]

@[simp] theorem trcTrip_keep_pub (i t : Nat) (before after : State) :
    (keep (trcTrip i t before after)).pub = (keep after).pub := by
  simp only [trcTrip]; (repeat' split) <;> simp

@[simp] theorem trcArmCmd_keep_pending (c : Ctx) (s : State) : (keep (trcArmCmd c s)).pending = (keep s).pending := by
  simp only [trcArmCmd]; (repeat' split) <;> simp

@[simp] theorem trcArmCmd_keep_st (c : Ctx) (s : State) : (keep (trcArmCmd c s)).st = (keep s).st := by
  simp only [trcArmCmd]; (repeat' split) <;> simp

@[simp] theorem trcArmCmd_keep_grid (c : Ctx) (s : State) : (keep (trcArmCmd c s)).grid = (keep s).grid := by
  simp only [trcArmCmd]; (repeat' split) <;> simp

@[simp] theorem trcArmCmd_keep_len (c : Ctx) (s : State) : (keep (trcArmCmd c s)).len = (keep s).len := by
  simp [trcArmCmd]

@[simp] theorem trcArmCmd_keep_pub (c : Ctx) (s : State) : (keep (trcArmCmd c s)).pub = (keep s).pub := by
  simp only [trcArmCmd]; (repeat' split) <;> simp

@[simp] theorem trcDisarm_keep_pending (s : State) : (keep (trcDisarm s)).pending = (keep s).pending := by
  simp [trcDisarm, pending_eq]

@[simp] theorem trcDisarm_keep_st (s : State) : (keep (trcDisarm s)).st = (keep s).st := by
  simp [trcDisarm, st_eq]

@[simp] theorem trcDisarm_keep_grid (s : State) : (keep (trcDisarm s)).grid = (keep s).grid := by
  simp [trcDisarm, grid_eq]

@[simp] theorem trcDisarm_keep_len (s : State) : (keep (trcDisarm s)).len = (keep s).len := by
  simp [trcDisarm, len_eq]

@[simp] theorem trcDisarm_keep_pub (s : State) : (keep (trcDisarm s)).pub = (keep s).pub := by
  simp [trcDisarm, pub_eq]

@[simp] theorem trcTrigger_keep_pending (c : Ctx) (s : State) : (keep (trcTrigger c s)).pending = (keep s).pending := by
  simp [trcTrigger]

@[simp] theorem trcTrigger_keep_st (c : Ctx) (s : State) : (keep (trcTrigger c s)).st = (keep s).st := by
  simp [trcTrigger]

@[simp] theorem trcTrigger_keep_grid (c : Ctx) (s : State) : (keep (trcTrigger c s)).grid = (keep s).grid := by
  simp [trcTrigger]

@[simp] theorem trcTrigger_keep_len (c : Ctx) (s : State) : (keep (trcTrigger c s)).len = (keep s).len := by
  simp [trcTrigger]

@[simp] theorem trcTrigger_keep_pub (c : Ctx) (s : State) : (keep (trcTrigger c s)).pub = (keep s).pub := by
  simp [trcTrigger]

@[simp] theorem hostTrcArm_keep_pending (h : CmdHdr) (s_ : State) :
    (keep (hostTrcArm h s_)).pending = (keep s_).pending := by
  simp [hostTrcArm]

@[simp] theorem hostTrcArm_keep_st (h : CmdHdr) (s_ : State) : (keep (hostTrcArm h s_)).st = (keep s_).st := by
  simp [hostTrcArm]

@[simp] theorem hostTrcArm_keep_grid (h : CmdHdr) (s_ : State) : (keep (hostTrcArm h s_)).grid = (keep s_).grid := by
  simp [hostTrcArm]

@[simp] theorem hostTrcArm_keep_len (h : CmdHdr) (s_ : State) : (keep (hostTrcArm h s_)).len = (keep s_).len := by
  simp [hostTrcArm]

@[simp] theorem hostTrcArm_keep_pub (h : CmdHdr) (s_ : State) : (keep (hostTrcArm h s_)).pub = (keep s_).pub := by
  simp [hostTrcArm]

@[simp] theorem hostTrcDisarm_keep_pending (h : CmdHdr) (s_ : State) :
    (keep (hostTrcDisarm h s_)).pending = (keep s_).pending := by
  simp [hostTrcDisarm]

@[simp] theorem hostTrcDisarm_keep_st (h : CmdHdr) (s_ : State) : (keep (hostTrcDisarm h s_)).st = (keep s_).st := by
  simp [hostTrcDisarm]

@[simp] theorem hostTrcDisarm_keep_grid (h : CmdHdr) (s_ : State) :
    (keep (hostTrcDisarm h s_)).grid = (keep s_).grid := by
  simp [hostTrcDisarm]

@[simp] theorem hostTrcDisarm_keep_len (h : CmdHdr) (s_ : State) : (keep (hostTrcDisarm h s_)).len = (keep s_).len := by
  simp [hostTrcDisarm]

@[simp] theorem hostTrcDisarm_keep_pub (h : CmdHdr) (s_ : State) : (keep (hostTrcDisarm h s_)).pub = (keep s_).pub := by
  simp [hostTrcDisarm]

@[simp] theorem hostTrcTrigger_keep_pending (h : CmdHdr) (s_ : State) :
    (keep (hostTrcTrigger h s_)).pending = (keep s_).pending := by
  simp [hostTrcTrigger]

@[simp] theorem hostTrcTrigger_keep_st (h : CmdHdr) (s_ : State) : (keep (hostTrcTrigger h s_)).st = (keep s_).st := by
  simp [hostTrcTrigger]

@[simp] theorem hostTrcTrigger_keep_grid (h : CmdHdr) (s_ : State) :
    (keep (hostTrcTrigger h s_)).grid = (keep s_).grid := by
  simp [hostTrcTrigger]

@[simp] theorem hostTrcTrigger_keep_len (h : CmdHdr) (s_ : State) :
    (keep (hostTrcTrigger h s_)).len = (keep s_).len := by
  simp [hostTrcTrigger]

@[simp] theorem hostTrcTrigger_keep_pub (h : CmdHdr) (s_ : State) :
    (keep (hostTrcTrigger h s_)).pub = (keep s_).pub := by
  simp [hostTrcTrigger]

@[simp] theorem hostFcs1CaptureArm_keep_pending (h : CmdHdr) (s_ : State) :
    (keep (hostFcs1CaptureArm h s_)).pending = (keep s_).pending := by
  simp [hostFcs1CaptureArm]

@[simp] theorem hostFcs1CaptureArm_keep_st (h : CmdHdr) (s_ : State) :
    (keep (hostFcs1CaptureArm h s_)).st = (keep s_).st := by
  simp [hostFcs1CaptureArm]

@[simp] theorem hostFcs1CaptureArm_keep_grid (h : CmdHdr) (s_ : State) :
    (keep (hostFcs1CaptureArm h s_)).grid = (keep s_).grid := by
  simp [hostFcs1CaptureArm]

@[simp] theorem hostFcs1CaptureArm_keep_len (h : CmdHdr) (s_ : State) :
    (keep (hostFcs1CaptureArm h s_)).len = (keep s_).len := by
  simp [hostFcs1CaptureArm]

@[simp] theorem hostFcs1CaptureArm_keep_pub (h : CmdHdr) (s_ : State) :
    (keep (hostFcs1CaptureArm h s_)).pub = (keep s_).pub := by
  simp [hostFcs1CaptureArm]

@[simp] theorem hostFcs1CaptureForce_keep_pending (h : CmdHdr) (s_ : State) :
    (keep (hostFcs1CaptureForce h s_)).pending = (keep s_).pending := by
  simp [hostFcs1CaptureForce]

@[simp] theorem hostFcs1CaptureForce_keep_st (h : CmdHdr) (s_ : State) :
    (keep (hostFcs1CaptureForce h s_)).st = (keep s_).st := by
  simp [hostFcs1CaptureForce]

@[simp] theorem hostFcs1CaptureForce_keep_grid (h : CmdHdr) (s_ : State) :
    (keep (hostFcs1CaptureForce h s_)).grid = (keep s_).grid := by
  simp [hostFcs1CaptureForce]

@[simp] theorem hostFcs1CaptureForce_keep_len (h : CmdHdr) (s_ : State) :
    (keep (hostFcs1CaptureForce h s_)).len = (keep s_).len := by
  simp [hostFcs1CaptureForce]

@[simp] theorem hostFcs1CaptureForce_keep_pub (h : CmdHdr) (s_ : State) :
    (keep (hostFcs1CaptureForce h s_)).pub = (keep s_).pub := by
  simp [hostFcs1CaptureForce]

@[simp] theorem clearRule_keep (a : Active) (s : State) : keep (clearRule a s) = keep s := by
  simp only [clearRule]; (repeat' split) <;> simp

@[simp] theorem fltClearOne_keep (x : CmdHdr × Nat × Nat) (op : Nat) (s : State) :
    keep (fltClearOne x op s) = keep s := by
  simp [fltClearOne]

@[simp] theorem fltClearRim_keep (s : State) : keep (fltClearRim s) = keep s := by
  simp [fltClearRim]

@[simp] theorem fltClear_keep (c : Ctx) (source kind : Nat) (s : State) : keep (fltClear c source kind s) = keep s := by
  simp [fltClear]

@[simp] theorem hostFltClear_keep (h : CmdHdr) (source kind : Nat) (s_ : State) :
    keep (hostFltClear h source kind s_) = keep s_ := by
  simp [hostFltClear]

@[simp] theorem hostFcs1ClearFaults_keep (h : CmdHdr) (s_ : State) : keep (hostFcs1ClearFaults h s_) = keep s_ := by
  simp [hostFcs1ClearFaults]

@[simp] theorem toBuffer_keep (c : Ctx) (b : OutBuf) (bytes data : List Byte) (eff : State → State) (s : State) (heff : ∀ x : State, keep (eff x) = keep x) :
    keep (toBuffer c b bytes data eff s) = keep s := by
  simp only [toBuffer]; (repeat' split) <;> simp [*]

@[simp] theorem fltDrain_keep (c : Ctx) (clr : Bool) (b : OutBuf) (s : State) : keep (fltDrain c clr b s) = keep s := by
  simp only [fltDrain]
  exact toBuffer_keep _ _ _ _ _ _ (fun x => by simp)

@[simp] theorem hostFltDrain_keep (h : CmdHdr) (clr : Bool) (b : OutBuf) (s_ : State) :
    keep (hostFltDrain h clr b s_) = keep s_ := by
  simp [hostFltDrain]

@[simp] theorem goDark_keep (s : State) : keep (goDark s) = keep s := by
  simp [goDark]

@[simp] theorem fatalLine_keep (l inst detail : Nat) (s : State) : keep (fatalLine l inst detail s) = keep s := by
  simp [fatalLine]

@[simp] theorem pllUnlock_keep_pending (s : State) : (keep (pllUnlock s)).pending = (keep s).pending := by
  simp only [pllUnlock]; (repeat' split) <;> simp [pending_eq]

@[simp] theorem pllUnlock_keep_st (s : State) : (keep (pllUnlock s)).st = (keep s).st := by
  simp only [pllUnlock]; (repeat' split) <;> simp [st_eq]

@[simp] theorem pllUnlock_keep_grid (s : State) : (keep (pllUnlock s)).grid = (keep s).grid := by
  simp [pllUnlock, grid_eq]

@[simp] theorem pllUnlock_keep_len (s : State) : (keep (pllUnlock s)).len = (keep s).len := by
  simp [pllUnlock, len_eq]

@[simp] theorem pllUnlock_keep_pub (s : State) : (keep (pllUnlock s)).pub = (keep s).pub := by
  simp only [pllUnlock]; (repeat' split) <;> simp [pub_eq]

@[simp] theorem pllUnlock_keep_mem (s : State) : (keep (pllUnlock s)).mem = (keep s).mem := by
  simp only [pllUnlock]; (repeat' split) <;> simp [mem_eq]

@[simp] theorem eccError_keep (region addr : Nat) (corrected : Bool) (s : State) :
    keep (eccError region addr corrected s) = keep s := by
  simp only [eccError]; (repeat' split) <;> simp

@[simp] theorem fltSelf_keep (s : State) : keep (fltSelf s) = keep s := by
  simp [fltSelf]

@[simp] theorem supplyFail_keep (d : Nat) (s : State) : keep (supplyFail d s) = keep s := by
  simp [supplyFail]

@[simp] theorem tempCrit_keep (s : State) : keep (tempCrit s) = keep s := by
  simp [tempCrit]

@[simp] theorem fatalDark_keep (s : State) : keep (fatalDark s) = keep s := by
  simp [fatalDark]

@[simp] theorem faultMessage_keep (w : BitVec 64) (s : State) : keep (faultMessage w s) = keep s := by
  simp [faultMessage]

@[simp] theorem State_modLvl_keep (l : Nat) (f : Lvl → Lvl) (s : State) : keep (State.modLvl l f s) = keep s := by
  simp [State.modLvl]

@[simp] theorem State_modCore_keep (c : Nat) (f : Core → Core) (s : State) : keep (State.modCore c f s) = keep s := by
  simp [State.modCore]

@[simp] theorem depthMark_keep (l : Nat) (s : State) : keep (depthMark l s) = keep s := by
  simp [depthMark]

@[simp] theorem leaveCore_keep (c t : Nat) (s : State) : keep (leaveCore c t s).1 = keep s := by
  simp only [leaveCore]; (repeat' split) <;> simp

@[simp] theorem dispatch_keep (c l i t : Nat) (s : State) : keep (dispatch c l i t s) = keep s := by
  simp only [dispatch]; (repeat' split) <;> simp

@[simp] theorem unspill_keep (s : State) : keep (unspill s) = keep s := by
  simp only [unspill]; (repeat' split) <;> simp

@[simp] theorem serveCores_keep (t : Nat) (s : State) : keep (serveCores t s) = keep s := by
  simp only [serveCores]
  (repeat' (first | split | (refine (keep_foldl _ _ _ (fun a x => ?_)).trans ?_))) <;> first | (simp; done) | (simp_all; done)

@[simp] theorem preempt_keep (cls l t : Nat) (s : State) : keep (preempt cls l t s) = keep s := by
  simp only [preempt]; (repeat' split) <;> simp

@[simp] theorem stall_keep (l : Nat) (s : State) : keep (stall l s) = keep s := by
  simp [stall]

@[simp] theorem taskEnqueue_keep (cls src t : Nat) (s0 : State) : keep (taskEnqueue cls src t s0) = keep s0 := by
  simp [taskEnqueue]

@[simp] theorem coreFree_keep (c t : Nat) (s : State) : keep (coreFree c t s) = keep s := by
  simp [coreFree]

@[simp] theorem supWdog_keep (c : Nat) (s : State) : keep (supWdog c s) = keep s := by
  simp [supWdog]

@[simp] theorem schLoadWindowEnd_keep (busy : List Nat) (s : State) : keep (schLoadWindowEnd busy s) = keep s := by
  simp [schLoadWindowEnd]

@[simp] theorem schRim_keep (s : State) : keep (schRim s) = keep s := by
  simp [schRim]

@[simp] theorem evrFirst_keep_pending (tr : Trig) (num : Nat) (s : State) :
    (keep (evrFirst tr num s)).pending = (keep s).pending := by
  simp only [evrFirst]; (repeat' split) <;> simp [pending_eq]

@[simp] theorem evrFirst_keep_st (tr : Trig) (num : Nat) (s : State) : (keep (evrFirst tr num s)).st = (keep s).st := by
  simp only [evrFirst]; (repeat' split) <;> simp [st_eq]

@[simp] theorem evrFirst_keep_grid (tr : Trig) (num : Nat) (s : State) :
    (keep (evrFirst tr num s)).grid = (keep s).grid := by
  simp only [evrFirst]; (repeat' split) <;> simp [grid_eq]

@[simp] theorem evrFirst_keep_len (tr : Trig) (num : Nat) (s : State) :
    (keep (evrFirst tr num s)).len = (keep s).len := by
  simp [evrFirst, len_eq]

@[simp] theorem evrFirst_keep_pub (tr : Trig) (num : Nat) (s : State) :
    (keep (evrFirst tr num s)).pub = (keep s).pub := by
  simp only [evrFirst]; (repeat' split) <;> simp [pub_eq]

@[simp] theorem evrRecordWrite_keep_pending (s : State) : (keep (evrRecordWrite s)).pending = (keep s).pending := by
  simp only [evrRecordWrite]; (repeat' split) <;> simp [pending_eq]

@[simp] theorem evrRecordWrite_keep_st (s : State) : (keep (evrRecordWrite s)).st = (keep s).st := by
  simp only [evrRecordWrite]; (repeat' split) <;> simp [st_eq]

@[simp] theorem evrRecordWrite_keep_grid (s : State) : (keep (evrRecordWrite s)).grid = (keep s).grid := by
  simp only [evrRecordWrite]; (repeat' split) <;> simp [grid_eq]

@[simp] theorem evrRecordWrite_keep_len (s : State) : (keep (evrRecordWrite s)).len = (keep s).len := by
  simp only [evrRecordWrite]; (repeat' split) <;> simp [len_eq]

@[simp] theorem evrRecordWrite_keep_pub (s : State) : (keep (evrRecordWrite s)).pub = (keep s).pub := by
  simp only [evrRecordWrite]; (repeat' split) <;> simp [pub_eq]

@[simp] theorem evrTrigger_keep (typ cause t : Nat) (s0 : State) : keep (evrTrigger typ cause t s0) = keep s0 := by
  simp only [evrTrigger]; (repeat' split) <;> simp

@[simp] theorem evrRecord_keep (c : Ctx) (cause : Nat) (s : State) : keep (evrRecord c cause s) = keep s := by
  simp [evrRecord]

@[simp] theorem hostEvrRecord_keep (h : CmdHdr) (cause : Nat) (s_ : State) :
    keep (hostEvrRecord h cause s_) = keep s_ := by
  simp [hostEvrRecord]

@[simp] theorem evrZeroFirst_keep_pending (s : State) : (keep (evrZeroFirst s)).pending = (keep s).pending := by
  simp [evrZeroFirst, pending_eq]

@[simp] theorem evrZeroFirst_keep_st (s : State) : (keep (evrZeroFirst s)).st = (keep s).st := by
  simp [evrZeroFirst, st_eq]

@[simp] theorem evrZeroFirst_keep_grid (s : State) : (keep (evrZeroFirst s)).grid = (keep s).grid := by
  simp [evrZeroFirst, grid_eq]

@[simp] theorem evrZeroFirst_keep_len (s : State) : (keep (evrZeroFirst s)).len = (keep s).len := by
  simp [evrZeroFirst, len_eq]

@[simp] theorem evrZeroFirst_keep_pub (s : State) : (keep (evrZeroFirst s)).pub = (keep s).pub := by
  simp [evrZeroFirst, pub_eq]

@[simp] theorem evrClearFirst_keep_pending (c : Ctx) (s : State) :
    (keep (evrClearFirst c s)).pending = (keep s).pending := by
  simp only [evrClearFirst]; (repeat' split) <;> simp [pending_eq]

@[simp] theorem evrClearFirst_keep_st (c : Ctx) (s : State) : (keep (evrClearFirst c s)).st = (keep s).st := by
  simp only [evrClearFirst]; (repeat' split) <;> simp [st_eq]

@[simp] theorem evrClearFirst_keep_grid (c : Ctx) (s : State) : (keep (evrClearFirst c s)).grid = (keep s).grid := by
  simp only [evrClearFirst]; (repeat' split) <;> simp [grid_eq]

@[simp] theorem evrClearFirst_keep_len (c : Ctx) (s : State) : (keep (evrClearFirst c s)).len = (keep s).len := by
  simp [evrClearFirst, len_eq]

@[simp] theorem evrClearFirst_keep_pub (c : Ctx) (s : State) : (keep (evrClearFirst c s)).pub = (keep s).pub := by
  simp only [evrClearFirst]; (repeat' split) <;> simp [pub_eq]

@[simp] theorem hostEvrClearFirst_keep_pending (h : CmdHdr) (s_ : State) :
    (keep (hostEvrClearFirst h s_)).pending = (keep s_).pending := by
  simp [hostEvrClearFirst]

@[simp] theorem hostEvrClearFirst_keep_st (h : CmdHdr) (s_ : State) :
    (keep (hostEvrClearFirst h s_)).st = (keep s_).st := by
  simp [hostEvrClearFirst]

@[simp] theorem hostEvrClearFirst_keep_grid (h : CmdHdr) (s_ : State) :
    (keep (hostEvrClearFirst h s_)).grid = (keep s_).grid := by
  simp [hostEvrClearFirst]

@[simp] theorem hostEvrClearFirst_keep_len (h : CmdHdr) (s_ : State) :
    (keep (hostEvrClearFirst h s_)).len = (keep s_).len := by
  simp [hostEvrClearFirst]

@[simp] theorem hostEvrClearFirst_keep_pub (h : CmdHdr) (s_ : State) :
    (keep (hostEvrClearFirst h s_)).pub = (keep s_).pub := by
  simp [hostEvrClearFirst]

end Sys2Proof.Machine
end

