-- ==== Sys2Proof/Laws/KeepHost.lean ====
section
/-! SUPPORT. What an operation leaves as it is: intake, the journal, the host interface, the converter states and the parameters. -/

namespace Sys2Proof.Machine

open Sys2Proof

@[simp] theorem State_modPair_keep (k : Nat) (f : RPair → RPair) (s : State) : keep (State.modPair k f s) = keep s := by
  simp [State.modPair]

@[simp] theorem State_modFly_keep (pair seq : Nat) (f : Fly → Fly) (s : State) :
    keep (State.modFly pair seq f s) = keep s := by
  simp [State.modFly]

@[simp] theorem judgeForm_keep (f : Fly) (s : State) : keep (judgeForm f s) = keep s := by
  simp only [judgeForm]; (repeat' split) <;> simp

@[simp] theorem accept_keep (basis : Nat) (f : Fly) (s : State) : keep (accept basis f s) = keep s := by
  simp [accept]

@[simp] theorem offerVolatile_keep (f : Fly) (s : State) : keep (offerVolatile f s) = keep s := by
  simp [offerVolatile]

@[simp] theorem offerJournal_keep (f : Fly) (s : State) : keep (offerJournal f s) = keep s := by
  simp [offerJournal]

@[simp] theorem offer_keep (f : Fly) (s : State) : keep (offer f s) = keep s := by
  simp [offer]

@[simp] theorem mirrorTimeoutCmd_keep (pair seq : Nat) (s : State) : keep (mirrorTimeoutCmd pair seq s) = keep s := by
  simp only [mirrorTimeoutCmd]; (repeat' split) <;> simp

@[simp] theorem closePair_keep (k : Nat) (s : State) : keep (closePair k s) = keep s := by
  simp [closePair]

@[simp] theorem openPair_keep (o : OpenReq) (s : State) : keep (openPair o s) = keep s := by
  simp [openPair]

@[simp] theorem openJournal_keep (o : OpenReq) (s : State) : keep (openJournal o s) = keep s := by
  simp [openJournal]

@[simp] theorem openStart_keep (o : OpenReq) (s : State) : keep (openStart o s) = keep s := by
  simp only [openStart]; (repeat' split) <;> simp

@[simp] theorem mirrorTimeoutOpen_keep (pair seq : Nat) (s : State) : keep (mirrorTimeoutOpen pair seq s) = keep s := by
  simp only [mirrorTimeoutOpen]; (repeat' split) <;> simp

@[simp] theorem mirrorTimeout_keep (pair seq : Nat) (s : State) : keep (mirrorTimeout pair seq s) = keep s := by
  simp [mirrorTimeout]

@[simp] theorem jnlBatch_keep (ckpt : Bool) (ks : List Nat) (s : State) : keep (jnlBatch ckpt ks s) = keep s := by
  simp [jnlBatch]

@[simp] theorem tallyBatch_keep (s : State) : keep (tallyBatch s) = keep s := by
  simp [tallyBatch]

@[simp] theorem ckptAdd_keep (l : List JPayload) (s : State) : keep (ckptAdd l s) = keep s := by
  simp [ckptAdd]

@[simp] theorem compactStart_keep (h : Option CmdHdr) (s : State) : keep (compactStart h s) = keep s := by
  simp [compactStart]

@[simp] theorem jnlCompactionStart_keep (s : State) : keep (jnlCompactionStart s) = keep s := by
  simp [jnlCompactionStart]

@[simp] theorem jnlCompact_keep (c : Ctx) (s : State) : keep (jnlCompact c s) = keep s := by
  simp [jnlCompact]

@[simp] theorem hostJnlCompact_keep (h : CmdHdr) (s_ : State) : keep (hostJnlCompact h s_) = keep s_ := by
  simp [hostJnlCompact]

@[simp] theorem ckptDone_keep (s : State) : keep (ckptDone s) = keep s := by
  simp only [ckptDone]; (repeat' split) <;> simp

@[simp] theorem blockEraseDone_keep (s : State) : keep (blockEraseDone s) = keep s := by
  simp [blockEraseDone]

@[simp] theorem commitWaiters_keep (q : Nat) (s : State) : keep (commitWaiters q s) = keep s := by
  simp only [commitWaiters]; (repeat' split) <;> simp

@[simp] theorem jnlRecordCommit_keep (q : Nat) (s : State) : keep (jnlRecordCommit q s) = keep s := by
  simp only [jnlRecordCommit]; (repeat' split) <;> simp

@[simp] theorem jnlSync_keep (c : Ctx) (s : State) : keep (jnlSync c s) = keep s := by
  simp only [jnlSync]; (repeat' split) <;> simp

@[simp] theorem hostJnlSync_keep (h : CmdHdr) (s_ : State) : keep (hostJnlSync h s_) = keep s_ := by
  simp [hostJnlSync]

@[simp] theorem hostFcs1Save_keep (h : CmdHdr) (s_ : State) : keep (hostFcs1Save h s_) = keep s_ := by
  simp [hostFcs1Save]

@[simp] theorem jnlExport_keep (c : Ctx) (flash off len : Nat) (b : OutBuf) (s : State) :
    keep (jnlExport c flash off len b s) = keep s := by
  simp [jnlExport]

@[simp] theorem hostJnlExport_keep (h : CmdHdr) (flash off len : Nat) (b : OutBuf) (s_ : State) :
    keep (hostJnlExport h flash off len b s_) = keep s_ := by
  simp [hostJnlExport]

@[simp] theorem waitersFail_keep (lost : Nat → Bool) (s : State) : keep (waitersFail lost s) = keep s := by
  simp only [waitersFail]; (repeat' split) <;> simp

@[simp] theorem compactFail_keep (stop : Bool) (s : State) : keep (compactFail stop s) = keep s := by
  simp only [compactFail]; (repeat' split) <;> simp

@[simp] theorem jnlFlashFail_keep (flash addr : Nat) (s : State) : keep (jnlFlashFail flash addr s) = keep s := by
  simp [jnlFlashFail]

@[simp] theorem jnlPowerFail_keep (done : List Nat) (s : State) : keep (jnlPowerFail done s) = keep s := by
  simp [jnlPowerFail]

@[simp] theorem jnlPowerEnd_keep (high : Bool) (s : State) : keep (jnlPowerEnd high s) = keep s := by
  simp [jnlPowerEnd]

@[simp] theorem nvRestore_keep (k : Nat) (b : List Byte) (s : State) : keep (nvRestore k b s) = keep s := by
  simp [nvRestore]

@[simp] theorem batchRestore_keep (x : BatchEnt) (s : State) : keep (batchRestore x s) = keep s := by
  simp [batchRestore]

@[simp] theorem paramRestore_keep (l : List (Nat × Int)) (s : State) : keep (paramRestore l s) = keep s := by
  simp [paramRestore]

@[simp] theorem factRestore_keep (ws : List Nat) (s : State) : keep (factRestore ws s) = keep s := by
  simp [factRestore]

@[simp] theorem changeRestore_keep (c : JChange) (s : State) : keep (changeRestore c s) = keep s := by
  simp only [changeRestore]; (repeat' split) <;> simp

@[simp] theorem winRestore_keep (k seq crc basis : Nat) (r : Option Reply) (s : State) :
    keep (winRestore k seq crc basis r s) = keep s := by
  simp [winRestore]

@[simp] theorem recRestore_keep_pending (r : JRec) (x : State × List BatchEnt) :
    (keep (recRestore r x).1).pending = (keep x.1).pending := by
  simp only [recRestore]
  (repeat' split) <;> simp [pending_eq]

@[simp] theorem recRestore_keep_st (r : JRec) (x : State × List BatchEnt) :
    (keep (recRestore r x).1).st = (keep x.1).st := by
  simp only [recRestore]
  (repeat' split) <;> simp [st_eq]

@[simp] theorem recRestore_keep_grid (r : JRec) (x : State × List BatchEnt) :
    (keep (recRestore r x).1).grid = (keep x.1).grid := by
  simp only [recRestore]
  (repeat' split) <;> simp [grid_eq]

@[simp] theorem recRestore_keep_len (r : JRec) (x : State × List BatchEnt) :
    (keep (recRestore r x).1).len = (keep x.1).len := by
  simp only [recRestore]
  (repeat' split) <;> simp [len_eq]

@[simp] theorem recRestore_keep_pub (r : JRec) (x : State × List BatchEnt) :
    (keep (recRestore r x).1).pub = (keep x.1).pub := by
  simp only [recRestore]
  (repeat' split) <;> simp [pub_eq]

@[simp] theorem jnlRestore_keep_pending (flash0 flash1 : Bool) (ms : Nat) (s : State) :
    (keep (jnlRestore flash0 flash1 ms s)).pending = (keep s).pending := by
  have h : ∀ l : List JRec, (keep (l.foldl (fun a r => recRestore r a) (s, [])).1).pending = (keep s).pending :=
    fun l => foldl_fst_kept (fun x => (keep x).pending) l _ _ (fun a x => recRestore_keep_pending x a)
  simp only [jnlRestore]
  split <;> simp [h, pending_eq]

@[simp] theorem jnlRestore_keep_st (flash0 flash1 : Bool) (ms : Nat) (s : State) :
    (keep (jnlRestore flash0 flash1 ms s)).st = (keep s).st := by
  have h : ∀ l : List JRec, (keep (l.foldl (fun a r => recRestore r a) (s, [])).1).st = (keep s).st :=
    fun l => foldl_fst_kept (fun x => (keep x).st) l _ _ (fun a x => recRestore_keep_st x a)
  simp only [jnlRestore]
  split <;> simp [h, st_eq]

@[simp] theorem jnlRestore_keep_grid (flash0 flash1 : Bool) (ms : Nat) (s : State) :
    (keep (jnlRestore flash0 flash1 ms s)).grid = (keep s).grid := by
  have h : ∀ l : List JRec, (keep (l.foldl (fun a r => recRestore r a) (s, [])).1).grid = (keep s).grid :=
    fun l => foldl_fst_kept (fun x => (keep x).grid) l _ _ (fun a x => recRestore_keep_grid x a)
  simp only [jnlRestore]
  split <;> simp [h, grid_eq]

@[simp] theorem jnlRestore_keep_len (flash0 flash1 : Bool) (ms : Nat) (s : State) :
    (keep (jnlRestore flash0 flash1 ms s)).len = (keep s).len := by
  have h : ∀ l : List JRec, (keep (l.foldl (fun a r => recRestore r a) (s, [])).1).len = (keep s).len :=
    fun l => foldl_fst_kept (fun x => (keep x).len) l _ _ (fun a x => recRestore_keep_len x a)
  simp only [jnlRestore]
  split <;> simp [h, len_eq]

@[simp] theorem jnlRestore_keep_pub (flash0 flash1 : Bool) (ms : Nat) (s : State) :
    (keep (jnlRestore flash0 flash1 ms s)).pub = (keep s).pub := by
  have h : ∀ l : List JRec, (keep (l.foldl (fun a r => recRestore r a) (s, [])).1).pub = (keep s).pub :=
    fun l => foldl_fst_kept (fun x => (keep x).pub) l _ _ (fun a x => recRestore_keep_pub x a)
  simp only [jnlRestore]
  split <;> simp [h, pub_eq]

@[simp] theorem hostSeen_keep (s : State) : keep (hostSeen s) = keep s := by
  simp [hostSeen]

@[simp] theorem hostPortReset_keep (s : State) : keep (hostPortReset s) = keep s := by
  simp [hostPortReset]

@[simp] theorem pcieLinkDown_keep (s : State) : keep (pcieLinkDown s) = keep s := by
  simp [pcieLinkDown]

@[simp] theorem barWriteDiscarded_keep (_bar _off _v : Nat) (s : State) :
    keep (barWriteDiscarded _bar _off _v s) = keep s := by
  simp only [barWriteDiscarded]; (repeat' split) <;> simp

@[simp] theorem frmCountLoRead_keep (s : State) : keep (frmCountLoRead s) = keep s := by
  simp [frmCountLoRead]

@[simp] theorem hifDbOpenLo_keep (v : Nat) (s : State) : keep (hifDbOpenLo v s) = keep s := by
  simp [hifDbOpenLo]

@[simp] theorem hifDbOpenHi_keep (v : Nat) (s : State) : keep (hifDbOpenHi v s) = keep s := by
  simp [hifDbOpenHi]

@[simp] theorem openFail_keep (k err : Nat) (s : State) : keep (openFail k err s) = keep s := by
  simp [openFail]

@[simp] theorem openCheck_keep (addr : Nat) (b : List Byte) (s : State) : keep (openCheck addr b s) = keep s := by
  simp [openCheck]

@[simp] theorem sessionOpenComplete_keep (desc : Option (List Byte)) (s : State) :
    keep (sessionOpenComplete desc s) = keep s := by
  simp only [sessionOpenComplete]; (repeat' split) <;> simp

@[simp] theorem hifDbClose_keep (v : Nat) (s : State) : keep (hifDbClose v s) = keep s := by
  simp only [hifDbClose]; (repeat' split) <;> simp

@[simp] theorem hifDbCmd_keep (k v : Nat) (s : State) : keep (hifDbCmd k v s) = keep s := by
  simp [hifDbCmd]

@[simp] theorem hifDbRpl_keep (k v : Nat) (s : State) : keep (hifDbRpl k v s) = keep s := by
  simp [hifDbRpl]

@[simp] theorem refuseIntake_keep (c : Ctx) (st : Nat) (data : List Byte) (s : State) :
    keep (refuseIntake c st data s) = keep s := by
  simp [refuseIntake]

@[simp] theorem outsideSeq_keep (gen : Nat) (c : Ctx) (b : List Byte) (s : State) :
    keep (outsideSeq gen c b s) = keep s := by
  simp only [outsideSeq]; (repeat' split) <;> simp

@[simp] theorem answerDup_keep (c : Ctx) (w : WinE) (s : State) : keep (answerDup c w s) = keep s := by
  simp only [answerDup]; (repeat' split) <;> simp

@[simp] theorem sequence_keep (k gen t : Nat) (c : Ctx) (b : List Byte) (s : State) :
    keep (inSequence k gen t c b s) = keep s := by
  simp only [inSequence]; (repeat' split) <;> simp

@[simp] theorem packetIntake_keep (k : Nat) (b : List Byte) (t : Nat) (s0 : State) :
    keep (packetIntake k b t s0) = keep s0 := by
  simp [packetIntake]

@[simp] theorem replyWrite_keep (k : Nat) (s : State) : keep (replyWrite k s) = keep s := by
  simp only [replyWrite]; (repeat' split) <;> simp

@[simp] theorem sessionInfo_keep (c : Ctx) (s : State) : keep (sessionInfo c s) = keep s := by
  simp [sessionInfo]

@[simp] theorem hostSessionInfo_keep (h : CmdHdr) (s_ : State) : keep (hostSessionInfo h s_) = keep s_ := by
  simp [hostSessionInfo]

@[simp] theorem hostEcho_keep (h : CmdHdr) (v : Nat) (s_ : State) : keep (hostEcho h v s_) = keep s_ := by
  simp [hostEcho]

@[simp] theorem hostFcs1Ident_keep (h : CmdHdr) (s_ : State) : keep (hostFcs1Ident h s_) = keep s_ := by
  simp [hostFcs1Ident]

@[simp] theorem hostFcs1Nop_keep (h : CmdHdr) (v : Nat) (s_ : State) : keep (hostFcs1Nop h v s_) = keep s_ := by
  simp [hostFcs1Nop]

@[simp] theorem leaveState_keep (s : State) : keep (leaveState s) = keep s := by
  simp only [leaveState]; (repeat' split) <;> simp

@[simp] theorem dropDue_keep (s : State) : keep (dropDue s) = keep s := by
  simp [dropDue]

@[simp] theorem enterSafeStop_keep_pending (cause n : Nat) (s : State) :
    (keep (enterSafeStop cause n s)).pending = (keep s).pending := by
  simp [enterSafeStop, pending_eq]

@[simp] theorem enterSafeStop_keep_grid (cause n : Nat) (s : State) :
    (keep (enterSafeStop cause n s)).grid = (keep s).grid := by
  simp [enterSafeStop, grid_eq]

@[simp] theorem enterSafeStop_keep_len (cause n : Nat) (s : State) :
    (keep (enterSafeStop cause n s)).len = (keep s).len := by
  simp [enterSafeStop, len_eq]

@[simp] theorem enterSafeStop_keep_pub (cause n : Nat) (s : State) :
    (keep (enterSafeStop cause n s)).pub = (keep s).pub := by
  simp [enterSafeStop, pub_eq]

@[simp] theorem enterSafeStop_keep_mem (cause n : Nat) (s : State) :
    (keep (enterSafeStop cause n s)).mem = (keep s).mem := by
  simp [enterSafeStop, mem_eq]

@[simp] theorem enterSafeBlocked_keep_pending (cause detail n : Nat) (s : State) :
    (keep (enterSafeBlocked cause detail n s)).pending = (keep s).pending := by
  simp [enterSafeBlocked, pending_eq]

@[simp] theorem enterSafeBlocked_keep_grid (cause detail n : Nat) (s : State) :
    (keep (enterSafeBlocked cause detail n s)).grid = (keep s).grid := by
  simp [enterSafeBlocked, grid_eq]

@[simp] theorem enterSafeBlocked_keep_len (cause detail n : Nat) (s : State) :
    (keep (enterSafeBlocked cause detail n s)).len = (keep s).len := by
  simp [enterSafeBlocked, len_eq]

@[simp] theorem enterSafeBlocked_keep_pub (cause detail n : Nat) (s : State) :
    (keep (enterSafeBlocked cause detail n s)).pub = (keep s).pub := by
  simp [enterSafeBlocked, pub_eq]

@[simp] theorem enterSafeBlocked_keep_mem (cause detail n : Nat) (s : State) :
    (keep (enterSafeBlocked cause detail n s)).mem = (keep s).mem := by
  simp [enterSafeBlocked, mem_eq]

@[simp] theorem plainTo_keep_pending (d : DevState) (s : State) : (keep (plainTo d s)).pending = (keep s).pending := by
  simp [plainTo, pending_eq]

@[simp] theorem plainTo_keep_grid (d : DevState) (s : State) : (keep (plainTo d s)).grid = (keep s).grid := by
  simp [plainTo, grid_eq]

@[simp] theorem plainTo_keep_len (d : DevState) (s : State) : (keep (plainTo d s)).len = (keep s).len := by
  simp [plainTo, len_eq]

@[simp] theorem plainTo_keep_pub (d : DevState) (s : State) : (keep (plainTo d s)).pub = (keep s).pub := by
  simp [plainTo, pub_eq]

@[simp] theorem plainTo_keep_mem (d : DevState) (s : State) : (keep (plainTo d s)).mem = (keep s).mem := by
  simp [plainTo, mem_eq]

@[simp] theorem recoverTo_keep_pending (s : State) : (keep (recoverTo s)).pending = (keep s).pending := by
  simp [recoverTo, pending_eq]

@[simp] theorem recoverTo_keep_grid (s : State) : (keep (recoverTo s)).grid = (keep s).grid := by
  simp [recoverTo, grid_eq]

@[simp] theorem recoverTo_keep_len (s : State) : (keep (recoverTo s)).len = (keep s).len := by
  simp [recoverTo, len_eq]

@[simp] theorem recoverTo_keep_pub (s : State) : (keep (recoverTo s)).pub = (keep s).pub := by
  simp [recoverTo, pub_eq]

@[simp] theorem recoverTo_keep_mem (s : State) : (keep (recoverTo s)).mem = (keep s).mem := by
  simp [recoverTo, mem_eq]

@[simp] theorem convApply_keep_pending (n : Nat) (before target : DevState) (s : State) :
    (keep (convApply n before target s)).pending = (keep s).pending := by
  simp only [convApply]; (repeat' split) <;> simp

@[simp] theorem convApply_keep_grid (n : Nat) (before target : DevState) (s : State) :
    (keep (convApply n before target s)).grid = (keep s).grid := by
  simp only [convApply]; (repeat' split) <;> simp

@[simp] theorem convApply_keep_len (n : Nat) (before target : DevState) (s : State) :
    (keep (convApply n before target s)).len = (keep s).len := by
  simp only [convApply]; (repeat' split) <;> simp

@[simp] theorem convApply_keep_pub (n : Nat) (before target : DevState) (s : State) :
    (keep (convApply n before target s)).pub = (keep s).pub := by
  simp only [convApply]; (repeat' split) <;> simp

@[simp] theorem convApply_keep_mem (n : Nat) (before target : DevState) (s : State) :
    (keep (convApply n before target s)).mem = (keep s).mem := by
  simp only [convApply]; (repeat' split) <;> simp

@[simp] theorem convRim_keep_pending (n : Nat) (s : State) : (keep (convRim n s)).pending = (keep s).pending := by
  simp only [convRim]; (repeat' split) <;> simp

@[simp] theorem convRim_keep_grid (n : Nat) (s : State) : (keep (convRim n s)).grid = (keep s).grid := by
  simp only [convRim]; (repeat' split) <;> simp

@[simp] theorem convRim_keep_len (n : Nat) (s : State) : (keep (convRim n s)).len = (keep s).len := by
  simp only [convRim]; (repeat' split) <;> simp

@[simp] theorem convRim_keep_pub (n : Nat) (s : State) : (keep (convRim n s)).pub = (keep s).pub := by
  simp only [convRim]; (repeat' split) <;> simp

@[simp] theorem convRim_keep_mem (n : Nat) (s : State) : (keep (convRim n s)).mem = (keep s).mem := by
  simp only [convRim]; (repeat' split) <;> simp

@[simp] theorem ruleRim_keep_pending (n : Nat) (s : State) : (keep (ruleRim n s)).pending = (keep s).pending := by
  simp only [ruleRim]; (repeat' split) <;> simp

@[simp] theorem ruleRim_keep_grid (n : Nat) (s : State) : (keep (ruleRim n s)).grid = (keep s).grid := by
  simp only [ruleRim]; (repeat' split) <;> simp

@[simp] theorem ruleRim_keep_len (n : Nat) (s : State) : (keep (ruleRim n s)).len = (keep s).len := by
  simp only [ruleRim]; (repeat' split) <;> simp

@[simp] theorem ruleRim_keep_pub (n : Nat) (s : State) : (keep (ruleRim n s)).pub = (keep s).pub := by
  simp only [ruleRim]; (repeat' split) <;> simp

@[simp] theorem ruleRim_keep_mem (n : Nat) (s : State) : (keep (ruleRim n s)).mem = (keep s).mem := by
  simp only [ruleRim]; (repeat' split) <;> simp

@[simp] theorem convReply_keep (n : Nat) (s : State) : keep (convReply n s) = keep s := by
  simp only [convReply]; (repeat' split) <;> simp

@[simp] theorem convWait_keep (c : Ctx) (target : DevState) (s : State) : keep (convWait c target s) = keep s := by
  simp [convWait]

@[simp] theorem convNone_keep (c : Ctx) (s : State) : keep (convNone c s) = keep s := by
  simp [convNone]

@[simp] theorem convStatus_keep (c : Ctx) (s : State) : keep (convStatus c s) = keep s := by
  simp [convStatus]

@[simp] theorem convRun_keep (c : Ctx) (s : State) : keep (convRun c s) = keep s := by
  simp [convRun]

@[simp] theorem convSafeStop_keep (c : Ctx) (s : State) : keep (convSafeStop c s) = keep s := by
  simp only [convSafeStop]; (repeat' split) <;> simp

@[simp] theorem convSafeBlock_keep (c : Ctx) (s : State) : keep (convSafeBlock c s) = keep s := by
  simp only [convSafeBlock]; (repeat' split) <;> simp

@[simp] theorem convRecover_keep (c : Ctx) (s : State) : keep (convRecover c s) = keep s := by
  simp [convRecover]

@[simp] theorem hostConvStatus_keep (h : CmdHdr) (s_ : State) : keep (hostConvStatus h s_) = keep s_ := by
  simp [hostConvStatus]

@[simp] theorem hostConvArm_keep (h : CmdHdr) (s_ : State) : keep (hostConvArm h s_) = keep s_ := by
  simp [hostConvArm]

@[simp] theorem hostConvDisarm_keep (h : CmdHdr) (s_ : State) : keep (hostConvDisarm h s_) = keep s_ := by
  simp [hostConvDisarm]

@[simp] theorem hostConvRun_keep (h : CmdHdr) (s_ : State) : keep (hostConvRun h s_) = keep s_ := by
  simp [hostConvRun]

@[simp] theorem hostConvBlock_keep (h : CmdHdr) (s_ : State) : keep (hostConvBlock h s_) = keep s_ := by
  simp [hostConvBlock]

@[simp] theorem hostConvSafeStop_keep (h : CmdHdr) (s_ : State) : keep (hostConvSafeStop h s_) = keep s_ := by
  simp [hostConvSafeStop]

@[simp] theorem hostConvSafeBlock_keep (h : CmdHdr) (s_ : State) : keep (hostConvSafeBlock h s_) = keep s_ := by
  simp [hostConvSafeBlock]

@[simp] theorem hostConvRecover_keep (h : CmdHdr) (s_ : State) : keep (hostConvRecover h s_) = keep s_ := by
  simp [hostConvRecover]

@[simp] theorem hostConvMaint_keep (h : CmdHdr) (s_ : State) : keep (hostConvMaint h s_) = keep s_ := by
  simp [hostConvMaint]

@[simp] theorem hostConvMaintEnd_keep (h : CmdHdr) (s_ : State) : keep (hostConvMaintEnd h s_) = keep s_ := by
  simp [hostConvMaintEnd]

@[simp] theorem hostFcs1Enable_keep (h : CmdHdr) (s_ : State) : keep (hostFcs1Enable h s_) = keep s_ := by
  simp [hostFcs1Enable]

@[simp] theorem hostFcs1Disable_keep (h : CmdHdr) (s_ : State) : keep (hostFcs1Disable h s_) = keep s_ := by
  simp [hostFcs1Disable]

@[simp] theorem hostFcs1Start_keep (h : CmdHdr) (s_ : State) : keep (hostFcs1Start h s_) = keep s_ := by
  simp [hostFcs1Start]

@[simp] theorem hostFcs1Stop_keep (h : CmdHdr) (s_ : State) : keep (hostFcs1Stop h s_) = keep s_ := by
  simp [hostFcs1Stop]

@[simp] theorem hostFcs1Block_keep (h : CmdHdr) (s_ : State) : keep (hostFcs1Block h s_) = keep s_ := by
  simp [hostFcs1Block]

@[simp] theorem hostFcs1ResetBlock_keep (h : CmdHdr) (s_ : State) : keep (hostFcs1ResetBlock h s_) = keep s_ := by
  simp [hostFcs1ResetBlock]

@[simp] theorem hostFcs1Service_keep (h : CmdHdr) (s_ : State) : keep (hostFcs1Service h s_) = keep s_ := by
  simp [hostFcs1Service]

@[simp] theorem hostFcs1ServiceEnd_keep (h : CmdHdr) (s_ : State) : keep (hostFcs1ServiceEnd h s_) = keep s_ := by
  simp [hostFcs1ServiceEnd]

@[simp] theorem paramWrite_keep (c : Ctx) (single : Bool) (es : List (Nat × Int)) (s : State) :
    keep (paramWrite c single es s) = keep s := by
  simp only [paramWrite]; (repeat' split) <;> simp

@[simp] theorem writeApply_keep (w : PWrite) (s : State) : keep (writeApply w s) = keep s := by
  simp only [writeApply]; (repeat' split) <;> simp

@[simp] theorem paramRim_keep (s : State) : keep (paramRim s) = keep s := by
  simp [paramRim]

@[simp] theorem writeReplies_keep (ws : List PWrite) (s : State) : keep (writeReplies ws s) = keep s := by
  simp [writeReplies]

@[simp] theorem paramGet_keep (c : Ctx) (id : Nat) (s : State) : keep (paramGet c id s) = keep s := by
  simp [paramGet]

@[simp] theorem getParam1_keep (c : Ctx) (id : Nat) (s : State) : keep (getParam1 c id s) = keep s := by
  simp [getParam1]

@[simp] theorem paramBlockGet_keep (c : Ctx) (first count : Nat) (b : OutBuf) (s : State) :
    keep (paramBlockGet c first count b s) = keep s := by
  simp [paramBlockGet]

@[simp] theorem adcCal_keep (c : Ctx) (s : State) : keep (adcCal c s) = keep s := by
  simp [adcCal]

@[simp] theorem statsClear_keep (c : Ctx) (s : State) : keep (statsClear c s) = keep s := by
  simp [statsClear]

@[simp] theorem statsRim_keep (s : State) : keep (statsRim s) = keep s := by
  simp [statsRim]

@[simp] theorem hostParamGet_keep (h : CmdHdr) (id : Nat) (s_ : State) : keep (hostParamGet h id s_) = keep s_ := by
  simp [hostParamGet]

@[simp] theorem hostParamSet_keep (h : CmdHdr) (id : Nat) (v : Int) (s_ : State) :
    keep (hostParamSet h id v s_) = keep s_ := by
  simp [hostParamSet]

@[simp] theorem hostParamBlockSet_keep (h : CmdHdr) (es : List (Nat × Int)) (s_ : State) :
    keep (hostParamBlockSet h es s_) = keep s_ := by
  simp [hostParamBlockSet]

@[simp] theorem hostParamBlockGet_keep (h : CmdHdr) (first count : Nat) (b : OutBuf) (s_ : State) :
    keep (hostParamBlockGet h first count b s_) = keep s_ := by
  simp [hostParamBlockGet]

@[simp] theorem hostFcs1GetParam_keep (h : CmdHdr) (id : Nat) (s_ : State) :
    keep (hostFcs1GetParam h id s_) = keep s_ := by
  simp [hostFcs1GetParam]

@[simp] theorem hostFcs1SetParam_keep (h : CmdHdr) (id : Nat) (v : Int) (s_ : State) :
    keep (hostFcs1SetParam h id v s_) = keep s_ := by
  simp [hostFcs1SetParam]

@[simp] theorem hostFcs1LoadParams_keep (h : CmdHdr) (es : List (Nat × Int)) (s_ : State) :
    keep (hostFcs1LoadParams h es s_) = keep s_ := by
  simp [hostFcs1LoadParams]

@[simp] theorem hostAdcCal_keep (h : CmdHdr) (s_ : State) : keep (hostAdcCal h s_) = keep s_ := by
  simp [hostAdcCal]

@[simp] theorem hostFcs1Calibrate_keep (h : CmdHdr) (s_ : State) : keep (hostFcs1Calibrate h s_) = keep s_ := by
  simp [hostFcs1Calibrate]

@[simp] theorem hostStatsClear_keep (h : CmdHdr) (s_ : State) : keep (hostStatsClear h s_) = keep s_ := by
  simp [hostStatsClear]

@[simp] theorem hostFcs1StatsReset_keep (h : CmdHdr) (s_ : State) : keep (hostFcs1StatsReset h s_) = keep s_ := by
  simp [hostFcs1StatsReset]

end Sys2Proof.Machine
end

