-- ==== Sys2Proof/Laws/KeepPair.lean ====
section
/-! SUPPORT. What an operation leaves as it is: the pair, power, held commands and the rim. -/

namespace Sys2Proof.Machine

open Sys2Proof

@[simp] theorem setRole_keep (r : Role) (synced : Bool) (step : Nat) (s : State) :
    keep (setRole r synced step s) = keep s := by
  simp [setRole]

@[simp] theorem joinStart_keep (s : State) : keep (joinStart s) = keep s := by
  simp [joinStart]

@[simp] theorem detach_keep (s : State) : keep (detach s) = keep s := by
  simp [detach]

@[simp] theorem lanesTake_keep (s : State) : keep (lanesTake s) = keep s := by
  simp [lanesTake]

@[simp] theorem takeRole_keep (s : State) : keep (takeRole s) = keep s := by
  simp [takeRole]

@[simp] theorem pairMsg_keep (p : PHdr) (f : State → State) (s0 : State) (hf : ∀ x : State, keep (f x) = keep x) :
    keep (pairMsg p f s0) = keep s0 := by
  simp only [pairMsg]; (repeat' split) <;> simp [*]

@[simp] theorem sameName_keep (sys : Nat) (s : State) : keep (sameName sys s) = keep s := by
  simp [sameName]

@[simp] theorem pairTableDiff_keep (s : State) : keep (pairTableDiff s) = keep s := by
  simp [pairTableDiff]

@[simp] theorem tableCompare_keep (crc : Nat) (s : State) : keep (tableCompare crc s) = keep s := by
  simp only [tableCompare]; (repeat' split) <;> simp

@[simp] theorem hbFields_keep (p : PHdr) (m : HbMsg) (s : State) : keep (hbFields p m s) = keep s := by
  simp [hbFields]

@[simp] theorem hbActive_keep (p : PHdr) (m : HbMsg) (s : State) : keep (hbActive p m s) = keep s := by
  simp [hbActive]

@[simp] theorem standbyVoid_keep (s : State) : keep (standbyVoid s) = keep s := by
  simp only [standbyVoid]; (repeat' split) <;> simp

@[simp] theorem hbHover_keep (m : HbMsg) (s : State) : keep (hbHover m s) = keep s := by
  simp [hbHover]

@[simp] theorem hbTake_keep (p : PHdr) (m : HbMsg) (s : State) : keep (hbTake p m s) = keep s := by
  simp [hbTake]

@[simp] theorem rodTake_keep (p : PHdr) (rods : List RodRec) (phases : List Nat) (s : State) :
    keep (rodTake p rods phases s) = keep s := by
  simp [rodTake]

@[simp] theorem cellTake_keep (p : PHdr) (l : List CellRec) (s : State) : keep (cellTake p l s) = keep s := by
  simp [cellTake]

@[simp] theorem loopTake_keep (p : PHdr) (l : List LoopRec) (s : State) : keep (loopTake p l s) = keep s := by
  simp [loopTake]

@[simp] theorem obsTake_keep (p : PHdr) (l : List ObsRec) (s : State) : keep (obsTake p l s) = keep s := by
  simp [obsTake]

@[simp] theorem mirrorTake_keep (pair gen seq : Nat) (bytes : List Byte) (s : State) :
    keep (mirrorTake pair gen seq bytes s) = keep s := by
  simp [mirrorTake]

@[simp] theorem mirAckCmd_keep (pair seq t : Nat) (s : State) : keep (mirAckCmd pair seq t s) = keep s := by
  simp only [mirAckCmd]; (repeat' split) <;> simp

@[simp] theorem mirAckOpen_keep (pair seq : Nat) (s : State) : keep (mirAckOpen pair seq s) = keep s := by
  simp only [mirAckOpen]; (repeat' split) <;> simp

@[simp] theorem mirAckTake_keep (pair seq t : Nat) (s : State) : keep (mirAckTake pair seq t s) = keep s := by
  simp [mirAckTake]

@[simp] theorem execTake_keep (pair seq num : Nat) (s : State) : keep (execTake pair seq num s) = keep s := by
  simp [execTake]

@[simp] theorem execAckTake_keep (num : Nat) (s : State) : keep (execAckTake num s) = keep s := by
  simp [execAckTake]

@[simp] theorem imageTake_keep (m : ImageMsg) (s : State) : keep (imageTake m s) = keep s := by
  simp [imageTake]

@[simp] theorem helloTake_keep (m : HelloMsg) (s : State) : keep (helloTake m s) = keep s := by
  simp [helloTake]

@[simp] theorem hoverAckTake_keep (fn : Nat) (s : State) : keep (hoverAckTake fn s) = keep s := by
  simp [hoverAckTake]

@[simp] theorem takeover_keep (s : State) : keep (takeover s) = keep s := by
  simp [takeover]

@[simp] theorem partnerLost_keep (s : State) : keep (partnerLost s) = keep s := by
  simp [partnerLost]

@[simp] theorem heartbeatJudge_keep (s : State) : keep (heartbeatJudge s) = keep s := by
  simp [heartbeatJudge]

@[simp] theorem removalPath_keep (s : State) : keep (removalPath s) = keep s := by
  simp [removalPath]

@[simp] theorem handoverVoid_keep (s : State) : keep (handoverVoid s) = keep s := by
  simp only [handoverVoid]; (repeat' split) <;> simp

@[simp] theorem handoverJudge_keep (s : State) : keep (handoverJudge s) = keep s := by
  simp [handoverJudge]

@[simp] theorem handoverRim_keep (s0 : State) : keep (handoverRim s0) = keep s0 := by
  simp [handoverRim]

@[simp] theorem handoverMonitorCheck_keep (s : State) : keep (handoverMonitorCheck s) = keep s := by
  simp [handoverMonitorCheck]

@[simp] theorem switchReply_keep (s : State) : keep (switchReply s) = keep s := by
  simp only [switchReply]; (repeat' split) <;> simp

@[simp] theorem askHandover_keep (w : HoverWhy) (s : State) : keep (askHandover w s) = keep s := by
  simp [askHandover]

@[simp] theorem announce__keep (s : State) : keep (announce_ s) = keep s := by
  simp only [announce_]; (repeat' split) <;> simp

@[simp] theorem observePlan_keep (k : Nat) (f : MxFrame) (s : State) : keep (observePlan k f s) = keep s := by
  simp [observePlan]

@[simp] theorem observeWeave_keep (k : Nat) (m : Mgt) (s : State) : keep (observeWeave k m s) = keep s := by
  simp [observeWeave]

@[simp] theorem observeFrame_keep (k : Nat) (f : MxFrame) (s : State) : keep (observeFrame k f s) = keep s := by
  simp [observeFrame]

@[simp] theorem pairSplit_keep (s : State) : keep (pairSplit s) = keep s := by
  simp [pairSplit]

@[simp] theorem mxFsDetect_keep (k fn sys t : Nat) (f : Option MxFrame) (s0 : State) :
    keep (mxFsDetect k fn sys t f s0) = keep s0 := by
  simp only [mxFsDetect]; (repeat' split) <;> simp

@[simp] theorem partnerLinkLock_keep (l : Nat) (s : State) : keep (partnerLinkLock l s) = keep s := by
  simp [partnerLinkLock]

@[simp] theorem partnerLinkDown_keep (l : Nat) (s : State) : keep (partnerLinkDown l s) = keep s := by
  simp [partnerLinkDown]

@[simp] theorem monitorLost_keep (k : Nat) (s : State) : keep (monitorLost k s) = keep s := by
  simp [monitorLost]

@[simp] theorem brdPresHigh_keep (s : State) : keep (brdPresHigh s) = keep s := by
  simp only [brdPresHigh]; (repeat' split) <;> simp

@[simp] theorem ptnrPresHigh_keep (s : State) : keep (ptnrPresHigh s) = keep s := by
  simp [ptnrPresHigh]

@[simp] theorem pairWaitEnd_keep (s : State) : keep (pairWaitEnd s) = keep s := by
  simp [pairWaitEnd]

@[simp] theorem imageApply_keep (s : State) : keep (imageApply s) = keep s := by
  simp only [imageApply]
  (repeat' (first | split | (refine (keep_foldl _ _ _ (fun a x => ?_)).trans ?_))) <;> first | (simp; done) | (simp_all; done)

@[simp] theorem joinTo_keep (n : Nat) (s : State) : keep (joinTo n s) = keep s := by
  simp [joinTo]

@[simp] theorem joinStepDone_keep (s : State) : keep (joinStepDone s) = keep s := by
  simp only [joinStepDone]; (repeat' split) <;> simp

@[simp] theorem pairJoinSlow_keep (s : State) : keep (pairJoinSlow s) = keep s := by
  simp [pairJoinSlow]

@[simp] theorem syncedLoss_keep (s : State) : keep (syncedLoss s) = keep s := by
  simp [syncedLoss]

@[simp] theorem cellAdoptAt_keep (c : CellRec) (s : State) : keep (cellAdoptAt c s) = keep s := by
  simp [cellAdoptAt]

@[simp] theorem rodAdopt_keep (rods : List RodRec) (phases : List Nat) (s : State) :
    keep (rodAdopt rods phases s) = keep s := by
  simp [rodAdopt]

@[simp] theorem loopAdopt_keep (r : LoopRec) (s : State) : keep (loopAdopt r s) = keep s := by
  simp only [loopAdopt]; (repeat' split) <;> simp

@[simp] theorem obsAdopt_keep (r : ObsRec) (s : State) : keep (obsAdopt r s) = keep s := by
  simp [obsAdopt]

@[simp] theorem devAdopt_keep_pending (s : State) : (keep (devAdopt s)).pending = (keep s).pending := by
  simp only [devAdopt]; (repeat' split) <;> simp [pending_eq]

@[simp] theorem devAdopt_keep_grid (s : State) : (keep (devAdopt s)).grid = (keep s).grid := by
  simp only [devAdopt]; (repeat' split) <;> simp [grid_eq]

@[simp] theorem devAdopt_keep_len (s : State) : (keep (devAdopt s)).len = (keep s).len := by
  simp only [devAdopt]; (repeat' split) <;> simp [len_eq]

@[simp] theorem devAdopt_keep_pub (s : State) : (keep (devAdopt s)).pub = (keep s).pub := by
  simp only [devAdopt]; (repeat' split) <;> simp [pub_eq]

@[simp] theorem devAdopt_keep_mem (s : State) : (keep (devAdopt s)).mem = (keep s).mem := by
  simp only [devAdopt]; (repeat' split) <;> simp [mem_eq]

@[simp] theorem followRim_keep (s : State) : keep (followRim s) = keep s := by
  simp only [followRim]; (repeat' split) <;> simp

@[simp] theorem unseenHold_keep (old s : State) : keep (unseenHold old s) = keep s := by
  simp [unseenHold]

@[simp] theorem pairRuns_keep (s : State) : keep (pairRuns s) = keep s := by
  simp [pairRuns]

@[simp] theorem cellSend_keep (s : State) : keep (cellSend s) = keep s := by
  simp [cellSend]

@[simp] theorem rotationSend_keep (s : State) : keep (rotationSend s) = keep s := by
  simp [rotationSend]

@[simp] theorem imageSend_keep (s : State) : keep (imageSend s) = keep s := by
  simp [imageSend]

@[simp] theorem pairSend_keep (rel : List Nat) (s : State) : keep (pairSend rel s) = keep s := by
  simp [pairSend]

@[simp] theorem askChange_keep (c : Ctx) (r : Role) (s : State) : keep (askChange c r s) = keep s := by
  simp [askChange]

@[simp] theorem pairSwitch_keep (c : Ctx) (s : State) : keep (pairSwitch c s) = keep s := by
  simp [pairSwitch]

@[simp] theorem pairLeave_keep (c : Ctx) (s : State) : keep (pairLeave c s) = keep s := by
  simp [pairLeave]

@[simp] theorem pairClaim_keep (c : Ctx) (s : State) : keep (pairClaim c s) = keep s := by
  simp [pairClaim]

@[simp] theorem pairRejoin_keep (c : Ctx) (s : State) : keep (pairRejoin c s) = keep s := by
  simp [pairRejoin]

@[simp] theorem roleChange_keep_pending (n : Nat) (r : Role) (s : State) :
    (keep (roleChange n r s)).pending = (keep s).pending := by
  simp only [roleChange]; (repeat' split) <;> simp

@[simp] theorem roleChange_keep_grid (n : Nat) (r : Role) (s : State) :
    (keep (roleChange n r s)).grid = (keep s).grid := by
  simp only [roleChange]; (repeat' split) <;> simp

@[simp] theorem roleChange_keep_len (n : Nat) (r : Role) (s : State) :
    (keep (roleChange n r s)).len = (keep s).len := by
  simp only [roleChange]; (repeat' split) <;> simp

@[simp] theorem roleChange_keep_pub (n : Nat) (r : Role) (s : State) :
    (keep (roleChange n r s)).pub = (keep s).pub := by
  simp only [roleChange]; (repeat' split) <;> simp

@[simp] theorem roleChange_keep_mem (n : Nat) (r : Role) (s : State) :
    (keep (roleChange n r s)).mem = (keep s).mem := by
  simp only [roleChange]; (repeat' split) <;> simp

@[simp] theorem changeRim_keep_pending (n : Nat) (s : State) : (keep (changeRim n s)).pending = (keep s).pending := by
  simp [changeRim, pending_eq]

@[simp] theorem changeRim_keep_grid (n : Nat) (s : State) : (keep (changeRim n s)).grid = (keep s).grid := by
  simp [changeRim, grid_eq]

@[simp] theorem changeRim_keep_len (n : Nat) (s : State) : (keep (changeRim n s)).len = (keep s).len := by
  simp [changeRim, len_eq]

@[simp] theorem changeRim_keep_pub (n : Nat) (s : State) : (keep (changeRim n s)).pub = (keep s).pub := by
  simp [changeRim, pub_eq]

@[simp] theorem changeRim_keep_mem (n : Nat) (s : State) : (keep (changeRim n s)).mem = (keep s).mem := by
  simp only [changeRim]
  (repeat' (first | split | (refine (keep_foldl _ _ _ (fun a x => ?_)).trans ?_))) <;> first | (simp [mem_eq]; done) | (simp_all [mem_eq]; done)

@[simp] theorem hostPairSwitch_keep (h : CmdHdr) (s_ : State) : keep (hostPairSwitch h s_) = keep s_ := by
  simp [hostPairSwitch]

@[simp] theorem hostPairLeave_keep (h : CmdHdr) (s_ : State) : keep (hostPairLeave h s_) = keep s_ := by
  simp [hostPairLeave]

@[simp] theorem hostPairClaim_keep (h : CmdHdr) (s_ : State) : keep (hostPairClaim h s_) = keep s_ := by
  simp [hostPairClaim]

@[simp] theorem hostPairRejoin_keep (h : CmdHdr) (s_ : State) : keep (hostPairRejoin h s_) = keep s_ := by
  simp [hostPairRejoin]

@[simp] theorem fullReset_keep_pending (s : State) : (keep (fullReset s)).pending = (keep s).pending := by
  simp [fullReset, pending_eq]

@[simp] theorem aonReset_keep_pending (cause : Nat) (s : State) :
    (keep (aonReset cause s)).pending = (keep s).pending := by
  simp [aonReset, pending_eq]

@[simp] theorem powerOn_keep_pending (s : State) : (keep (powerOn s)).pending = (keep s).pending := by
  simp [powerOn]

@[simp] theorem powerLoss_keep_pending (s : State) : (keep (powerLoss s)).pending = (keep s).pending := by
  simp [powerLoss]

@[simp] theorem boardReset_keep_pending (s : State) : (keep (boardReset s)).pending = (keep s).pending := by
  simp only [boardReset]; (repeat' split) <;> simp

@[simp] theorem fatalRestart_keep_pending (t : Nat) (s : State) :
    (keep (fatalRestart t s)).pending = (keep s).pending := by
  simp [fatalRestart, pending_eq]

@[simp] theorem devRestartExpire_keep_pending (s : State) : (keep (devRestartExpire s)).pending = (keep s).pending := by
  simp only [devRestartExpire]; (repeat' split) <;> simp

@[simp] theorem leaveReset_keep_pending (sys : Nat) (s : State) :
    (keep (leaveReset sys s)).pending = (keep s).pending := by
  simp only [leaveReset]; (repeat' split) <;> simp [pending_eq]

@[simp] theorem leaveReset_keep_grid (sys : Nat) (s : State) : (keep (leaveReset sys s)).grid = (keep s).grid := by
  simp only [leaveReset]; (repeat' split) <;> simp [grid_eq]

@[simp] theorem leaveReset_keep_len (sys : Nat) (s : State) : (keep (leaveReset sys s)).len = (keep s).len := by
  simp [leaveReset, len_eq]

@[simp] theorem leaveReset_keep_pub (sys : Nat) (s : State) : (keep (leaveReset sys s)).pub = (keep s).pub := by
  simp only [leaveReset]; (repeat' split) <;> simp [pub_eq]

@[simp] theorem leaveReset_keep_mem (sys : Nat) (s : State) : (keep (leaveReset sys s)).mem = (keep s).mem := by
  simp only [leaveReset]; (repeat' split) <;> simp [mem_eq]

@[simp] theorem domainOn_keep (d : Nat) (s : State) : keep (domainOn d s) = keep s := by
  simp [domainOn]

@[simp] theorem switchStart_keep (s : State) : keep (switchStart s) = keep s := by
  simp only [switchStart]; (repeat' split) <;> simp

@[simp] theorem domainOff_keep (d : Nat) (s : State) : keep (domainOff d s) = keep s := by
  simp [domainOff]

@[simp] theorem domainSwitched_keep (s : State) : keep (domainSwitched s) = keep s := by
  simp only [domainSwitched]; (repeat' split) <;> simp

@[simp] theorem pwrDomain_keep (c : Ctx) (mask on : Nat) (s : State) : keep (pwrDomain c mask on s) = keep s := by
  simp [pwrDomain]

@[simp] theorem hostPwrDomain_keep (h : CmdHdr) (mask on : Nat) (s_ : State) :
    keep (hostPwrDomain h mask on s_) = keep s_ := by
  simp [hostPwrDomain]

@[simp] theorem devRestart_keep (c : Ctx) (s : State) : keep (devRestart c s) = keep s := by
  simp [devRestart]

@[simp] theorem hostDevRestart_keep (h : CmdHdr) (s_ : State) : keep (hostDevRestart h s_) = keep s_ := by
  simp [hostDevRestart]

@[simp] theorem pwrFailAssert_keep (ends : List Nat) (s : State) : keep (pwrFailAssert ends s) = keep s := by
  simp [pwrFailAssert]

@[simp] theorem stepBegin_keep_pending (s : State) : (keep (stepBegin s)).pending = (keep s).pending := by
  simp only [stepBegin]; (repeat' split) <;> simp [pending_eq]

@[simp] theorem stepBegin_keep_st (s : State) : (keep (stepBegin s)).st = (keep s).st := by
  simp only [stepBegin]; (repeat' split) <;> simp [st_eq]

@[simp] theorem stepBegin_keep_grid (s : State) : (keep (stepBegin s)).grid = (keep s).grid := by
  simp only [stepBegin]; (repeat' split) <;> simp [grid_eq]

@[simp] theorem stepBegin_keep_pub (s : State) : (keep (stepBegin s)).pub = (keep s).pub := by
  simp only [stepBegin]; (repeat' split) <;> simp [pub_eq]

@[simp] theorem stepBegin_keep_mem (s : State) : (keep (stepBegin s)).mem = (keep s).mem := by
  simp only [stepBegin]; (repeat' split) <;> simp [mem_eq]

@[simp] theorem restoreStep_keep_pending (inp : StartIn) (s : State) :
    (keep (restoreStep inp s)).pending = (keep s).pending := by
  simp only [restoreStep]; (repeat' split) <;> simp [pending_eq]

@[simp] theorem restoreStep_keep_st (inp : StartIn) (s : State) : (keep (restoreStep inp s)).st = (keep s).st := by
  simp only [restoreStep]; (repeat' split) <;> simp [st_eq]

@[simp] theorem restoreStep_keep_grid (inp : StartIn) (s : State) :
    (keep (restoreStep inp s)).grid = (keep s).grid := by
  simp only [restoreStep]; (repeat' split) <;> simp [grid_eq]

@[simp] theorem restoreStep_keep_len (inp : StartIn) (s : State) : (keep (restoreStep inp s)).len = (keep s).len := by
  simp only [restoreStep]; (repeat' split) <;> simp [len_eq]

@[simp] theorem restoreStep_keep_pub (inp : StartIn) (s : State) : (keep (restoreStep inp s)).pub = (keep s).pub := by
  simp only [restoreStep]; (repeat' split) <;> simp [pub_eq]

theorem stepWork_keep_pending (inp : StartIn) (s s1 : State) (h : stepWork inp s = some s1) :
    (keep s1).pending = (keep s).pending := by
  unfold stepWork at h
  split at h
  all_goals first | (simp at h; done) | skip
  all_goals (try dsimp only at h)
  all_goals (try split at h)
  all_goals first
    | (simp at h; done)
    | (rw [← Option.some.inj h]; done)
    | (rw [← Option.some.inj h]; simp [pending_eq]; done)

@[simp] theorem startUpStep_keep_pending (inp : StartIn) (s : State) :
    (keep (startUpStep inp s)).pending = (keep s).pending := by
  simp only [startUpStep]
  split
  · rfl
  · split
    · rename_i s1 h
      have hk := stepWork_keep_pending inp s s1 h
      (repeat' split) <;> simp [hk, pending_eq]
    · rfl

theorem stepWork_keep_grid (inp : StartIn) (s s1 : State) (h : stepWork inp s = some s1) :
    (keep s1).grid = (keep s).grid := by
  unfold stepWork at h
  split at h
  all_goals first | (simp at h; done) | skip
  all_goals (try dsimp only at h)
  all_goals (try split at h)
  all_goals first
    | (simp at h; done)
    | (rw [← Option.some.inj h]; done)
    | (rw [← Option.some.inj h]; simp [grid_eq]; done)

@[simp] theorem startUpStep_keep_grid (inp : StartIn) (s : State) :
    (keep (startUpStep inp s)).grid = (keep s).grid := by
  simp only [startUpStep]
  split
  · rfl
  · split
    · rename_i s1 h
      have hk := stepWork_keep_grid inp s s1 h
      (repeat' split) <;> simp [hk, grid_eq]
    · rfl

theorem stepWork_keep_pub (inp : StartIn) (s s1 : State) (h : stepWork inp s = some s1) :
    (keep s1).pub = (keep s).pub := by
  unfold stepWork at h
  split at h
  all_goals first | (simp at h; done) | skip
  all_goals (try dsimp only at h)
  all_goals (try split at h)
  all_goals first
    | (simp at h; done)
    | (rw [← Option.some.inj h]; done)
    | (rw [← Option.some.inj h]; simp [pub_eq]; done)

@[simp] theorem startUpStep_keep_pub (inp : StartIn) (s : State) :
    (keep (startUpStep inp s)).pub = (keep s).pub := by
  simp only [startUpStep]
  split
  · rfl
  · split
    · rename_i s1 h
      have hk := stepWork_keep_pub inp s s1 h
      (repeat' split) <;> simp [hk, pub_eq]
    · rfl

@[simp] theorem pwrFailSequenceEnd_keep_pending (high : Bool) (s : State) :
    (keep (pwrFailSequenceEnd high s)).pending = (keep s).pending := by
  simp only [pwrFailSequenceEnd]; (repeat' split) <;> simp [pending_eq]

@[simp] theorem pwrFailSequenceEnd_keep_st (high : Bool) (s : State) :
    (keep (pwrFailSequenceEnd high s)).st = (keep s).st := by
  simp only [pwrFailSequenceEnd]; (repeat' split) <;> simp [st_eq]

@[simp] theorem pwrFailSequenceEnd_keep_grid (high : Bool) (s : State) :
    (keep (pwrFailSequenceEnd high s)).grid = (keep s).grid := by
  simp [pwrFailSequenceEnd, grid_eq]

@[simp] theorem pwrFailSequenceEnd_keep_pub (high : Bool) (s : State) :
    (keep (pwrFailSequenceEnd high s)).pub = (keep s).pub := by
  simp only [pwrFailSequenceEnd]; (repeat' split) <;> simp [pub_eq]

@[simp] theorem pwrFailSequenceEnd_keep_mem (high : Bool) (s : State) :
    (keep (pwrFailSequenceEnd high s)).mem = (keep s).mem := by
  simp only [pwrFailSequenceEnd]; (repeat' split) <;> simp [mem_eq]

@[simp] theorem firstRim_keep (s : State) : keep (firstRim s) = keep s := by
  simp [firstRim]

@[simp] theorem startingEnds_keep_pending (s : State) : (keep (startingEnds s)).pending = (keep s).pending := by
  simp only [startingEnds]; (repeat' split) <;> simp [pending_eq]

@[simp] theorem startingEnds_keep_grid (s : State) : (keep (startingEnds s)).grid = (keep s).grid := by
  simp only [startingEnds]; (repeat' split) <;> simp [grid_eq]

@[simp] theorem startingEnds_keep_len (s : State) : (keep (startingEnds s)).len = (keep s).len := by
  simp [startingEnds, len_eq]

@[simp] theorem startingEnds_keep_pub (s : State) : (keep (startingEnds s)).pub = (keep s).pub := by
  simp only [startingEnds]; (repeat' split) <;> simp [pub_eq]

@[simp] theorem startingEnds_keep_mem (s : State) : (keep (startingEnds s)).mem = (keep s).mem := by
  simp only [startingEnds]; (repeat' split) <;> simp [mem_eq]

@[simp] theorem tempHigh_keep (tj : Int) (s : State) : keep (tempHigh tj s) = keep s := by
  simp [tempHigh]

@[simp] theorem tempRim_keep (tj : Int) (s : State) : keep (tempRim tj s) = keep s := by
  simp [tempRim]

@[simp] theorem undate_keep (s : State) : keep (undate s) = keep s := by
  simp [undate]

@[simp] theorem adoptGrid_keep_pending (t count wrap g : Nat) (s : State) :
    (keep (adoptGrid t count wrap g s)).pending = (keep s).pending := by
  simp [adoptGrid, pending_eq]

@[simp] theorem adoptGrid_keep_st (t count wrap g : Nat) (s : State) :
    (keep (adoptGrid t count wrap g s)).st = (keep s).st := by
  simp [adoptGrid, st_eq]

@[simp] theorem adoptGrid_keep_pub (t count wrap g : Nat) (s : State) :
    (keep (adoptGrid t count wrap g s)).pub = (keep s).pub := by
  simp [adoptGrid, pub_eq]

@[simp] theorem adoptGrid_keep_mem (t count wrap g : Nat) (s : State) :
    (keep (adoptGrid t count wrap g s)).mem = (keep s).mem := by
  simp [adoptGrid, mem_eq]

@[simp] theorem syncInEdge_keep_pending (t count wrap g : Nat) (s : State) :
    (keep (syncInEdge t count wrap g s)).pending = (keep s).pending := by
  simp only [syncInEdge]; (repeat' split) <;> simp [pending_eq]

@[simp] theorem syncInEdge_keep_st (t count wrap g : Nat) (s : State) :
    (keep (syncInEdge t count wrap g s)).st = (keep s).st := by
  simp only [syncInEdge]; (repeat' split) <;> simp [st_eq]

@[simp] theorem syncInEdge_keep_pub (t count wrap g : Nat) (s : State) :
    (keep (syncInEdge t count wrap g s)).pub = (keep s).pub := by
  simp only [syncInEdge]; (repeat' split) <;> simp [pub_eq]

@[simp] theorem syncInEdge_keep_mem (t count wrap g : Nat) (s : State) :
    (keep (syncInEdge t count wrap g s)).mem = (keep s).mem := by
  simp only [syncInEdge]; (repeat' split) <;> simp [mem_eq]

@[simp] theorem execHost_keep_pending (i : Instr) (s_ : State) :
    (keep (execHost i s_)).pending = (keep s_).pending := by
  simp only [execHost]; (repeat' split) <;> simp

@[simp] theorem execHost_keep_st (i : Instr) (s_ : State) : (keep (execHost i s_)).st = (keep s_).st := by
  simp only [execHost]; (repeat' split) <;> simp

@[simp] theorem execHost_keep_grid (i : Instr) (s_ : State) : (keep (execHost i s_)).grid = (keep s_).grid := by
  simp only [execHost]; (repeat' split) <;> simp

@[simp] theorem execHost_keep_len (i : Instr) (s_ : State) : (keep (execHost i s_)).len = (keep s_).len := by
  simp only [execHost]; (repeat' split) <;> simp

@[simp] theorem execHost_keep_pub (i : Instr) (s_ : State) : (keep (execHost i s_)).pub = (keep s_).pub := by
  simp only [execHost]; (repeat' split) <;> simp

@[simp] theorem runHeld_keep_pending (s : State) : (keep (runHeld s)).pending = (keep s).pending := by
  simp [runHeld, pending_eq]

@[simp] theorem runHeld_keep_st (s : State) : (keep (runHeld s)).st = (keep s).st := by
  simp [runHeld, st_eq]

@[simp] theorem runHeld_keep_grid (s : State) : (keep (runHeld s)).grid = (keep s).grid := by
  simp [runHeld, grid_eq]

@[simp] theorem runHeld_keep_len (s : State) : (keep (runHeld s)).len = (keep s).len := by
  simp [runHeld, len_eq]

@[simp] theorem runHeld_keep_pub (s : State) : (keep (runHeld s)).pub = (keep s).pub := by
  simp [runHeld, pub_eq]

@[simp] theorem overrun_keep (s : State) : keep (overrun s) = keep s := by
  simp [overrun]

@[simp] theorem frmGuard_keep (s : State) : keep (frmGuard s) = keep s := by
  simp only [frmGuard]; (repeat' split) <;> simp

@[simp] theorem frmOverrun2_keep (s : State) : keep (frmOverrun2 s) = keep s := by
  simp only [frmOverrun2]; (repeat' split) <;> simp

@[simp] theorem fabricComplete_keep (t : Nat) (stages : List Nat) (s0 : State) :
    keep (fabricComplete t stages s0) = keep s0 := by
  simp only [fabricComplete]; (repeat' split) <;> simp

@[simp] theorem relCount_keep (rel : List Nat) (s : State) : keep (relCount rel s) = keep s := by
  simp [relCount]

@[simp] theorem relCells_keep (st0 : State) (comp : Bool) (p : Option Plan) (rel : List Nat) (t0 len : Nat) (s : State) :
    keep (relCells st0 comp p rel t0 len s) = keep s := by
  simp [relCells]

@[simp] theorem release_keep (st0 : State) (comp : Bool) (n : Nat) (s : State) :
    keep (release st0 comp n s) = keep s := by
  simp [release]

@[simp] theorem testRelease_keep (n : Nat) (s : State) : keep (testRelease n s) = keep s := by
  simp only [testRelease]; (repeat' split) <;> simp

@[simp] theorem rimAdvance_keep_pending (s : State) : (keep (rimAdvance s)).pending = (keep s).pending := by
  simp [rimAdvance, pending_eq]

@[simp] theorem rimAdvance_keep_st (s : State) : (keep (rimAdvance s)).st = (keep s).st := by
  simp [rimAdvance, st_eq]

@[simp] theorem rimAdvance_keep_pub (s : State) : (keep (rimAdvance s)).pub = (keep s).pub := by
  simp [rimAdvance, pub_eq]

@[simp] theorem rimAdvance_keep_mem (s : State) : (keep (rimAdvance s)).mem = (keep s).mem := by
  simp [rimAdvance, mem_eq]

@[simp] theorem fltAct_keep (s : State) : keep (fltAct s) = keep s := by
  simp only [fltAct]; (repeat' split) <;> simp

@[simp] theorem ctlAct_keep (s : State) : keep (ctlAct s) = keep s := by
  simp [ctlAct]

@[simp] theorem rimCommands_keep_pending (old : State) (n : Nat) (s : State) :
    (keep (rimCommands old n s).1).pending = (keep s).pending := by
  simp [rimCommands]

@[simp] theorem rimCommands_keep_grid (old : State) (n : Nat) (s : State) :
    (keep (rimCommands old n s).1).grid = (keep s).grid := by
  simp [rimCommands]

@[simp] theorem rimCommands_keep_len (old : State) (n : Nat) (s : State) :
    (keep (rimCommands old n s).1).len = (keep s).len := by
  simp [rimCommands]

@[simp] theorem rimCommands_keep_pub (old : State) (n : Nat) (s : State) :
    (keep (rimCommands old n s).1).pub = (keep s).pub := by
  simp [rimCommands]

@[simp] theorem rimCommands_keep_mem (old : State) (n : Nat) (s : State) :
    (keep (rimCommands old n s).1).mem = (keep s).mem := by
  simp [rimCommands]

@[simp] theorem rimRules_keep_pending (old : State) (n : Nat) (s : State) :
    (keep (rimRules old n s)).pending = (keep s).pending := by
  simp [rimRules]

@[simp] theorem rimRules_keep_grid (old : State) (n : Nat) (s : State) :
    (keep (rimRules old n s)).grid = (keep s).grid := by
  simp [rimRules]

@[simp] theorem rimRules_keep_len (old : State) (n : Nat) (s : State) :
    (keep (rimRules old n s)).len = (keep s).len := by
  simp only [rimRules]; (repeat' split) <;> simp [len_eq]

@[simp] theorem rimRules_keep_pub (old : State) (n : Nat) (s : State) :
    (keep (rimRules old n s)).pub = (keep s).pub := by
  simp [rimRules]

@[simp] theorem rimRules_keep_mem (old : State) (n : Nat) (s : State) :
    (keep (rimRules old n s)).mem = (keep s).mem := by
  simp only [rimRules]; (repeat' split) <;> simp

@[simp] theorem offRim_keep (s : State) : keep (offRim s) = keep s := by
  simp only [offRim]; (repeat' split) <;> simp

@[simp] theorem startRim_keep_pending (s : State) : (keep (startRim s)).pending = (keep s).pending := by
  simp only [startRim]; (repeat' split) <;> simp

@[simp] theorem startRim_keep_grid (s : State) : (keep (startRim s)).grid = (keep s).grid := by
  simp only [startRim]; (repeat' split) <;> simp

@[simp] theorem startRim_keep_len (s : State) : (keep (startRim s)).len = (keep s).len := by
  simp [startRim]

@[simp] theorem startRim_keep_pub (s : State) : (keep (startRim s)).pub = (keep s).pub := by
  simp only [startRim]; (repeat' split) <;> simp

@[simp] theorem startRim_keep_mem (s : State) : (keep (startRim s)).mem = (keep s).mem := by
  simp only [startRim]; (repeat' split) <;> simp

@[simp] theorem rimGrid_keep (s : State) : keep (rimGrid s) = keep s := by
  simp [rimGrid]

@[simp] theorem rimWork_keep (s : State) : keep (rimWork s) = keep s := by
  simp [rimWork]

@[simp] theorem frameWork_keep (inp : RimIn) (t0 : Nat) (s : State) : keep (frameWork inp t0 s) = keep s := by
  simp [frameWork]

@[simp] theorem rimReplies_keep (old : State) (n : Nat) (ws : List PWrite) (cs : List (PendCell × List Nat)) (s : State) :
    keep (rimReplies old n ws cs s) = keep s := by
  simp [rimReplies]

@[simp] theorem rimOpen_keep_pending (inp : RimIn) (s : State) : (keep (rimOpen inp s)).pending = (keep s).pending := by
  simp [rimOpen, pending_eq]

@[simp] theorem rimOpen_keep_pub (inp : RimIn) (s : State) : (keep (rimOpen inp s)).pub = (keep s).pub := by
  simp [rimOpen, pub_eq]

@[simp] theorem rimRelease_keep_pending (old : State) (first comp : Bool) (n : Nat) (s : State) :
    (keep (rimRelease old first comp n s)).pending = (keep s).pending := by
  simp only [rimRelease]
  (repeat' split) <;> simp [pending_eq]

@[simp] theorem rimRelease_keep_st (old : State) (first comp : Bool) (n : Nat) (s : State) :
    (keep (rimRelease old first comp n s)).st = (keep s).st := by
  simp only [rimRelease]
  (repeat' split) <;> simp [st_eq]

theorem rimRelease_keep_len (old : State) (first comp : Bool) (n : Nat) (s : State) :
    (keep (rimRelease old first comp n s)).len = (keep s).len := by
  simp only [rimRelease]
  (repeat' split) <;> simp [len_eq]

@[simp] theorem rimRelease_keep_grid (old : State) (first comp : Bool) (n : Nat) (s : State) :
    (keep (rimRelease old first comp n s)).grid = (keep s).grid := by
  simp only [rimRelease]
  (repeat' split) <;> simp [grid_eq]

@[simp] theorem rimRelease_keep_mem (old : State) (first comp : Bool) (n : Nat) (s : State) :
    (keep (rimRelease old first comp n s)).mem = (keep s).mem := by
  simp only [rimRelease]
  (repeat' split) <;> simp [mem_eq]

@[simp] theorem rim_keep_pending (inp : RimIn) (s0 : State) : (keep (rim inp s0)).pending = (keep s0).pending := by
  simp only [rim]; (repeat' split) <;> simp

@[simp] theorem tripPairDiff_keep (i : Nat) (s : State) : keep (tripPairDiff i s) = keep s := by
  simp [tripPairDiff]

end Sys2Proof.Machine
end

