-- ==== Sys2Proof/Laws/Held.lean ====
section
/-! SUPPORT. The operations of the commands that wake held host commands leave the held commands as they are. -/

namespace Sys2Proof.Machine

open Sys2Proof

/-- The host commands that wait for their turn. -/
def heldOf (s : State) : List Instr := s.hif.held

@[simp] theorem heldOf_mk st frm flt evr jnl hif params pair pwr adc ref ctl cells obs rnk fir lnk cev
    trp sbk time tout pll trc sch free now out pub pending :
    heldOf ⟨⟨st, frm, flt, evr, jnl, hif, params, pair, pwr, adc, ref, ctl, cells, obs, rnk, fir, lnk, cev,
      trp, sbk, time, tout, pll, trc, sch, free, now⟩, out, pub, pending⟩ = hif.held := rfl

@[simp] theorem heldOf_fold (s : State) : s.hif.held = heldOf s := rfl

@[simp] theorem heldOf_ite (c : Prop) [Decidable c] (a b : State) :
    heldOf (if c then a else b) = if c then heldOf a else heldOf b := by split <;> rfl

@[simp] theorem held_foldl {α} (l : List α) (f : State → α → State) (s : State)
    (h : ∀ a x, heldOf (f a x) = heldOf a) : heldOf (l.foldl f s) = heldOf s := foldl_kept heldOf l f s h

@[simp] theorem State_draw_held (s : State) : heldOf (State.draw s) = heldOf s := by
  simp [State.draw]

@[simp] theorem State_emit_held (o : Output) (s : State) : heldOf (State.emit o s) = heldOf s := by
  rfl

@[simp] theorem State_tell_held (m : PMsg) (s : State) : heldOf (State.tell m s) = heldOf s := by
  simp [State.tell]

@[simp] theorem State_at_held (t : Nat) (s : State) : heldOf (State.at t s) = heldOf s := by
  simp [State.at]

@[simp] theorem fltCore_held (m : FMsg) (fr : Nat) (s : State) : heldOf (fltCore m fr s).1 = heldOf s := by
  simp [fltCore]

@[simp] theorem evrPush_held (tr : Trig) (s : State) : heldOf (evrPush tr s) = heldOf s := by
  simp [evrPush]

@[simp] theorem fltTake_held (m : FMsg) (fr : Nat) (s : State) : heldOf (fltTake m fr s) = heldOf s := by
  simp [fltTake]

@[simp] theorem raiseSev_held (blk inst kind sev detail : Nat) (s : State) :
    heldOf (raiseSev blk inst kind sev detail s) = heldOf s := by
  simp [raiseSev]

@[simp] theorem raise_held (blk inst kind detail : Nat) (s : State) :
    heldOf (raise blk inst kind detail s) = heldOf s := by
  simp [raise]

@[simp] theorem raiseIf_held (c : Bool) (blk inst kind detail : Nat) (s : State) :
    heldOf (raiseIf c blk inst kind detail s) = heldOf s := by
  simp [raiseIf]

@[simp] theorem jnlFullCheck_held (s : State) : heldOf (jnlFullCheck s) = heldOf s := by
  simp [jnlFullCheck]

@[simp] theorem jnlAdd_held (pl : JPayload) (s : State) : heldOf (jnlAdd pl s) = heldOf s := by
  simp [jnlAdd]

@[simp] theorem pushReply_held (r : Reply) (s : State) : heldOf (pushReply r s) = heldOf s := by
  simp [pushReply]

@[simp] theorem complete_held (r : Reply) (s : State) : heldOf (complete r s) = heldOf s := by
  simp [complete]

@[simp] theorem deliver_held (op : Nat) (r : Reply) (s : State) : heldOf (deliver op r s) = heldOf s := by
  simp [deliver]

@[simp] theorem finish_held (c : Ctx) (status : Nat) (data : List Byte) (s : State) :
    heldOf (finish c status data s) = heldOf s := by
  simp [finish]

@[simp] theorem done_held (c : Ctx) (data : List Byte) (s : State) : heldOf (done c data s) = heldOf s := by
  simp [done]

@[simp] theorem refuse_held (c : Ctx) (status : Nat) (s : State) : heldOf (refuse c status s) = heldOf s := by
  simp [refuse]

@[simp] theorem sendExec_held (acked : Bool) (c : Ctx) (s : State) : heldOf (sendExec acked c s) = heldOf s := by
  simp [sendExec]

@[simp] theorem markExec_held (c : Ctx) (s : State) : heldOf (markExec c s) = heldOf s := by
  simp [markExec]

@[simp] theorem notActive_held (c : Ctx) (s : State) : heldOf (notActive c s) = heldOf s := by
  simp [notActive]

@[simp] theorem checked_held (c : Ctx) (states : DevState → Bool) (own : State → State) (s : State) (hown : ∀ x : State, heldOf (own x) = heldOf x) :
    heldOf (checked c states own s) = heldOf s := by
  simp only [checked]; (repeat' split) <;> simp [*]

@[simp] theorem followJoin_held (c : Ctx) (s : State) : heldOf (followJoin c s) = heldOf s := by
  simp [followJoin]

@[simp] theorem spClear_held (gs : List Nat) (s : State) : heldOf (spClear gs s).1 = heldOf s := by
  simp [spClear]

@[simp] theorem spAppend_held (e : RampArgs) (seq : Nat) (s : State) : heldOf (spAppend e seq s) = heldOf s := by
  simp [spAppend]

@[simp] theorem refQueue_held (c : Ctx) (e : RampArgs) (s : State) : heldOf (refQueue c e s) = heldOf s := by
  simp [refQueue]

@[simp] theorem refReplace_held (c : Ctx) (e : RampArgs) (s : State) : heldOf (refReplace c e s) = heldOf s := by
  simp [refReplace]

@[simp] theorem refStop_held (c : Ctx) (g : Nat) (s : State) : heldOf (refStop c g s) = heldOf s := by
  simp [refStop]

@[simp] theorem refPhaseLoad_held (c : Ctx) (nco frame phase : Nat) (s : State) :
    heldOf (refPhaseLoad c nco frame phase s) = heldOf s := by
  simp [refPhaseLoad]

@[simp] theorem calAbort_held (s : State) : heldOf (calAbort s) = heldOf s := by
  simp only [calAbort]; (repeat' split) <;> simp

@[simp] theorem calDone_held (t : Nat) (sums : List CalSum) (s : State) : heldOf (calDone t sums s) = heldOf s := by
  simp only [calDone]; (repeat' split) <;> simp

@[simp] theorem markDirty_held (ks : List Nat) (s : State) : heldOf (markDirty ks s) = heldOf s := by
  simp [markDirty]

@[simp] theorem tripLane_held (a mask t k : Nat) (s : State) : heldOf (tripLane a mask t k s) = heldOf s := by
  simp [tripLane]

@[simp] theorem tripEvent_held (a mask t : Nat) (s : State) : heldOf (tripEvent a mask t s) = heldOf s := by
  simp [tripEvent]

@[simp] theorem tripUpdate_held (t : Nat) (s : State) : heldOf (tripUpdate t s) = heldOf s := by
  simp [tripUpdate]

@[simp] theorem injectSafeBlock_held (cause detail t : Nat) (s : State) :
    heldOf (injectSafeBlock cause detail t s) = heldOf s := by
  simp [injectSafeBlock]

@[simp] theorem raiseLatch_held (i : Nat) (s : State) : heldOf (raiseLatch i s) = heldOf s := by
  simp [raiseLatch]

@[simp] theorem latchAgain_held (i : Nat) (stamp : Option Nat) (s : State) :
    heldOf (latchAgain i stamp s) = heldOf s := by
  simp [latchAgain]

@[simp] theorem latchSet_held (i : Nat) (stamp : Option Nat) (s : State) : heldOf (latchSet i stamp s) = heldOf s := by
  simp [latchSet]

@[simp] theorem latchInfo_held (before after : State) (i : Nat) (s : State) :
    heldOf (latchInfo before after i s) = heldOf s := by
  simp [latchInfo]

@[simp] theorem tripLatch_held (is_ : List Nat) (stamp : Option Nat) (t : Nat) (s : State) :
    heldOf (tripLatch is_ stamp t s) = heldOf s := by
  simp [tripLatch]

@[simp] theorem trpClear_held (c : Ctx) (inputs : Nat) (tg : Bool) (idle : List Nat) (s : State) :
    heldOf (trpClear c inputs tg idle s) = heldOf s := by
  simp only [trpClear]; (repeat' split) <;> simp

@[simp] theorem trpTest_held (c : Ctx) (inputs : Nat) (s : State) : heldOf (trpTest c inputs s) = heldOf s := by
  simp [trpTest]

@[simp] theorem testAbort_held (sel : TestEdge → Bool) (s : State) : heldOf (testAbort sel s) = heldOf s := by
  simp [testAbort]

@[simp] theorem testEnd_held (sel : Nat → Bool) (s : State) : heldOf (testEnd sel s) = heldOf s := by
  simp [testEnd]

@[simp] theorem firTestEdge_held (c : Ctx) (k code time : Nat) (s : State) :
    heldOf (firTestEdge c k code time s) = heldOf s := by
  simp [firTestEdge]

@[simp] theorem firTestEnd_held (c : Ctx) (k : Nat) (s : State) : heldOf (firTestEnd c k s) = heldOf s := by
  simp [firTestEnd]

@[simp] theorem cellWait_held (c : Ctx) (op : CellOp) (bound16 forced : Bool) (s : State) :
    heldOf (cellWait c op bound16 forced s) = heldOf s := by
  simp [cellWait]

@[simp] theorem refuseAt_held (c : Ctx) (status k : Nat) (s : State) : heldOf (refuseAt c status k s) = heldOf s := by
  simp [refuseAt]

@[simp] theorem cellBind_held (c : Ctx) (b : BindArgs) (s : State) : heldOf (cellBind c b s) = heldOf s := by
  simp only [cellBind]; (repeat' split) <;> simp

@[simp] theorem cellRange_held (c : Ctx) (op : CellOp) (first count : Nat) (ok : Entry → Bool) (takes : Bool) (bound16 : Bool) (s : State) :
    heldOf (cellRange c op first count ok takes bound16 s) = heldOf s := by
  simp only [cellRange]; (repeat' split) <;> simp

@[simp] theorem cellUnbind_held (c : Ctx) (first count : Nat) (s : State) :
    heldOf (cellUnbind c first count s) = heldOf s := by
  simp [cellUnbind]

@[simp] theorem cellBlock_held (c : Ctx) (first count : Nat) (s : State) :
    heldOf (cellBlock c first count s) = heldOf s := by
  simp [cellBlock]

@[simp] theorem cellRelease_held (c : Ctx) (first count : Nat) (s : State) :
    heldOf (cellRelease c first count s) = heldOf s := by
  simp [cellRelease]

@[simp] theorem cellBypass_held (c : Ctx) (first count : Nat) (s : State) :
    heldOf (cellBypass c first count s) = heldOf s := by
  simp [cellBypass]

@[simp] theorem cellReplace_held (c : Ctx) (k cellId : Nat) (s : State) :
    heldOf (cellReplace c k cellId s) = heldOf s := by
  simp [cellReplace]

@[simp] theorem cellSet_held (c : Ctx) (k mask minInt cNom : Nat) (s : State) :
    heldOf (cellSet c k mask minInt cNom s) = heldOf s := by
  simp [cellSet]

@[simp] theorem cellLoad_held (c : Ctx) (first : Nat) (ps : List (List Byte)) (s : State) :
    heldOf (cellLoad c first ps s) = heldOf s := by
  simp only [cellLoad]; (repeat' split) <;> simp

@[simp] theorem cellClear_held (c : Ctx) (first count : Nat) (s : State) :
    heldOf (cellClear c first count s) = heldOf s := by
  simp [cellClear]

@[simp] theorem fireP_held (sel : Nat → Bool) (s : State) : heldOf (fireP sel s) = heldOf s := by
  simp [fireP]

@[simp] theorem lnkRestart_held (c : Ctx) (mask : Nat) (s : State) : heldOf (lnkRestart c mask s) = heldOf s := by
  simp [lnkRestart]

@[simp] theorem toutArm_held (c : Ctx) (a : ToutArgs) (s : State) : heldOf (toutArm c a s) = heldOf s := by
  simp [toutArm]

@[simp] theorem toutStop_held (c : Ctx) (i : Nat) (s : State) : heldOf (toutStop c i s) = heldOf s := by
  simp [toutStop]

@[simp] theorem timeSelect_held (c : Ctx) (d : Nat) (s : State) : heldOf (timeSelect c d s) = heldOf s := by
  simp [timeSelect]

@[simp] theorem timeStepNow_held (c : Ctx) (s : State) : heldOf (timeStepNow c s) = heldOf s := by
  simp only [timeStepNow]; (repeat' split) <;> simp

@[simp] theorem trcHeader_held (st : Nat) (s : State) : heldOf (trcHeader st s) = heldOf s := by
  simp [trcHeader]

@[simp] theorem fireOut_held (code : Nat) (s : State) : heldOf (fireOut code s) = heldOf s := by
  simp only [fireOut]; (repeat' split) <;> simp

@[simp] theorem trcTrig_held (code slot t : Nat) (s : State) : heldOf (trcTrig code slot t s) = heldOf s := by
  simp [trcTrig]

@[simp] theorem trcComplete_held (flag : Nat) (s : State) : heldOf (trcComplete flag s) = heldOf s := by
  simp [trcComplete]

@[simp] theorem trcArm_held (s : State) : heldOf (trcArm s) = heldOf s := by
  simp [trcArm]

@[simp] theorem trcArmCmd_held (c : Ctx) (s : State) : heldOf (trcArmCmd c s) = heldOf s := by
  simp [trcArmCmd]

@[simp] theorem trcDisarm_held (s : State) : heldOf (trcDisarm s) = heldOf s := by
  simp [trcDisarm]

@[simp] theorem trcTrigger_held (c : Ctx) (s : State) : heldOf (trcTrigger c s) = heldOf s := by
  simp [trcTrigger]

@[simp] theorem fltClear_held (c : Ctx) (source kind : Nat) (s : State) :
    heldOf (fltClear c source kind s) = heldOf s := by
  simp [fltClear]

@[simp] theorem toBuffer_held (c : Ctx) (b : OutBuf) (bytes data : List Byte) (eff : State → State) (s : State) (heff : ∀ x : State, heldOf (eff x) = heldOf x) :
    heldOf (toBuffer c b bytes data eff s) = heldOf s := by
  simp only [toBuffer]; (repeat' split) <;> simp [*]

@[simp] theorem fltDrain_held (c : Ctx) (clr : Bool) (b : OutBuf) (s : State) :
    heldOf (fltDrain c clr b s) = heldOf s := by
  simp only [fltDrain]
  exact toBuffer_held _ _ _ _ _ _ (fun x => by simp)

@[simp] theorem evrTrigger_held (typ cause t : Nat) (s0 : State) : heldOf (evrTrigger typ cause t s0) = heldOf s0 := by
  simp only [evrTrigger]; (repeat' split) <;> simp

@[simp] theorem evrRecord_held (c : Ctx) (cause : Nat) (s : State) : heldOf (evrRecord c cause s) = heldOf s := by
  simp [evrRecord]

@[simp] theorem evrZeroFirst_held (s : State) : heldOf (evrZeroFirst s) = heldOf s := by
  simp [evrZeroFirst]

@[simp] theorem evrClearFirst_held (c : Ctx) (s : State) : heldOf (evrClearFirst c s) = heldOf s := by
  simp [evrClearFirst]

@[simp] theorem State_modPair_held (k : Nat) (f : RPair → RPair) (s : State) :
    heldOf (State.modPair k f s) = heldOf s := by
  simp [State.modPair]

@[simp] theorem State_modFly_held (pair seq : Nat) (f : Fly → Fly) (s : State) :
    heldOf (State.modFly pair seq f s) = heldOf s := by
  simp [State.modFly]

@[simp] theorem judgeForm_held (f : Fly) (s : State) : heldOf (judgeForm f s) = heldOf s := by
  simp only [judgeForm]; (repeat' split) <;> simp

@[simp] theorem accept_held (basis : Nat) (f : Fly) (s : State) : heldOf (accept basis f s) = heldOf s := by
  simp [accept]

@[simp] theorem openPair_held (o : OpenReq) (s : State) : heldOf (openPair o s) = heldOf s := by
  simp [openPair]

@[simp] theorem jnlBatch_held (ckpt : Bool) (ks : List Nat) (s : State) : heldOf (jnlBatch ckpt ks s) = heldOf s := by
  simp [jnlBatch]

@[simp] theorem ckptAdd_held (l : List JPayload) (s : State) : heldOf (ckptAdd l s) = heldOf s := by
  simp [ckptAdd]

@[simp] theorem compactStart_held (h : Option CmdHdr) (s : State) : heldOf (compactStart h s) = heldOf s := by
  simp [compactStart]

@[simp] theorem jnlCompact_held (c : Ctx) (s : State) : heldOf (jnlCompact c s) = heldOf s := by
  simp [jnlCompact]

@[simp] theorem jnlSync_held (c : Ctx) (s : State) : heldOf (jnlSync c s) = heldOf s := by
  simp only [jnlSync]; (repeat' split) <;> simp

@[simp] theorem jnlExport_held (c : Ctx) (flash off len : Nat) (b : OutBuf) (s : State) :
    heldOf (jnlExport c flash off len b s) = heldOf s := by
  simp [jnlExport]

@[simp] theorem sessionInfo_held (c : Ctx) (s : State) : heldOf (sessionInfo c s) = heldOf s := by
  simp [sessionInfo]

@[simp] theorem convWait_held (c : Ctx) (target : DevState) (s : State) : heldOf (convWait c target s) = heldOf s := by
  simp [convWait]

@[simp] theorem convNone_held (c : Ctx) (s : State) : heldOf (convNone c s) = heldOf s := by
  simp [convNone]

@[simp] theorem convStatus_held (c : Ctx) (s : State) : heldOf (convStatus c s) = heldOf s := by
  simp [convStatus]

@[simp] theorem convRun_held (c : Ctx) (s : State) : heldOf (convRun c s) = heldOf s := by
  simp [convRun]

@[simp] theorem convSafeStop_held (c : Ctx) (s : State) : heldOf (convSafeStop c s) = heldOf s := by
  simp [convSafeStop]

@[simp] theorem convSafeBlock_held (c : Ctx) (s : State) : heldOf (convSafeBlock c s) = heldOf s := by
  simp [convSafeBlock]

@[simp] theorem convRecover_held (c : Ctx) (s : State) : heldOf (convRecover c s) = heldOf s := by
  simp [convRecover]

@[simp] theorem paramWrite_held (c : Ctx) (single : Bool) (es : List (Nat × Int)) (s : State) :
    heldOf (paramWrite c single es s) = heldOf s := by
  simp only [paramWrite]; (repeat' split) <;> simp

@[simp] theorem paramGet_held (c : Ctx) (id : Nat) (s : State) : heldOf (paramGet c id s) = heldOf s := by
  simp [paramGet]

@[simp] theorem getParam1_held (c : Ctx) (id : Nat) (s : State) : heldOf (getParam1 c id s) = heldOf s := by
  simp [getParam1]

@[simp] theorem paramBlockGet_held (c : Ctx) (first count : Nat) (b : OutBuf) (s : State) :
    heldOf (paramBlockGet c first count b s) = heldOf s := by
  simp [paramBlockGet]

@[simp] theorem adcCal_held (c : Ctx) (s : State) : heldOf (adcCal c s) = heldOf s := by
  simp [adcCal]

@[simp] theorem statsClear_held (c : Ctx) (s : State) : heldOf (statsClear c s) = heldOf s := by
  simp [statsClear]

@[simp] theorem setRole_held (r : Role) (synced : Bool) (step : Nat) (s : State) :
    heldOf (setRole r synced step s) = heldOf s := by
  simp [setRole]

@[simp] theorem detach_held (s : State) : heldOf (detach s) = heldOf s := by
  simp [detach]

@[simp] theorem pairMsg_held (p : PHdr) (f : State → State) (s0 : State) (hf : ∀ x : State, heldOf (f x) = heldOf x) :
    heldOf (pairMsg p f s0) = heldOf s0 := by
  simp only [pairMsg]; (repeat' split) <;> simp [*]

@[simp] theorem sameName_held (sys : Nat) (s : State) : heldOf (sameName sys s) = heldOf s := by
  simp [sameName]

@[simp] theorem pairTableDiff_held (s : State) : heldOf (pairTableDiff s) = heldOf s := by
  simp [pairTableDiff]

@[simp] theorem tableCompare_held (crc : Nat) (s : State) : heldOf (tableCompare crc s) = heldOf s := by
  simp [tableCompare]

@[simp] theorem hbFields_held (p : PHdr) (m : HbMsg) (s : State) : heldOf (hbFields p m s) = heldOf s := by
  simp [hbFields]

@[simp] theorem hbActive_held (p : PHdr) (m : HbMsg) (s : State) : heldOf (hbActive p m s) = heldOf s := by
  simp [hbActive]

@[simp] theorem standbyVoid_held (s : State) : heldOf (standbyVoid s) = heldOf s := by
  simp only [standbyVoid]; (repeat' split) <;> simp

@[simp] theorem hbHover_held (m : HbMsg) (s : State) : heldOf (hbHover m s) = heldOf s := by
  simp [hbHover]

@[simp] theorem hbTake_held (p : PHdr) (m : HbMsg) (s : State) : heldOf (hbTake p m s) = heldOf s := by
  simp [hbTake]

@[simp] theorem mirAckCmd_held (pair seq t : Nat) (s : State) : heldOf (mirAckCmd pair seq t s) = heldOf s := by
  simp only [mirAckCmd]; (repeat' split) <;> simp

@[simp] theorem mirAckOpen_held (pair seq : Nat) (s : State) : heldOf (mirAckOpen pair seq s) = heldOf s := by
  simp only [mirAckOpen]; (repeat' split) <;> simp

@[simp] theorem mirAckTake_held (pair seq t : Nat) (s : State) : heldOf (mirAckTake pair seq t s) = heldOf s := by
  simp [mirAckTake]

@[simp] theorem execTake_held (pair seq num : Nat) (s : State) : heldOf (execTake pair seq num s) = heldOf s := by
  simp [execTake]

@[simp] theorem execAckTake_held (num : Nat) (s : State) : heldOf (execAckTake num s) = heldOf s := by
  simp [execAckTake]

@[simp] theorem askHandover_held (w : HoverWhy) (s : State) : heldOf (askHandover w s) = heldOf s := by
  simp [askHandover]

@[simp] theorem askChange_held (c : Ctx) (r : Role) (s : State) : heldOf (askChange c r s) = heldOf s := by
  simp [askChange]

@[simp] theorem pairSwitch_held (c : Ctx) (s : State) : heldOf (pairSwitch c s) = heldOf s := by
  simp [pairSwitch]

@[simp] theorem pairLeave_held (c : Ctx) (s : State) : heldOf (pairLeave c s) = heldOf s := by
  simp [pairLeave]

@[simp] theorem pairClaim_held (c : Ctx) (s : State) : heldOf (pairClaim c s) = heldOf s := by
  simp [pairClaim]

@[simp] theorem pairRejoin_held (c : Ctx) (s : State) : heldOf (pairRejoin c s) = heldOf s := by
  simp [pairRejoin]

@[simp] theorem switchStart_held (s : State) : heldOf (switchStart s) = heldOf s := by
  simp only [switchStart]; (repeat' split) <;> simp

@[simp] theorem pwrDomain_held (c : Ctx) (mask on : Nat) (s : State) : heldOf (pwrDomain c mask on s) = heldOf s := by
  simp [pwrDomain]

@[simp] theorem devRestart_held (c : Ctx) (s : State) : heldOf (devRestart c s) = heldOf s := by
  simp [devRestart]

@[simp] theorem relCount_held (rel : List Nat) (s : State) : heldOf (relCount rel s) = heldOf s := by
  simp [relCount]

@[simp] theorem relCells_held (st0 : State) (comp : Bool) (p : Option Plan) (rel : List Nat) (t0 len : Nat) (s : State) :
    heldOf (relCells st0 comp p rel t0 len s) = heldOf s := by
  simp [relCells]

@[simp] theorem release_held (st0 : State) (comp : Bool) (n : Nat) (s : State) :
    heldOf (release st0 comp n s) = heldOf s := by
  simp [release]

end Sys2Proof.Machine
end

