-- ==== Sys2Proof/Laws/State.lean ====
section
/-! SUPPORT. What surrounds the effect of a command: the outcome, the pins that follow, the held commands, and the
fields of the state after a reset. -/

namespace Sys2Proof.Machine

open Sys2Proof

/-! ### The pins -/

@[simp] theorem settle_st (s : State) : (settle s).st = s.st := rfl
@[simp] theorem settle_frm (s : State) : (settle s).frm = s.frm := rfl
@[simp] theorem settle_evr (s : State) : (settle s).evr = s.evr := rfl
@[simp] theorem settle_jnl (s : State) : (settle s).jnl = s.jnl := rfl
@[simp] theorem settle_hif (s : State) : (settle s).hif = s.hif := rfl
@[simp] theorem settle_params (s : State) : (settle s).params = s.params := rfl
@[simp] theorem settle_pair (s : State) : (settle s).pair = s.pair := rfl
@[simp] theorem settle_pwr (s : State) : (settle s).pwr = s.pwr := rfl
@[simp] theorem settle_adc (s : State) : (settle s).adc = s.adc := rfl
@[simp] theorem settle_ref (s : State) : (settle s).ref = s.ref := rfl
@[simp] theorem settle_ctl (s : State) : (settle s).ctl = s.ctl := rfl
@[simp] theorem settle_cells (s : State) : (settle s).cells = s.cells := rfl
@[simp] theorem settle_obs (s : State) : (settle s).obs = s.obs := rfl
@[simp] theorem settle_rnk (s : State) : (settle s).rnk = s.rnk := rfl
@[simp] theorem settle_fir (s : State) : (settle s).fir = s.fir := rfl
@[simp] theorem settle_cev (s : State) : (settle s).cev = s.cev := rfl
@[simp] theorem settle_trp (s : State) : (settle s).trp = s.trp := rfl
@[simp] theorem settle_sbk (s : State) : (settle s).sbk = s.sbk := rfl
@[simp] theorem settle_time (s : State) : (settle s).time = s.time := rfl
@[simp] theorem settle_tout (s : State) : (settle s).tout = s.tout := rfl
@[simp] theorem settle_pll (s : State) : (settle s).pll = s.pll := rfl
@[simp] theorem settle_trc (s : State) : (settle s).trc = s.trc := rfl
@[simp] theorem settle_sch (s : State) : (settle s).sch = s.sch := rfl
@[simp] theorem settle_free (s : State) : (settle s).free = s.free := rfl
@[simp] theorem settle_now (s : State) : (settle s).now = s.now := rfl
@[simp] theorem settle_out (s : State) : (settle s).out = s.out := rfl
@[simp] theorem settle_pub (s : State) : (settle s).pub = s.pub := rfl
@[simp] theorem settle_pending (s : State) : (settle s).pending = s.pending := rfl

@[simp] theorem settle_active (s : State) : (settle s).flt.active = s.flt.active := rfl
@[simp] theorem settle_queue (s : State) : (settle s).flt.queue = s.flt.queue := rfl
@[simp] theorem settle_total (s : State) : (settle s).flt.total = s.flt.total := rfl
@[simp] theorem settle_lost (s : State) : (settle s).flt.lost = s.flt.lost := rfl
@[simp] theorem settle_lines (s : State) : (settle s).flt.lines = s.flt.lines := rfl
@[simp] theorem settle_asserted (s : State) : (settle s).flt.asserted = s.flt.asserted := rfl
@[simp] theorem settle_action (s : State) : (settle s).flt.action = s.flt.action := rfl
@[simp] theorem settle_clears (s : State) : (settle s).flt.clears = s.flt.clears := rfl
@[simp] theorem settle_faultN (s : State) : (settle s).flt.faultN = faultLow s := rfl
@[simp] theorem settle_downs (s : State) : (settle s).lnk.downs = s.lnk.downs := rfl
@[simp] theorem settle_restarts (s : State) : (settle s).lnk.restarts = s.lnk.restarts := rfl
@[simp] theorem settle_lanes (s : State) : (settle s).lnk.lanes = settledLanes s := rfl

/-- The laser of a lane does not depend on what the lane's laser was. -/
@[simp] theorem laserOn_laser (s : State) (k : Nat) (l : LaneS) (b : Bool) :
    laserOn s k { l with laser := b } = laserOn s k l := rfl

/-- The laser of a lane depends on the state through the power domains, the role and the dark state alone. -/
@[simp] theorem laserOn_settle (s : State) (k : Nat) (l : LaneS) : laserOn (settle s) k l = laserOn s k l := rfl

/-- The pins follow at once: they do not move when they follow again. -/
theorem settledLanes_settle (s : State) : settledLanes (settle s) = settledLanes s := by
  simp only [settledLanes, settle_lanes, List.mapIdx_mapIdx]
  rfl

@[simp] theorem faultLow_settle (s : State) : faultLow (settle s) = faultLow s := rfl

/-! ### The outcome -/

/-- A command answers the next state that its effect gives, with the pins that follow. -/
theorem run_next (f : State → State) (s : State) : State.run f s = .next (settle (f { s with out := [] })) := rfl

/-- The same for a command that wakes held host commands. -/
theorem runHost_next (f : State → State) (s : State) :
    State.runHost f s = .next (settle (runHeld (f { s with out := [] }))) := rfl

/-- Where no host command waits, none is woken. -/
theorem runHeld_none (s : State) (h : s.hif.held = []) : runHeld s = s := by
  unfold runHeld
  rw [h]
  show { s with hif := { s.hif with held := [] } } = s
  rw [← h]

/-- A command that wakes held host commands, where none waits and its effect holds none. -/
theorem runHost_none (f : State → State) (s : State) (h : s.hif.held = [])
    (hf : heldOf (f { s with out := [] }) = heldOf { s with out := [] }) :
    State.runHost f s = .next (settle (f { s with out := [] })) := by
  rw [runHost_next, runHeld_none _ (hf.trans h)]

/-- A step on a queue with a command at its front. -/
theorem step_front (c : Instr) (rest : List Instr) (s : State) :
    step { s with pending := c :: rest } = exec c { s with pending := rest } := rfl

end Sys2Proof.Machine
end

