-- ==== Sys2Proof/Laws/Effect.lean ====
section
/-! SUPPORT. The effect of every command, and that exec answers the state it gives with the pins that follow: a proof over
all commands is a case analysis over the arms of one function. -/

namespace Sys2Proof.Machine

open Sys2Proof

/-- The effect of a command on a state that has emitted nothing yet. -/
def effect (c : Instr) : State → State :=
  match c with
  | .rim inp => Machine.rim inp
  | .frmGuard => Machine.frmGuard
  | .frmOverrun2 => Machine.frmOverrun2
  | .fabricComplete t stages => Machine.fabricComplete t stages
  | .adcRodDisc rod => discLatch rod
  | .adcPlaus tri => plausLatch tri
  | .adcCalComplete t sums => fun x => runHeld (calDone t sums (x.at t))
  | .ctlFeReaction slot => feReact slot
  | .suspectTimeout entry => Machine.suspectTimeout entry
  | .suspectRecover entry => Machine.suspectRecover entry
  | .missedLimit entry => Machine.missedLimit entry
  | .skipLimit entry => Machine.skipLimit entry
  | .obsReseed entry => Machine.obsReseed entry
  | .obsClBlock entry => Machine.obsClBlock entry
  | .trendPoint => Machine.trendPoint
  | .tallyBatch => Machine.tallyBatch
  | .hostPortReset => Machine.hostPortReset
  | .pcieLinkDown => Machine.pcieLinkDown
  | .hifDbOpenLo v => Machine.hifDbOpenLo v
  | .hifDbOpenHi v => Machine.hifDbOpenHi v
  | .sessionOpenComplete desc => fun x => runHeld ((Machine.sessionOpenComplete desc) x)
  | .hifDbClose v => Machine.hifDbClose v
  | .hifDbCmd pair v => Machine.hifDbCmd pair v
  | .hifDbRpl pair v => Machine.hifDbRpl pair v
  | .barWriteDiscarded bar off v => Machine.barWriteDiscarded bar off v
  | .frmCountLoRead => Machine.frmCountLoRead
  | .packetIntake pair bytes t => fun x => runHeld ((Machine.packetIntake pair bytes t) x)
  | .replyWrite pair => Machine.replyWrite pair
  | .mirrorTimeout pair seq => fun x => runHeld ((Machine.mirrorTimeout pair seq) x)
  | .sessionInfo h => fun x => runHeld ((hostSessionInfo h) x)
  | .echo h v => fun x => runHeld ((hostEcho h v) x)
  | .paramGet h id => fun x => runHeld ((hostParamGet h id) x)
  | .paramSet h id v => fun x => runHeld ((hostParamSet h id v) x)
  | .paramBlockSet h entries => fun x => runHeld ((hostParamBlockSet h entries) x)
  | .paramBlockGet h first count buf => fun x => runHeld ((hostParamBlockGet h first count buf) x)
  | .convStatus h => fun x => runHeld ((hostConvStatus h) x)
  | .convArm h => fun x => runHeld ((hostConvArm h) x)
  | .convDisarm h => fun x => runHeld ((hostConvDisarm h) x)
  | .convRun h => fun x => runHeld ((hostConvRun h) x)
  | .convBlock h => fun x => runHeld ((hostConvBlock h) x)
  | .convSafeStop h => fun x => runHeld ((hostConvSafeStop h) x)
  | .convSafeBlock h => fun x => runHeld ((hostConvSafeBlock h) x)
  | .convRecover h => fun x => runHeld ((hostConvRecover h) x)
  | .convMaint h => fun x => runHeld ((hostConvMaint h) x)
  | .convMaintEnd h => fun x => runHeld ((hostConvMaintEnd h) x)
  | .trpClear h inputs tg idle => fun x => runHeld ((hostTrpClear h inputs tg idle) x)
  | .trpTest h inputs => fun x => runHeld ((hostTrpTest h inputs) x)
  | .refQueue h e => fun x => runHeld ((hostRefQueue h e) x)
  | .refReplace h e => fun x => runHeld ((hostRefReplace h e) x)
  | .refStop h group => fun x => runHeld ((hostRefStop h group) x)
  | .refPhaseLoad h nco frame phase => fun x => runHeld ((hostRefPhaseLoad h nco frame phase) x)
  | .cellBind h b => fun x => runHeld ((hostCellBind h b) x)
  | .cellUnbind h entry count => fun x => runHeld ((hostCellUnbind h entry count) x)
  | .cellBlock h entry count => fun x => runHeld ((hostCellBlock h entry count) x)
  | .cellRelease h entry count => fun x => runHeld ((hostCellRelease h entry count) x)
  | .cellBypass h entry count => fun x => runHeld ((hostCellBypass h entry count) x)
  | .cellReplace h entry cellId => fun x => runHeld ((hostCellReplace h entry cellId) x)
  | .cellSet h entry mask minInt cNom => fun x => runHeld ((hostCellSet h entry mask minInt cNom) x)
  | .cellLoad h first parts => fun x => runHeld ((hostCellLoad h first parts) x)
  | .cellClear h entry count => fun x => runHeld ((hostCellClear h entry count) x)
  | .lnkRestart h mask => fun x => runHeld ((hostLnkRestart h mask) x)
  | .trcArm h => fun x => runHeld ((hostTrcArm h) x)
  | .trcDisarm h => fun x => runHeld ((hostTrcDisarm h) x)
  | .trcTrigger h => fun x => runHeld ((hostTrcTrigger h) x)
  | .evrRecord h cause => fun x => runHeld ((hostEvrRecord h cause) x)
  | .evrClearFirst h => fun x => runHeld ((hostEvrClearFirst h) x)
  | .jnlSync h => fun x => runHeld ((hostJnlSync h) x)
  | .jnlCompact h => fun x => runHeld ((hostJnlCompact h) x)
  | .jnlExport h flash off len buf => fun x => runHeld ((hostJnlExport h flash off len buf) x)
  | .toutArm h a => fun x => runHeld ((hostToutArm h a) x)
  | .toutStop h output => fun x => runHeld ((hostToutStop h output) x)
  | .timeSelect h domain => fun x => runHeld ((hostTimeSelect h domain) x)
  | .timeStepNow h => fun x => runHeld ((hostTimeStepNow h) x)
  | .pairSwitch h => fun x => runHeld ((hostPairSwitch h) x)
  | .pairLeave h => fun x => runHeld ((hostPairLeave h) x)
  | .pairClaim h => fun x => runHeld ((hostPairClaim h) x)
  | .pairRejoin h => fun x => runHeld ((hostPairRejoin h) x)
  | .fltClear h source kind => fun x => runHeld ((hostFltClear h source kind) x)
  | .fltDrain h clearLost buf => fun x => runHeld ((hostFltDrain h clearLost buf) x)
  | .pwrDomain h mask on => fun x => runHeld ((hostPwrDomain h mask on) x)
  | .devRestart h => fun x => runHeld ((hostDevRestart h) x)
  | .adcCal h => fun x => runHeld ((hostAdcCal h) x)
  | .statsClear h => fun x => runHeld ((hostStatsClear h) x)
  | .firTestEdge h entry code time => fun x => runHeld ((hostFirTestEdge h entry code time) x)
  | .firTestEnd h entry => fun x => runHeld ((hostFirTestEnd h entry) x)
  | .firTestHoldExpire entry => testHoldExpire entry
  | .fcs1Ident h => fun x => runHeld ((hostFcs1Ident h) x)
  | .fcs1Nop h v => fun x => runHeld ((hostFcs1Nop h v) x)
  | .fcs1GetParam h id => fun x => runHeld ((hostFcs1GetParam h id) x)
  | .fcs1SetParam h id v => fun x => runHeld ((hostFcs1SetParam h id v) x)
  | .fcs1LoadParams h entries => fun x => runHeld ((hostFcs1LoadParams h entries) x)
  | .fcs1Enable h => fun x => runHeld ((hostFcs1Enable h) x)
  | .fcs1Disable h => fun x => runHeld ((hostFcs1Disable h) x)
  | .fcs1Start h => fun x => runHeld ((hostFcs1Start h) x)
  | .fcs1Stop h => fun x => runHeld ((hostFcs1Stop h) x)
  | .fcs1Block h => fun x => runHeld ((hostFcs1Block h) x)
  | .fcs1ResetBlock h => fun x => runHeld ((hostFcs1ResetBlock h) x)
  | .fcs1Service h => fun x => runHeld ((hostFcs1Service h) x)
  | .fcs1ServiceEnd h => fun x => runHeld ((hostFcs1ServiceEnd h) x)
  | .fcs1TripReset h inputs idle => fun x => runHeld ((hostFcs1TripReset h inputs idle) x)
  | .fcs1Ramp h group mask dur targets => fun x => runHeld ((hostFcs1Ramp h group mask dur targets) x)
  | .fcs1RampStop h group => fun x => runHeld ((hostFcs1RampStop h group) x)
  | .fcs1CellAdd h b => fun x => runHeld ((hostFcs1CellAdd h b) x)
  | .fcs1CellRemove h entry => fun x => runHeld ((hostFcs1CellRemove h entry) x)
  | .fcs1CellBlock h entry => fun x => runHeld ((hostFcs1CellBlock h entry) x)
  | .fcs1CellUnblock h entry => fun x => runHeld ((hostFcs1CellUnblock h entry) x)
  | .fcs1CellBypass h entry => fun x => runHeld ((hostFcs1CellBypass h entry) x)
  | .fcs1CellSwap h entry cellId => fun x => runHeld ((hostFcs1CellSwap h entry cellId) x)
  | .fcs1LinkReset h mask => fun x => runHeld ((hostFcs1LinkReset h mask) x)
  | .fcs1CaptureArm h => fun x => runHeld ((hostFcs1CaptureArm h) x)
  | .fcs1CaptureForce h => fun x => runHeld ((hostFcs1CaptureForce h) x)
  | .fcs1Save h => fun x => runHeld ((hostFcs1Save h) x)
  | .fcs1Calibrate h => fun x => runHeld ((hostFcs1Calibrate h) x)
  | .fcs1ClearFaults h => fun x => runHeld ((hostFcs1ClearFaults h) x)
  | .fcs1StatsReset h => fun x => runHeld ((hostFcs1StatsReset h) x)
  | .tripFilterPass input t => fun x => trcTrip input t x (Machine.tripFilterPass input t x)
  | .trpHoldEsc rod => holdEscalate rod
  | .trpPairDiff input => tripPairDiff input
  | .sbkEnv rod => sbkEnv rod
  | .safeStopComplete => Machine.safeStopComplete
  | .telegramReceive lan bytes t => Machine.telegramReceive lan bytes t
  | .sbkTgLoss lan => tgLoss lan
  | .sbkTgSilence t => tgSilence t
  | .lnkLightDetect lane => lightDetect lane
  | .lnkDetectFlag lane => detectFlag lane
  | .lnkEqDwellEnd lane w h clean dsErr => dwellEnd lane w h clean dsErr
  | .lnkAlignLock lane rxInv dsInv => alignLock lane rxInv dsInv
  | .lnkAlignTo lane => alignTo lane
  | .lnkCapsQuiet lane => capsQuiet lane
  | .lnkCapsTo lane => capsTo lane
  | .lnkDiscRoundEnd lane => fun x => if lane < 24 then discRound lane x else x
  | .lnkDiscTo lane => discTo lane
  | .lnkRetryWaitEnd lane => retryWaitEnd lane
  | .lnkLos lane => Machine.lnkLos lane
  | .reportBurst b => Machine.reportBurst b
  | .burstLockFail lane slot => Machine.burstLockFail lane slot
  | .phaseCacheStale lane slot => pcStale lane slot
  | .rangingBurst b => Machine.rangingBurst b
  | .beacon b => Machine.beacon b
  | .announce b => Machine.announce b
  | .c1Report lane bytes t => Machine.c1Report lane bytes t
  | .c1RangingAnswer lane bytes tLock => c1Answer lane bytes tLock
  | .c1Capability lane bytes t => Machine.c1Capability lane bytes t
  | .partnerLinkLock link => Machine.partnerLinkLock link
  | .hb p m => fun x => runHeld ((pairMsg p (hbTake p m)) x)
  | .rod p rods phases => pairMsg p (rodTake p rods phases)
  | .cell p cells => pairMsg p (cellTake p cells)
  | .mirror p pair gen seq bytes => pairMsg p (mirrorTake pair gen seq bytes)
  | .mirAck p pair seq t => fun x => runHeld ((pairMsg p (mirAckTake pair seq t)) x)
  | .partnerExec p pair seq num => fun x => runHeld ((pairMsg p (execTake pair seq num)) x)
  | .execAck p num => fun x => runHeld ((pairMsg p (execAckTake num)) x)
  | .loop p recs => pairMsg p (loopTake p recs)
  | .obs p recs => pairMsg p (obsTake p recs)
  | .image p m => pairMsg p (imageTake m)
  | .hello p m => pairMsg p (helloTake m)
  | .hoverAck p fn => pairMsg p (hoverAckTake fn)
  | .mxFsDetect lane fn sys t f => fun x => runHeld ((Machine.mxFsDetect lane fn sys t f) x)
  | .pairSplit => fun x => runHeld (Machine.pairSplit x)
  | .heartbeatJudge => fun x => runHeld (Machine.heartbeatJudge x)
  | .handoverJudge => fun x => runHeld (Machine.handoverJudge x)
  | .handoverMonitorCheck => fun x => runHeld (Machine.handoverMonitorCheck x)
  | .pairWaitEnd => Machine.pairWaitEnd
  | .joinStepDone => fun x => runHeld (Machine.joinStepDone x)
  | .pairJoinSlow => Machine.pairJoinSlow
  | .syncedLoss => fun x => runHeld (Machine.syncedLoss x)
  | .pairTableDiff => Machine.pairTableDiff
  | .brdPresHigh => fun x => runHeld (Machine.brdPresHigh x)
  | .ptnrPresHigh => fun x => runHeld (Machine.ptnrPresHigh x)
  | .ptpSync m => Machine.ptpSync m
  | .ptpFollowUp m => Machine.ptpFollowUp m
  | .timeStep => timeStep
  | .ptpAnnounce port domain ds => Machine.ptpAnnounce port domain ds
  | .ptpAnnounceTimeout port domain => Machine.ptpAnnounceTimeout port domain
  | .ptpSyncLoss dom => Machine.ptpSyncLoss dom
  | .ptpPdelayReq port seqId rawG16 => Machine.ptpPdelayReq port seqId rawG16
  | .ptpPdelayResp m => Machine.ptpPdelayResp m
  | .pdelayReqTimer => Machine.pdelayReqTimer
  | .ethLinkChange port up => Machine.ethLinkChange port up
  | .toutFire output => toutFire output
  | .toutPulseEnd output => toutPulseEnd output
  | .pllLock band us => Machine.pllLock band us
  | .syncInEdge t count wrap g => Machine.syncInEdge t count wrap g
  | .syncInTimeout => Machine.syncInTimeout
  | .pllUnlock => Machine.pllUnlock
  | .eccError region addr corrected => Machine.eccError region addr corrected
  | .fltSelf => Machine.fltSelf
  | .supplyFail domain => Machine.supplyFail domain
  | .tempCrit => Machine.tempCrit
  | .fatalDark => Machine.fatalDark
  | .tempHigh tj => Machine.tempHigh tj
  | .faultMessage msg => Machine.faultMessage msg
  | .trcPreFull => Machine.trcPreFull
  | .trcEdgeTrigger t v => Machine.trcEdgeTrigger t v
  | .trcMaskViolation slot t v => Machine.trcMaskViolation slot t v
  | .trcPostComplete => Machine.trcPostComplete
  | .trigLineFire t => Machine.trigLineFire t
  | .trigLineArm => Machine.trigLineArm
  | .evrTrigger typ cause t => Machine.evrTrigger typ cause.toNat t
  | .evrRecordWrite => Machine.evrRecordWrite
  | .jnlRecordCommit jseq => fun x => runHeld ((Machine.jnlRecordCommit jseq) x)
  | .jnlFlashFail flash addr => fun x => runHeld ((Machine.jnlFlashFail flash addr) x)
  | .jnlCompactionStart => Machine.jnlCompactionStart
  | .blockEraseDone => Machine.blockEraseDone
  | .taskEnqueue cls source t => Machine.taskEnqueue cls source t
  | .coreFree core t => Machine.coreFree core t
  | .supWdog core => supWdog core
  | .schLoadWindowEnd busy => Machine.schLoadWindowEnd busy
  | .powerOn => Machine.powerOn
  | .boardReset => Machine.boardReset
  | .leaveReset sys => Machine.leaveReset sys
  | .startUpStep inp => Machine.startUpStep inp
  | .domainSwitched => fun x => runHeld (Machine.domainSwitched x)
  | .pwrFailAssert done => Machine.pwrFailAssert done
  | .pwrFailSequenceEnd high => Machine.pwrFailSequenceEnd high
  | .fatalRestart t => Machine.fatalRestart t
  | .devRestartExpire => Machine.devRestartExpire
  | .partnerLinkDown link => fun x => runHeld ((Machine.partnerLinkDown link) x)
  | .monitorLost lane => Machine.monitorLost lane
  | .powerLoss => Machine.powerLoss

/-- Every command answers a next state: the one its effect gives, with the pins that follow. -/
theorem exec_effect (c : Instr) (s : State) :
    exec c s = .next (settle (effect c { s with out := [] })) := by
  cases c <;> rfl

end Sys2Proof.Machine
end

