-- ==== Sys2Proof/Laws/Engines.lean ====
section
/-! SUPPORT. The operations of the host interface, the journal, the fault collector and the pair that leave the blocks of
the converter alone. -/

namespace Sys2Proof

open Sys2Proof.Machine

@[simp] theorem engines_mk st frm flt evr jnl hif params pair pwr adc ref ctl cells obs rnk fir lnk cev
    trp sbk time tout pll trc sch free now out pub pending :
    engines ⟨⟨st, frm, flt, evr, jnl, hif, params, pair, pwr, adc, ref, ctl, cells, obs, rnk, fir, lnk, cev,
      trp, sbk, time, tout, pll, trc, sch, free, now⟩, out, pub, pending⟩ =
      ⟨st, frm, params, pwr, adc, ref, ctl, cells, obs, rnk, fir, cev, trp, sbk, time, tout, pll, trc, sch⟩ := (rfl)

@[simp] theorem engines_fold (s : State) :
    Engines.mk s.st s.frm s.params s.pwr s.adc s.ref s.ctl s.cells s.obs s.rnk s.fir s.cev s.trp s.sbk s.time s.tout
      s.pll s.trc s.sch = engines s := (rfl)

@[simp] theorem engines_ite (c : Prop) [Decidable c] (a b : State) :
    engines (if c then a else b) = if c then engines a else engines b := by split <;> rfl

@[simp] theorem eng_foldl {α} (l : List α) (f : State → α → State) (s : State)
    (h : ∀ a x, engines (f a x) = engines a) : engines (l.foldl f s) = engines s := foldl_kept engines l f s h

@[simp] theorem State_draw_eng (s : State) : engines (State.draw s) = engines s := by
  simp [State.draw]

@[simp] theorem State_emit_eng (o : Output) (s : State) : engines (State.emit o s) = engines s := by
  rfl

@[simp] theorem State_tell_eng (m : PMsg) (s : State) : engines (State.tell m s) = engines s := by
  simp [State.tell]

@[simp] theorem State_at_eng (t : Nat) (s : State) : engines (State.at t s) = engines s := by
  simp [State.at]

@[simp] theorem fltCore_eng (m : FMsg) (fr : Nat) (s : State) : engines (fltCore m fr s).1 = engines s := by
  simp [fltCore]

@[simp] theorem evrPush_eng (tr : Trig) (s : State) : engines (evrPush tr s) = engines s := by
  simp [evrPush]

@[simp] theorem fltTake_eng (m : FMsg) (fr : Nat) (s : State) : engines (fltTake m fr s) = engines s := by
  simp [fltTake]

@[simp] theorem raiseSev_eng (blk inst kind sev detail : Nat) (s : State) :
    engines (raiseSev blk inst kind sev detail s) = engines s := by
  simp [raiseSev]

@[simp] theorem raise_eng (blk inst kind detail : Nat) (s : State) :
    engines (raise blk inst kind detail s) = engines s := by
  simp [raise]

@[simp] theorem raiseIf_eng (c : Bool) (blk inst kind detail : Nat) (s : State) :
    engines (raiseIf c blk inst kind detail s) = engines s := by
  simp [raiseIf]

@[simp] theorem jnlFullCheck_eng (s : State) : engines (jnlFullCheck s) = engines s := by
  simp [jnlFullCheck]

@[simp] theorem jnlAdd_eng (pl : JPayload) (s : State) : engines (jnlAdd pl s) = engines s := by
  simp [jnlAdd]

@[simp] theorem pushReply_eng (r : Reply) (s : State) : engines (pushReply r s) = engines s := by
  simp [pushReply]

@[simp] theorem complete_eng (r : Reply) (s : State) : engines (complete r s) = engines s := by
  simp [complete]

@[simp] theorem deliver_eng (op : Nat) (r : Reply) (s : State) : engines (deliver op r s) = engines s := by
  simp [deliver]

@[simp] theorem finish_eng (c : Ctx) (status : Nat) (data : List Byte) (s : State) :
    engines (finish c status data s) = engines s := by
  simp [finish]

@[simp] theorem finishCommit_eng (c : Ctx) (data : List Byte) (chg : List JChange) (s : State) :
    engines (finishCommit c data chg s) = engines s := by
  simp [finishCommit]

@[simp] theorem done_eng (c : Ctx) (data : List Byte) (s : State) : engines (done c data s) = engines s := by
  simp [done]

@[simp] theorem refuse_eng (c : Ctx) (status : Nat) (s : State) : engines (refuse c status s) = engines s := by
  simp [refuse]

@[simp] theorem settle_eng (s : State) : engines (settle s) = engines s := by
  simp [settle]

@[simp] theorem sendExec_eng (acked : Bool) (c : Ctx) (s : State) : engines (sendExec acked c s) = engines s := by
  simp [sendExec]

@[simp] theorem markExec_eng (c : Ctx) (s : State) : engines (markExec c s) = engines s := by
  simp [markExec]

@[simp] theorem holdCmd_eng (i : Instr) (s : State) : engines (holdCmd i s) = engines s := by
  simp [holdCmd]

@[simp] theorem notActive_eng (c : Ctx) (s : State) : engines (notActive c s) = engines s := by
  simp [notActive]

@[simp] theorem checked_eng (c : Ctx) (states : DevState → Bool) (own : State → State) (s : State) (hown : ∀ x : State, engines (own x) = engines x) :
    engines (checked c states own s) = engines s := by
  simp only [checked]; (repeat' split) <;> simp [*]

@[simp] theorem followJoin_eng (c : Ctx) (s : State) : engines (followJoin c s) = engines s := by
  simp [followJoin]

@[simp] theorem raiseLatch_eng (i : Nat) (s : State) : engines (raiseLatch i s) = engines s := by
  simp [raiseLatch]

@[simp] theorem refuseAt_eng (c : Ctx) (status k : Nat) (s : State) : engines (refuseAt c status k s) = engines s := by
  simp [refuseAt]

@[simp] theorem pcClear_eng (lane slot : Nat) (s : State) : engines (pcClear lane slot s) = engines s := by
  simp [pcClear]

@[simp] theorem cellReply_eng (n : Nat) (p : PendCell × List Nat) (s : State) :
    engines (cellReply n p s) = engines s := by
  simp [cellReply]

@[simp] theorem State_modLn_eng (k : Nat) (f : LaneS → LaneS) (s : State) :
    engines (State.modLn k f s) = engines s := by
  simp [State.modLn]

@[simp] theorem detectFlag_eng (k : Nat) (s : State) : engines (detectFlag k s) = engines s := by
  simp [detectFlag]

@[simp] theorem pcStale_eng (k slot : Nat) (s : State) : engines (pcStale k slot s) = engines s := by
  simp [pcStale]

@[simp] theorem deltaTake_eng (b : Burst) (s : State) : engines (deltaTake b s) = engines s := by
  simp [deltaTake]

@[simp] theorem lnkRestart_eng (c : Ctx) (mask : Nat) (s : State) : engines (lnkRestart c mask s) = engines s := by
  simp [lnkRestart]

@[simp] theorem ptpPdelayReq_eng (port seqId raw16 : Nat) (s : State) :
    engines (ptpPdelayReq port seqId raw16 s) = engines s := by
  simp [ptpPdelayReq]

@[simp] theorem armPulse_eng (s : State) : engines (armPulse s) = engines s := by
  simp only [armPulse]; (repeat' split) <;> simp

@[simp] theorem fltClear_eng (c : Ctx) (source kind : Nat) (s : State) :
    engines (fltClear c source kind s) = engines s := by
  simp [fltClear]

@[simp] theorem toBuffer_eng (c : Ctx) (b : OutBuf) (bytes data : List Byte) (eff : State → State) (s : State) (heff : ∀ x : State, engines (eff x) = engines x) :
    engines (toBuffer c b bytes data eff s) = engines s := by
  simp only [toBuffer]; (repeat' split) <;> simp [*]

@[simp] theorem fltDrain_eng (c : Ctx) (clr : Bool) (b : OutBuf) (s : State) :
    engines (fltDrain c clr b s) = engines s := by
  simp [fltDrain]

@[simp] theorem faultMessage_eng (w : BitVec 64) (s : State) : engines (faultMessage w s) = engines s := by
  simp [faultMessage]

@[simp] theorem evrFirst_eng (tr : Trig) (num : Nat) (s : State) : engines (evrFirst tr num s) = engines s := by
  simp [evrFirst]

@[simp] theorem evrRecordWrite_eng (s : State) : engines (evrRecordWrite s) = engines s := by
  simp only [evrRecordWrite]; (repeat' split) <;> simp

@[simp] theorem evrTrigger_eng (typ cause t : Nat) (s0 : State) : engines (evrTrigger typ cause t s0) = engines s0 := by
  simp only [evrTrigger]; (repeat' split) <;> simp

@[simp] theorem evrRecord_eng (c : Ctx) (cause : Nat) (s : State) : engines (evrRecord c cause s) = engines s := by
  simp [evrRecord]

@[simp] theorem evrZeroFirst_eng (s : State) : engines (evrZeroFirst s) = engines s := by
  simp [evrZeroFirst]

@[simp] theorem evrClearFirst_eng (c : Ctx) (s : State) : engines (evrClearFirst c s) = engines s := by
  simp [evrClearFirst]

@[simp] theorem State_modPair_eng (k : Nat) (f : RPair → RPair) (s : State) :
    engines (State.modPair k f s) = engines s := by
  simp [State.modPair]

@[simp] theorem State_modFly_eng (pair seq : Nat) (f : Fly → Fly) (s : State) :
    engines (State.modFly pair seq f s) = engines s := by
  simp [State.modFly]

@[simp] theorem judgeForm_eng (f : Fly) (s : State) : engines (judgeForm f s) = engines s := by
  simp only [judgeForm]; (repeat' split) <;> simp

@[simp] theorem accept_eng (basis : Nat) (f : Fly) (s : State) : engines (accept basis f s) = engines s := by
  simp [accept]

@[simp] theorem offerVolatile_eng (f : Fly) (s : State) : engines (offerVolatile f s) = engines s := by
  simp [offerVolatile]

@[simp] theorem offerJournal_eng (f : Fly) (s : State) : engines (offerJournal f s) = engines s := by
  simp [offerJournal]

@[simp] theorem offer_eng (f : Fly) (s : State) : engines (offer f s) = engines s := by
  simp [offer]

@[simp] theorem mirrorTimeoutCmd_eng (pair seq : Nat) (s : State) :
    engines (mirrorTimeoutCmd pair seq s) = engines s := by
  simp only [mirrorTimeoutCmd]; (repeat' split) <;> simp

@[simp] theorem closePair_eng (k : Nat) (s : State) : engines (closePair k s) = engines s := by
  simp [closePair]

@[simp] theorem openPair_eng (o : OpenReq) (s : State) : engines (openPair o s) = engines s := by
  simp [openPair]

@[simp] theorem openJournal_eng (o : OpenReq) (s : State) : engines (openJournal o s) = engines s := by
  simp [openJournal]

@[simp] theorem openStart_eng (o : OpenReq) (s : State) : engines (openStart o s) = engines s := by
  simp only [openStart]; (repeat' split) <;> simp

@[simp] theorem mirrorTimeoutOpen_eng (pair seq : Nat) (s : State) :
    engines (mirrorTimeoutOpen pair seq s) = engines s := by
  simp only [mirrorTimeoutOpen]; (repeat' split) <;> simp

@[simp] theorem mirrorTimeout_eng (pair seq : Nat) (s : State) : engines (mirrorTimeout pair seq s) = engines s := by
  simp [mirrorTimeout]

@[simp] theorem ckptAdd_eng (l : List JPayload) (s : State) : engines (ckptAdd l s) = engines s := by
  simp [ckptAdd]

@[simp] theorem ckptDone_eng (s : State) : engines (ckptDone s) = engines s := by
  simp only [ckptDone]; (repeat' split) <;> simp

@[simp] theorem blockEraseDone_eng (s : State) : engines (blockEraseDone s) = engines s := by
  simp [blockEraseDone]

@[simp] theorem commitWaiters_eng (q : Nat) (s : State) : engines (commitWaiters q s) = engines s := by
  simp only [commitWaiters]; (repeat' split) <;> simp

@[simp] theorem jnlSync_eng (c : Ctx) (s : State) : engines (jnlSync c s) = engines s := by
  simp only [jnlSync]; (repeat' split) <;> simp

@[simp] theorem jnlExport_eng (c : Ctx) (flash off len : Nat) (b : OutBuf) (s : State) :
    engines (jnlExport c flash off len b s) = engines s := by
  simp [jnlExport]

@[simp] theorem waitersFail_eng (lost : Nat → Bool) (s : State) : engines (waitersFail lost s) = engines s := by
  simp only [waitersFail]; (repeat' split) <;> simp

@[simp] theorem compactFail_eng (stop : Bool) (s : State) : engines (compactFail stop s) = engines s := by
  simp only [compactFail]; (repeat' split) <;> simp

@[simp] theorem jnlFlashFail_eng (flash addr : Nat) (s : State) : engines (jnlFlashFail flash addr s) = engines s := by
  simp [jnlFlashFail]

@[simp] theorem winRestore_eng (k seq crc basis : Nat) (r : Option Reply) (s : State) :
    engines (winRestore k seq crc basis r s) = engines s := by
  simp [winRestore]

@[simp] theorem hostSeen_eng (s : State) : engines (hostSeen s) = engines s := by
  simp [hostSeen]

@[simp] theorem hostPortReset_eng (s : State) : engines (hostPortReset s) = engines s := by
  simp [hostPortReset]

@[simp] theorem pcieLinkDown_eng (s : State) : engines (pcieLinkDown s) = engines s := by
  simp [pcieLinkDown]

@[simp] theorem barWriteDiscarded_eng (_bar _off _v : Nat) (s : State) :
    engines (barWriteDiscarded _bar _off _v s) = engines s := by
  simp [barWriteDiscarded]

@[simp] theorem hifDbOpenLo_eng (v : Nat) (s : State) : engines (hifDbOpenLo v s) = engines s := by
  simp [hifDbOpenLo]

@[simp] theorem hifDbOpenHi_eng (v : Nat) (s : State) : engines (hifDbOpenHi v s) = engines s := by
  simp [hifDbOpenHi]

@[simp] theorem openFail_eng (k err : Nat) (s : State) : engines (openFail k err s) = engines s := by
  simp [openFail]

@[simp] theorem openCheck_eng (addr : Nat) (b : List Byte) (s : State) : engines (openCheck addr b s) = engines s := by
  simp [openCheck]

@[simp] theorem sessionOpenComplete_eng (desc : Option (List Byte)) (s : State) :
    engines (sessionOpenComplete desc s) = engines s := by
  simp only [sessionOpenComplete]; (repeat' split) <;> simp

@[simp] theorem hifDbClose_eng (v : Nat) (s : State) : engines (hifDbClose v s) = engines s := by
  simp [hifDbClose]

@[simp] theorem hifDbCmd_eng (k v : Nat) (s : State) : engines (hifDbCmd k v s) = engines s := by
  simp [hifDbCmd]

@[simp] theorem hifDbRpl_eng (k v : Nat) (s : State) : engines (hifDbRpl k v s) = engines s := by
  simp [hifDbRpl]

@[simp] theorem refuseIntake_eng (c : Ctx) (st : Nat) (data : List Byte) (s : State) :
    engines (refuseIntake c st data s) = engines s := by
  simp [refuseIntake]

@[simp] theorem outsideSeq_eng (gen : Nat) (c : Ctx) (b : List Byte) (s : State) :
    engines (outsideSeq gen c b s) = engines s := by
  simp only [outsideSeq]; (repeat' split) <;> simp

@[simp] theorem answerDup_eng (c : Ctx) (w : WinE) (s : State) : engines (answerDup c w s) = engines s := by
  simp only [answerDup]; (repeat' split) <;> simp

@[simp] theorem sequence_eng (k gen t : Nat) (c : Ctx) (b : List Byte) (s : State) :
    engines (inSequence k gen t c b s) = engines s := by
  simp only [inSequence]; (repeat' split) <;> simp

@[simp] theorem packetIntake_eng (k : Nat) (b : List Byte) (t : Nat) (s0 : State) :
    engines (packetIntake k b t s0) = engines s0 := by
  simp [packetIntake]

@[simp] theorem replyWrite_eng (k : Nat) (s : State) : engines (replyWrite k s) = engines s := by
  simp only [replyWrite]; (repeat' split) <;> simp

@[simp] theorem sessionInfo_eng (c : Ctx) (s : State) : engines (sessionInfo c s) = engines s := by
  simp [sessionInfo]

@[simp] theorem convReply_eng (n : Nat) (s : State) : engines (convReply n s) = engines s := by
  simp only [convReply]; (repeat' split) <;> simp

@[simp] theorem convWait_eng (c : Ctx) (target : DevState) (s : State) : engines (convWait c target s) = engines s := by
  simp [convWait]

@[simp] theorem convNone_eng (c : Ctx) (s : State) : engines (convNone c s) = engines s := by
  simp [convNone]

@[simp] theorem convStatus_eng (c : Ctx) (s : State) : engines (convStatus c s) = engines s := by
  simp [convStatus]

@[simp] theorem convRun_eng (c : Ctx) (s : State) : engines (convRun c s) = engines s := by
  simp [convRun]

@[simp] theorem convSafeStop_eng (c : Ctx) (s : State) : engines (convSafeStop c s) = engines s := by
  simp [convSafeStop]

@[simp] theorem convSafeBlock_eng (c : Ctx) (s : State) : engines (convSafeBlock c s) = engines s := by
  simp [convSafeBlock]

@[simp] theorem convRecover_eng (c : Ctx) (s : State) : engines (convRecover c s) = engines s := by
  simp [convRecover]

@[simp] theorem writeReplies_eng (ws : List PWrite) (s : State) : engines (writeReplies ws s) = engines s := by
  simp [writeReplies]

@[simp] theorem paramGet_eng (c : Ctx) (id : Nat) (s : State) : engines (paramGet c id s) = engines s := by
  simp [paramGet]

@[simp] theorem getParam1_eng (c : Ctx) (id : Nat) (s : State) : engines (getParam1 c id s) = engines s := by
  simp [getParam1]

@[simp] theorem paramBlockGet_eng (c : Ctx) (first count : Nat) (b : OutBuf) (s : State) :
    engines (paramBlockGet c first count b s) = engines s := by
  simp [paramBlockGet]

@[simp] theorem setRole_eng (r : Role) (synced : Bool) (step : Nat) (s : State) :
    engines (setRole r synced step s) = engines s := by
  simp [setRole]

@[simp] theorem joinStart_eng (s : State) : engines (joinStart s) = engines s := by
  simp [joinStart]

@[simp] theorem detach_eng (s : State) : engines (detach s) = engines s := by
  simp [detach]

@[simp] theorem lanesTake_eng (s : State) : engines (lanesTake s) = engines s := by
  simp [lanesTake]

@[simp] theorem takeRole_eng (s : State) : engines (takeRole s) = engines s := by
  simp [takeRole]

@[simp] theorem pairMsg_eng (p : PHdr) (f : State → State) (s0 : State) (hf : ∀ x : State, engines (f x) = engines x) :
    engines (pairMsg p f s0) = engines s0 := by
  simp only [pairMsg]; (repeat' split) <;> simp [*]

@[simp] theorem sameName_eng (sys : Nat) (s : State) : engines (sameName sys s) = engines s := by
  simp [sameName]

@[simp] theorem pairTableDiff_eng (s : State) : engines (pairTableDiff s) = engines s := by
  simp [pairTableDiff]

@[simp] theorem tableCompare_eng (crc : Nat) (s : State) : engines (tableCompare crc s) = engines s := by
  simp [tableCompare]

@[simp] theorem hbActive_eng (p : PHdr) (m : HbMsg) (s : State) : engines (hbActive p m s) = engines s := by
  simp [hbActive]

@[simp] theorem standbyVoid_eng (s : State) : engines (standbyVoid s) = engines s := by
  simp only [standbyVoid]; (repeat' split) <;> simp

@[simp] theorem hbHover_eng (m : HbMsg) (s : State) : engines (hbHover m s) = engines s := by
  simp [hbHover]

@[simp] theorem rodTake_eng (p : PHdr) (rods : List RodRec) (phases : List Nat) (s : State) :
    engines (rodTake p rods phases s) = engines s := by
  simp [rodTake]

@[simp] theorem cellTake_eng (p : PHdr) (l : List CellRec) (s : State) : engines (cellTake p l s) = engines s := by
  simp [cellTake]

@[simp] theorem loopTake_eng (p : PHdr) (l : List LoopRec) (s : State) : engines (loopTake p l s) = engines s := by
  simp [loopTake]

@[simp] theorem obsTake_eng (p : PHdr) (l : List ObsRec) (s : State) : engines (obsTake p l s) = engines s := by
  simp [obsTake]

@[simp] theorem mirrorTake_eng (pair gen seq : Nat) (bytes : List Byte) (s : State) :
    engines (mirrorTake pair gen seq bytes s) = engines s := by
  simp [mirrorTake]

@[simp] theorem mirAckCmd_eng (pair seq t : Nat) (s : State) : engines (mirAckCmd pair seq t s) = engines s := by
  simp only [mirAckCmd]; (repeat' split) <;> simp

@[simp] theorem mirAckOpen_eng (pair seq : Nat) (s : State) : engines (mirAckOpen pair seq s) = engines s := by
  simp only [mirAckOpen]; (repeat' split) <;> simp

@[simp] theorem mirAckTake_eng (pair seq t : Nat) (s : State) : engines (mirAckTake pair seq t s) = engines s := by
  simp [mirAckTake]

@[simp] theorem execTake_eng (pair seq num : Nat) (s : State) : engines (execTake pair seq num s) = engines s := by
  simp [execTake]

@[simp] theorem execAckTake_eng (num : Nat) (s : State) : engines (execAckTake num s) = engines s := by
  simp [execAckTake]

@[simp] theorem imageTake_eng (m : ImageMsg) (s : State) : engines (imageTake m s) = engines s := by
  simp [imageTake]

@[simp] theorem helloTake_eng (m : HelloMsg) (s : State) : engines (helloTake m s) = engines s := by
  simp [helloTake]

@[simp] theorem hoverAckTake_eng (fn : Nat) (s : State) : engines (hoverAckTake fn s) = engines s := by
  simp [hoverAckTake]

@[simp] theorem takeover_eng (s : State) : engines (takeover s) = engines s := by
  simp [takeover]

@[simp] theorem partnerLost_eng (s : State) : engines (partnerLost s) = engines s := by
  simp [partnerLost]

@[simp] theorem heartbeatJudge_eng (s : State) : engines (heartbeatJudge s) = engines s := by
  simp [heartbeatJudge]

@[simp] theorem handoverMonitorCheck_eng (s : State) : engines (handoverMonitorCheck s) = engines s := by
  simp [handoverMonitorCheck]

@[simp] theorem switchReply_eng (s : State) : engines (switchReply s) = engines s := by
  simp only [switchReply]; (repeat' split) <;> simp

@[simp] theorem askHandover_eng (w : HoverWhy) (s : State) : engines (askHandover w s) = engines s := by
  simp [askHandover]

@[simp] theorem announce__eng (s : State) : engines (announce_ s) = engines s := by
  simp only [announce_]; (repeat' split) <;> simp

@[simp] theorem partnerLinkLock_eng (l : Nat) (s : State) : engines (partnerLinkLock l s) = engines s := by
  simp [partnerLinkLock]

@[simp] theorem partnerLinkDown_eng (l : Nat) (s : State) : engines (partnerLinkDown l s) = engines s := by
  simp [partnerLinkDown]

@[simp] theorem monitorLost_eng (k : Nat) (s : State) : engines (monitorLost k s) = engines s := by
  simp [monitorLost]

@[simp] theorem ptnrPresHigh_eng (s : State) : engines (ptnrPresHigh s) = engines s := by
  simp [ptnrPresHigh]

@[simp] theorem joinTo_eng (n : Nat) (s : State) : engines (joinTo n s) = engines s := by
  simp [joinTo]

@[simp] theorem pairJoinSlow_eng (s : State) : engines (pairJoinSlow s) = engines s := by
  simp [pairJoinSlow]

@[simp] theorem syncedLoss_eng (s : State) : engines (syncedLoss s) = engines s := by
  simp [syncedLoss]

@[simp] theorem cellSend_eng (s : State) : engines (cellSend s) = engines s := by
  simp [cellSend]

@[simp] theorem rotationSend_eng (s : State) : engines (rotationSend s) = engines s := by
  simp [rotationSend]

@[simp] theorem imageSend_eng (s : State) : engines (imageSend s) = engines s := by
  simp [imageSend]

@[simp] theorem pairSend_eng (rel : List Nat) (s : State) : engines (pairSend rel s) = engines s := by
  simp [pairSend]

@[simp] theorem askChange_eng (c : Ctx) (r : Role) (s : State) : engines (askChange c r s) = engines s := by
  simp [askChange]

@[simp] theorem pairSwitch_eng (c : Ctx) (s : State) : engines (pairSwitch c s) = engines s := by
  simp [pairSwitch]

@[simp] theorem pairLeave_eng (c : Ctx) (s : State) : engines (pairLeave c s) = engines s := by
  simp [pairLeave]

@[simp] theorem pairClaim_eng (c : Ctx) (s : State) : engines (pairClaim c s) = engines s := by
  simp [pairClaim]

@[simp] theorem pairRejoin_eng (c : Ctx) (s : State) : engines (pairRejoin c s) = engines s := by
  simp [pairRejoin]

@[simp] theorem offRim_eng (s : State) : engines (offRim s) = engines s := by
  simp only [offRim]; (repeat' split) <;> simp

@[simp] theorem tripPairDiff_eng (i : Nat) (s : State) : engines (tripPairDiff i s) = engines s := by
  simp [tripPairDiff]

end Sys2Proof
end

