-- ==== Sys2Proof/Laws/Host.lean ====
section
/-! SUPPORT. Host commands: what a command that may run does before its own effect, and where its final reply goes. -/

namespace Sys2Proof

open Sys2Proof.Machine

/-- What a command finds when its own effect begins: the clock, the standby told where it joins, its record of intake
marked. -/
def taken (c : Ctx) (s : State) : State := markExec c (followJoin c (s.at c.h.time))

/-- A message to the partner changes the next message number and what is emitted alone. -/
theorem tell_eq (m : PMsg) (s : State) :
    ∃ q out, s.tell m = { s with pair := { s.pair with mseqTx := q }, out := out } := by
  unfold State.tell
  split <;> exact ⟨_, _, rfl⟩

/-- An EXEC changes what the pair keeps of EXECs, the next message number and what is emitted alone. -/
theorem sendExec_eq (b : Bool) (c : Ctx) (s : State) : ∃ q n e out,
    sendExec b c s = { s with pair := { s.pair with mseqTx := q, execNo := n, execs := e }, out := out } := by
  unfold sendExec
  split
  · exact ⟨_, _, _, _, rfl⟩
  · obtain ⟨q, o, h⟩ := tell_eq (.exec c.h.pair c.h.seq ((s.pair.execNo + 1) % 2 ^ 32)) { s with pair := { s.pair with
      execNo := (s.pair.execNo + 1) % 2 ^ 32
      execs := s.pair.execs ++ [((s.pair.execNo + 1) % 2 ^ 32, c.h.pair, c.h.seq, b)] } }
    exact ⟨q, _, _, o, h⟩

theorem followJoin_eq (c : Ctx) (s : State) : ∃ q n e out,
    followJoin c s = { s with pair := { s.pair with mseqTx := q, execNo := n, execs := e }, out := out } := by
  unfold followJoin
  split
  · exact sendExec_eq true c s
  · exact ⟨_, _, _, _, rfl⟩

/-- What stands when a command's own effect begins differs from the state before in the records of intake, the EXECs, what
is emitted and the clock alone. -/
theorem taken_eq (c : Ctx) (s : State) : ∃ fly q n e out, taken c s = { s with
    hif := { s.hif with fly := fly }
    pair := { s.pair with mseqTx := q, execNo := n, execs := e }
    out := out
    now := max s.now c.h.time } := by
  obtain ⟨q, n, e, o, h⟩ := followJoin_eq c (s.at c.h.time)
  exact ⟨_, q, n, e, o, by unfold taken; rw [h]; rfl⟩

/-- The state in which the own effect of a command begins, from the state before. -/
theorem began (c : Ctx) (s : State) : ∃ fly q n e out, taken c { s with out := [] } = { s with
    hif := { s.hif with fly := fly }
    pair := { s.pair with mseqTx := q, execNo := n, execs := e }
    out := out
    now := max s.now c.h.time } := taken_eq c { s with out := [] }

/-- A host command that may run has its own effect. -/
theorem hostCmd_run (i : Instr) (op : Nat) (h : CmdHdr) (states : DevState → Bool) (own : State → State) (s : State)
    (m : MayRun op h states s) :
    hostCmd i { h := h, op := op } states own { s with out := [] } =
      own (taken { h := h, op := op } { s with out := [] }) := by
  have ht : turnOf { h := h, op := op } (State.at h.time { s with out := [] }) = .go := m.turn
  have hs : serialHold (asFcs2 op) (State.at h.time { s with out := [] }) = false := m.serial
  have hst : engines (taken { h := h, op := op } { s with out := [] }) = engines { s with out := [] } := by
    simp [taken]
  have hst' : (taken { h := h, op := op } { s with out := [] }).st = s.st := congrArg Engines.st hst
  have hr : roleAllows { h := h, op := op } (taken { h := h, op := op } { s with out := [] }) = true := by
    have hm := m.role
    have hrole : (taken { h := h, op := op } { s with out := [] }).pair.role = s.pair.role := by
      simp only [taken, markExec, followJoin, sendExec, State.tell]
      (repeat' split) <;> rfl
    have hfly : (flyOf (taken { h := h, op := op } { s with out := [] }) h.pair h.seq).isSome =
        (flyOf s h.pair h.seq).isSome := by
      have hl : ∀ l : List Fly, ((l.map (fun f => if f.pair = h.pair ∧ f.seq = h.seq then { f with exec := true } else f)).find?
          (fun f => f.pair == h.pair && f.seq == h.seq)).isSome = (l.find? (fun f => f.pair == h.pair && f.seq == h.seq)).isSome := by
        intro l
        induction l with
        | nil => rfl
        | cons f l ih =>
          simp only [List.map_cons, List.find?_cons]
          by_cases hc : f.pair = h.pair ∧ f.seq = h.seq
          · simp [hc]
          · have hb : (f.pair == h.pair && f.seq == h.seq) = false := by simpa using hc
            simp only [hc, if_false, hb]
            exact ih
      have hf : (followJoin { h := h, op := op } (State.at h.time { s with out := [] })).hif.fly = s.hif.fly := by
        simp only [followJoin, sendExec, State.tell]
        (repeat' split) <;> rfl
      simp only [taken, markExec, flyOf, hf]
      exact hl s.hif.fly
    simp only [roleAllows, acts, hrole, hfly] at hm ⊢
    exact hm
  have hne : ¬ (({ s with out := [] } : State).st = .off) := m.notOff
  simp only [hostCmd, hne, if_false, ht, hs, checked]
  have hf : ¬ (h.rsvd = true ∨ (h.force = true ∧ ¬ (op < 0x10000 ∧ forceOk op = true))) := by
    intro hx
    cases hx with
    | inl hx => rw [m.rsvd] at hx; cases hx
    | inr hx => exact hx.2 (m.force hx.1)
  have hs' : states (taken { h := h, op := op } { s with out := [] }).st = true := by rw [hst']; exact m.state
  simp only [taken] at hr hs'
  simp only [hf, if_false, hr, hs', taken]
  rfl

/-! ### What the record of a reply changes -/

/-- A trigger changes the event recorder and, where it is dropped, the fault collector. -/
theorem evrPush_eq (tr : Trig) (s : State) : ∃ f e, evrPush tr s = { s with flt := f, evr := e } := by
  simp only [evrPush]
  split
  · exact ⟨_, _, rfl⟩
  · split
    · exact ⟨_, _, rfl⟩
    · split
      · exact ⟨_, _, rfl⟩
      · split <;> exact ⟨_, _, rfl⟩

/-- A fault message changes the fault collector and the event recorder alone. -/
theorem fltTake_eq (m : FMsg) (fr : Nat) (s : State) : ∃ f e, fltTake m fr s = { s with flt := f, evr := e } := by
  unfold fltTake
  have hc : ∃ f, (fltCore m fr s).1 = { s with flt := f } := ⟨_, rfl⟩
  obtain ⟨f, hf⟩ := hc
  generalize fltCore m fr s = r at *
  simp only
  split
  · obtain ⟨f', e, h⟩ := evrPush_eq (mkTrig r.1 0 (s.p (0x01C0 + m.blk)) [m.word % 2 ^ 32, m.word / 2 ^ 32]
      (snapWords r.1 (s.p (0x01C0 + m.blk))) r.1.now) r.1
    exact ⟨f', e, by rw [h, hf]⟩
  · exact ⟨f, s.evr, by rw [hf]⟩

/-- A raise changes the fault collector and the event recorder alone. -/
theorem raise_eq (blk inst kind detail : Nat) (s : State) :
    ∃ f e, raise blk inst kind detail s = { s with flt := f, evr := e } := fltTake_eq _ _ s

/-- Nothing that the collector has counted or made active is lost. -/
def FltGrows (s t : State) : Prop :=
  min s.flt.total (2 ^ 32 - 1) ≤ t.flt.total ∧ ∀ b i k, isActive s b i k = true → isActive t b i k = true

theorem FltGrows.refl (s : State) : FltGrows s s := ⟨Nat.min_le_left _ _, fun _ _ _ h => h⟩

theorem FltGrows.trans {a b c : State} (h1 : FltGrows a b) (h2 : FltGrows b c) : FltGrows a c :=
  ⟨by have := h1.1; have := h2.1; omega, fun b i k h => h2.2 b i k (h1.2 b i k h)⟩

/-- What is reported stays reported. -/
theorem Reported.grows {blk inst kind : Nat} {a b c : State} (h1 : Reported blk inst kind a b) (h2 : FltGrows b c) :
    Reported blk inst kind a c :=
  ⟨by have := h1.1; have := h2.1; omega, fun h => h2.2 _ _ _ (h1.2 h)⟩

/-- What the collector does with a message: it counts it and, by its severity or its reaction, makes it active. -/
theorem fltCore_reported (m : FMsg) (fr : Nat) (s : State) :
    (fltCore m fr s).1.flt.total = satAdd 32 s.flt.total 1 ∧
    (2 ≤ m.sev → isActive (fltCore m fr s).1 m.blk m.inst m.kind = true) ∧
    ∀ b i k, isActive s b i k = true → isActive (fltCore m fr s).1 b i k = true := by
  have ht : ∀ d, (fltRecord m fr d).total = d.total := fun d => by unfold fltRecord; simp only; (repeat' split) <;> rfl
  have ha : ∀ d, (fltRecord m fr d).active = d.active := fun d => by unfold fltRecord; simp only; (repeat' split) <;> rfl
  have hact : (fltCore m fr s).1.flt.active = if ((decide (2 ≤ m.sev) || tb (s.p (0xE000 + 32 * m.blk + m.kind)) 2) &&
      !isActive s m.blk m.inst m.kind) = true then
      s.flt.active ++ [{ blk := m.blk, inst := m.inst, kind := m.kind, sev := m.sev }] else s.flt.active := by
    unfold fltCore
    simp only [ha]
  refine ⟨?_, ?_, ?_⟩
  · unfold fltCore
    simp only [ht]
  · intro hs
    unfold isActive
    rw [hact]
    by_cases hw : isActive s m.blk m.inst m.kind = true
    · simp only [hw, Bool.not_true, Bool.and_false, Bool.false_eq_true, if_false]
      exact hw
    · simp [hs, hw]
  · intro b i k h
    unfold isActive at h ⊢
    rw [hact]
    split
    · rw [List.any_append, h, Bool.true_or]
    · exact h

theorem fltCore_grows (m : FMsg) (fr : Nat) (s : State) : FltGrows s (fltCore m fr s).1 := by
  obtain ⟨h1, _, h3⟩ := fltCore_reported m fr s
  refine ⟨?_, h3⟩
  rw [h1]; unfold satAdd; omega

theorem evrPush_grows (tr : Trig) (s : State) : FltGrows s (evrPush tr s) := by
  unfold evrPush
  split
  · exact FltGrows.refl _
  · split
    · exact FltGrows.refl _
    · simp only
      split
      · exact FltGrows.refl _
      · have h := fltCore_grows (lostMsg { s with evr := { s.evr with lost := satAdd 32 s.evr.lost 1, dropRun := true } })
          s.frm.count { s with evr := { s.evr with lost := satAdd 32 s.evr.lost 1, dropRun := true } }
        split <;> exact h

/-- A message is counted, and active where it is an error or worse. -/
theorem fltTake_reported (m : FMsg) (fr : Nat) (s : State) : min (s.flt.total + 1) (2 ^ 32 - 1) ≤ (fltTake m fr s).flt.total ∧
    (2 ≤ m.sev → isActive (fltTake m fr s) m.blk m.inst m.kind = true) ∧ FltGrows s (fltTake m fr s) := by
  unfold fltTake
  simp only
  obtain ⟨h1, h2, _⟩ := fltCore_reported m fr s
  have hg := fltCore_grows m fr s
  have hm : min (s.flt.total + 1) (2 ^ 32 - 1) ≤ (fltCore m fr s).1.flt.total := by rw [h1]; exact Nat.le_refl _
  generalize fltCore m fr s = r at h1 h2 hm hg ⊢
  split
  · have g := evrPush_grows (mkTrig r.1 0 (s.p (0x01C0 + m.blk)) [m.word % 2 ^ 32, m.word / 2 ^ 32]
      (snapWords r.1 (s.p (0x01C0 + m.blk))) r.1.now) r.1
    exact ⟨by have := g.1; omega, fun hs => g.2 _ _ _ (h2 hs), hg.trans g⟩
  · exact ⟨hm, fun hs => h2 hs, hg⟩

/-- A raise is counted, and active where it is an error or worse. -/
theorem raise_reported (blk inst kind detail : Nat) (s : State) :
    Reported blk inst kind s (raise blk inst kind detail s) := by
  have h := fltTake_reported ⟨blk, inst, kind, sevCode blk kind, detail, s.frm.count % 4096⟩ s.frm.count s
  exact ⟨h.1, h.2.1⟩

theorem raise_grows (blk inst kind detail : Nat) (s : State) : FltGrows s (raise blk inst kind detail s) :=
  (fltTake_reported _ _ s).2.2

/-- A journal record changes the journal, and may fill it. -/
theorem jnlAdd_eq (pl : JPayload) (s : State) : ∃ j f e, jnlAdd pl s = { s with jnl := j, flt := f, evr := e } := by
  simp only [jnlAdd, jnlFullCheck, raiseIf]
  (repeat' split)
  · obtain ⟨f, e, h⟩ := raise_eq 0x11 0 2 0 { s with
      jnl := { jnlStart pl true false s.jnl with
        full := decide (jnlFree (jnlStart pl true false s.jnl) < 8) && (jnlStart pl true false s.jnl).restored } }
    exact ⟨_, f, e, h⟩
  · exact ⟨_, _, _, rfl⟩
  · exact ⟨_, _, _, rfl⟩

@[simp] theorem jnlAdd_pairs (pl : JPayload) (s : State) : (jnlAdd pl s).hif = s.hif := by
  obtain ⟨j, f, e, h⟩ := jnlAdd_eq pl s
  rw [h]

@[simp] theorem jnlAdd_pair (pl : JPayload) (s : State) : (jnlAdd pl s).pair = s.pair := by
  obtain ⟨j, f, e, h⟩ := jnlAdd_eq pl s
  rw [h]

@[simp] theorem raise_hif (blk inst kind detail : Nat) (s : State) : (raise blk inst kind detail s).hif = s.hif := by
  obtain ⟨f, e, h⟩ := raise_eq blk inst kind detail s
  rw [h]

@[simp] theorem raise_pair (blk inst kind detail : Nat) (s : State) : (raise blk inst kind detail s).pair = s.pair := by
  obtain ⟨f, e, h⟩ := raise_eq blk inst kind detail s
  rw [h]

/-! ### Where a reply goes -/

/-- A final reply emits nothing. -/
@[simp] theorem finish_out (c : Ctx) (st : Nat) (data : List Byte) (s : State) : (finish c st data s).out = s.out := by
  have hj : ∀ pl, (jnlAdd pl s).out = s.out := fun pl => by obtain ⟨j, f, e, h⟩ := jnlAdd_eq pl s; rw [h]
  have hd : ∀ op r x, (deliver op r x).out = x.out := fun op r x => by unfold deliver; split <;> rfl
  unfold finish
  split
  · rw [hd]; exact hj _
  · rw [hd]

/-- A reply goes to its ring, last. -/
theorem repliesOf_push (r : Reply) (s : State) (h : PairOpen s r.pair) :
    repliesOf (pushReply r s) r.pair = repliesOf s r.pair ++ [r] := by
  unfold PairOpen at h
  cases hp : s.hif.pairs[r.pair]? with
  | none => rw [hp] at h; simp at h
  | some p =>
    rw [hp] at h
    simp only [Option.map_some, Option.some.injEq] at h
    simp [repliesOf, pushReply, modAt, hp, h]

/-- The completion of a command leaves the replies that are due. -/
@[simp] theorem repliesOf_complete (r : Reply) (s : State) (k : Nat) : repliesOf (complete r s) k = repliesOf s k := by
  simp only [repliesOf, complete, modAt, List.getElem?_modify]
  by_cases h : r.pair = k <;> cases s.hif.pairs[k]? <;> simp [h]

/-- The completion of a command leaves its pair open. -/
@[simp] theorem PairOpen_complete (r : Reply) (s : State) (k : Nat) : PairOpen (complete r s) k ↔ PairOpen s k := by
  simp only [PairOpen, complete, modAt, List.getElem?_modify]
  by_cases h : r.pair = k <;> cases s.hif.pairs[k]? <;> simp [h]

/-- A device that executes commands, and any device for a session or pair command, replies (R330). -/
def Delivers (op : Nat) (s : State) : Prop := (acts s || isSession op || isPairOp op) = true

theorem acts_role (s t : State) (h : t.pair.role = s.pair.role) : acts t = acts s := by
  simp [acts, h]

@[simp] theorem complete_role (r : Reply) (s : State) : (complete r s).pair.role = s.pair.role := rfl

/-- A final reply stands last among those due to the ring pair of its command. -/
theorem finish_answers (op : Nat) (h : CmdHdr) (st : Nat) (data : List Byte) (s : State) (ho : PairOpen s h.pair)
    (hd : Delivers op s) : Answers op h st data s (finish { h := h, op := op } st data s) := by
  have hj : ∀ pl, repliesOf (jnlAdd pl s) h.pair = repliesOf s h.pair := fun pl => by simp [repliesOf]
  have hjo : ∀ pl, PairOpen (jnlAdd pl s) h.pair := fun pl => by simpa [PairOpen] using ho
  unfold Answers finish
  split
  · have ha : ∀ r pl, acts (complete r (jnlAdd pl s)) = acts s := fun r pl => acts_role _ _ (by simp)
    simp only [deliver, ha]
    rw [if_pos (show _ = true from hd)]
    refine (repliesOf_push _ _ ?_).trans ?_
    · exact (PairOpen_complete _ _ _).mpr (hjo _)
    · rw [repliesOf_complete]
      exact congrArg (· ++ [_]) (hj _)
  · simp only [deliver]
    unfold Delivers at hd
    simp only [hd, if_true]
    exact repliesOf_push _ _ ho

/-! ### The state in which a command's own effect begins -/

@[simp] theorem taken_engines (c : Ctx) (s : State) : engines (taken c s) = engines s := by
  simp [taken]

@[simp] theorem taken_held (c : Ctx) (s : State) : heldOf (taken c s) = heldOf s := by
  simp [taken]

@[simp] theorem taken_repliesOf (c : Ctx) (s : State) (k : Nat) : repliesOf (taken c s) k = repliesOf s k := by
  simp only [taken, markExec, followJoin, sendExec, State.tell, repliesOf]
  (repeat' split) <;> rfl

@[simp] theorem taken_PairOpen (c : Ctx) (s : State) (k : Nat) : PairOpen (taken c s) k ↔ PairOpen s k := by
  simp only [taken, markExec, followJoin, sendExec, State.tell, PairOpen]
  (repeat' split) <;> exact Iff.rfl

@[simp] theorem taken_role (c : Ctx) (s : State) : (taken c s).pair.role = s.pair.role := by
  simp only [taken, markExec, followJoin, sendExec, State.tell]
  (repeat' split) <;> rfl

@[simp] theorem taken_Delivers (op : Nat) (c : Ctx) (s : State) : Delivers op (taken c s) ↔ Delivers op s := by
  simp [Delivers, acts]

/-- A host command that may run, and whose own effect holds no command, answers what its own effect gives. -/
theorem host_next (c : Instr) (op : Nat) (h : CmdHdr) (states : DevState → Bool) (own : State → State) (s : State)
    (he : effect c = fun x => runHeld (hostCmd c { h := h, op := op } states own x)) (m : MayRun op h states s)
    (hh : ∀ x, heldOf (own x) = heldOf x) :
    exec c s = .next (settle (own (taken { h := h, op := op } { s with out := [] }))) := by
  rw [exec_effect, he]
  simp only [hostCmd_run _ _ _ _ _ _ m]
  rw [runHeld_none]
  have := hh (taken { h := h, op := op } { s with out := [] })
  rw [taken_held] at this
  exact this.trans m.alone

@[simp] theorem settle_repliesOf (s : State) (k : Nat) : repliesOf (settle s) k = repliesOf s k := rfl

@[simp] theorem clear_repliesOf (s : State) (o : List Output) (k : Nat) :
    repliesOf { s with out := o } k = repliesOf s k := rfl

@[simp] theorem settle_out (s : State) : (settle s).out = s.out := rfl

/-- A host command that may run, and whose own effect ends with its final reply in a state `y`, answers it there; the
blocks of the converter and what is emitted are those of `y`. -/
theorem host_ends (c : Instr) (op : Nat) (h : CmdHdr) (states : DevState → Bool) (own : State → State) (s : State)
    (he : effect c = fun x => runHeld (hostCmd c { h := h, op := op } states own x)) (m : MayRun op h states s)
    (hh : ∀ x, heldOf (own x) = heldOf x) (st : Nat) (data : List Byte) (y : State)
    (hown : own (taken { h := h, op := op } { s with out := [] }) = finish { h := h, op := op } st data y)
    (hr : repliesOf y h.pair = repliesOf s h.pair) (ho : PairOpen y h.pair) (hd : Delivers op y) :
    Does c s (fun t => Answers op h st data s t ∧ engines t = engines y ∧ t.out = y.out) := by
  refine ⟨_, host_next c op h states own s he m hh, ?_⟩
  rw [hown]
  refine ⟨?_, by simp, by simp⟩
  have := finish_answers op h st data y ho hd
  unfold Answers at this ⊢
  rw [settle_repliesOf, this, hr]

/-- A host command that may run, and whose own effect is its final reply, answers it and leaves the blocks of the
converter. -/
theorem host_answers (c : Instr) (op : Nat) (h : CmdHdr) (states : DevState → Bool) (own : State → State) (s : State)
    (he : effect c = fun x => runHeld (hostCmd c { h := h, op := op } states own x)) (m : MayRun op h states s)
    (hh : ∀ x, heldOf (own x) = heldOf x) (ho : PairOpen s h.pair) (hd : Delivers op s) (st : Nat) (data : List Byte)
    (hown : own (taken { h := h, op := op } { s with out := [] }) =
      finish { h := h, op := op } st data (taken { h := h, op := op } { s with out := [] })) :
    Does c s (fun t => Answers op h st data s t ∧ engines t = engines s) := by
  obtain ⟨t, ht, ha, he, _⟩ := host_ends c op h states own s he m hh st data _ hown (by simp)
    ((taken_PairOpen _ _ _).mpr ho) ((taken_Delivers _ _ _).mpr hd)
  exact ⟨t, ht, ha, by rw [he]; simp; rfl⟩

end Sys2Proof
end

