-- ==== Sys2Proof/Laws/Trip.lean ====
section
/-! SUPPORT. Trips: what an event, a fresh A_r, a latch and a Safe Block request can change. -/

namespace Sys2Proof

open Sys2Proof.Machine

/-- A fold of steps that each change what a form allows changes what the form allows. -/
theorem foldl_form {α : Type} {R : State → State → Prop} (hr : ∀ s, R s s) (ht : ∀ a b c, R a b → R b c → R a c)
    (f : State → α → State) (hf : ∀ s x, R s (f s x)) (l : List α) (s : State) : R s (l.foldl f s) := by
  induction l generalizing s with
  | nil => exact hr s
  | cons x l ih => exact ht _ _ _ (hf s x) (ih _)

theorem markDirty_eq (l : List Nat) (s : State) : ∃ rnk, markDirty l s = { s with rnk := rnk } := ⟨_, rfl⟩

/-- A trip block set on a lane changes the cells, the lane transmitters, the marked entries and what is emitted. -/
theorem tripLane_eq (a mask t k : Nat) (s : State) : ∃ cells cev rnk out,
    tripLane a mask t k s = { s with cells := cells, cev := cev, rnk := rnk, out := out } := ⟨_, _, _, _, rfl⟩

/-- The sets of one event, lane after lane. -/
theorem tripLanes_eq (a mask t : Nat) (l : List Nat) (s : State) : ∃ cells cev rnk out,
    l.foldl (fun x k => tripLane a mask t k x) s = { s with cells := cells, cev := cev, rnk := rnk, out := out } := by
  refine foldl_form (R := fun s y => ∃ cells cev rnk out,
    y = { s with cells := cells, cev := cev, rnk := rnk, out := out }) (fun s => ⟨_, _, _, _, rfl⟩) ?_ _ ?_ l s
  · rintro a b c ⟨_, _, _, _, h1⟩ ⟨_, _, _, _, h2⟩
    exact ⟨_, _, _, _, by rw [h2, h1]⟩
  · intro s x
    exact tripLane_eq a mask t x s

/-- An event advances SEQ and sends its sets (R283). -/
theorem tripEvent_eq (a mask t : Nat) (s : State) : ∃ q cells cev rnk out, tripEvent a mask t s = { s with
    trp := { s.trp with seq := q }, cells := cells, cev := cev, rnk := rnk, out := out } := by
  unfold tripEvent
  split
  · obtain ⟨_, _, _, _, h⟩ := tripLanes_eq a mask t (tripLanes { s with trp := { s.trp with
      seq := (s.trp.seq + 1) % 256 } } mask) { s with trp := { s.trp with seq := (s.trp.seq + 1) % 256 } }
    simp only [h]
    exact ⟨_, _, _, _, _, rfl⟩
  · exact ⟨_, _, _, _, _, rfl⟩

/-- A_r taken afresh is the most severe action of the sources that are latched; beside it SEQ, the cells, the lane
transmitters and what is emitted may change (R282, R283). -/
theorem tripUpdate_eq (t : Nat) (s : State) : ∃ q cells cev rnk out, tripUpdate t s = { s with
    trp := { s.trp with act := (List.range 12).map (actOf s), seq := q }
    cells := cells, cev := cev, rnk := rnk, out := out } := by
  have key : ∀ (l : List Nat) (x : State), ∃ q cells cev rnk out,
      l.foldl (fun x a => if riseMask s a = 0 then x else tripEvent a (riseMask s a) t x) x = { x with
        trp := { x.trp with seq := q }, cells := cells, cev := cev, rnk := rnk, out := out } := by
    intro l x
    refine foldl_form (R := fun s y => ∃ q cells cev rnk out,
      y = { s with trp := { s.trp with seq := q }, cells := cells, cev := cev, rnk := rnk, out := out })
      (fun s => ⟨_, _, _, _, _, rfl⟩) ?_ _ ?_ l x
    · rintro a b c ⟨_, _, _, _, _, h1⟩ ⟨_, _, _, _, _, h2⟩
      exact ⟨_, _, _, _, _, by rw [h2, h1]⟩
    · intro x a
      by_cases h : riseMask s a = 0
      · simp only [h, if_true]; exact ⟨_, _, _, _, _, rfl⟩
      · simp only [h, if_false]; exact tripEvent_eq _ _ _ _
  obtain ⟨q, c, v, r, o, h⟩ := key [2, 1, 3] { s with trp := { s.trp with act := (List.range 12).map (actOf s) } }
  exact ⟨q, c, v, r, o, h⟩

/-- Safe Block by the injected path sets its latch, takes A_r afresh, and is due at the next rim in the states that it acts
from (R301). -/
theorem injectSafeBlock_eq (cause detail t : Nat) (s : State) : ∃ q cells cev rnk out,
    injectSafeBlock cause detail t s = { s with
      trp := { s.trp with
        sbLatch := true
        act := (List.range 12).map (actOf { s with trp := { s.trp with sbLatch := true } })
        seq := q }
      cells := cells
      cev := cev
      rnk := rnk
      out := out
      sbk := if s.st = .ready ∨ s.st = .blocked ∨ s.st = .running ∨ s.st = .safeStop then
          { s.sbk with injDue := s.sbk.injDue.orElse (fun _ => some (cause, detail)) } else s.sbk } := by
  obtain ⟨q, c, v, r, o, h⟩ := tripUpdate_eq t { s with trp := { s.trp with sbLatch := true } }
  unfold injectSafeBlock
  simp only [h]
  by_cases hs : s.st = .ready ∨ s.st = .blocked ∨ s.st = .running ∨ s.st = .safeStop
  · simp only [hs, if_true]; exact ⟨q, c, v, r, o, rfl⟩
  · simp only [hs, if_false]; exact ⟨q, c, v, r, o, rfl⟩

/-! ### Bits -/

theorem tb_setB (x i j : Nat) : tb (setB x i true) j = (tb x j || decide (i = j)) := by
  unfold setB tb
  by_cases h : x.testBit i = true
  · simp only [h, beq_self_eq_true, if_true]
    by_cases hj : i = j
    · subst hj; simp [h]
    · simp [hj]
  · have hf : x.testBit i = false := by simpa using h
    simp only [hf, Bool.false_beq, Bool.not_true, Bool.false_eq_true, if_false, if_true]
    have hq : x = 2 ^ i * (x / 2 ^ i) + x % 2 ^ i := (Nat.div_add_mod x (2 ^ i)).symm
    have hl : x % 2 ^ i < 2 ^ i := Nat.mod_lt _ (Nat.two_pow_pos i)
    have he : (x / 2 ^ i) % 2 = 0 := by
      have h0 : (x / 2 ^ i).testBit 0 = false := by rw [Nat.testBit_div_two_pow]; simpa using hf
      rw [Nat.testBit_zero] at h0
      simp at h0; omega
    have h2 : x + 2 ^ i = 2 ^ i * (x / 2 ^ i + 1) + x % 2 ^ i := by rw [Nat.mul_add]; omega
    rw [h2, Nat.testBit_two_pow_mul_add _ hl]
    conv => rhs; rw [hq, Nat.testBit_two_pow_mul_add _ hl]
    by_cases hj : j < i
    · simp [hj]; intro h; omega
    · simp only [hj, if_false]
      generalize x / 2 ^ i = q at *
      by_cases hij : i = j
      · subst hij; simp [Nat.testBit_zero]; omega
      · obtain ⟨k, hk⟩ : ∃ k, j - i = k + 1 := ⟨j - i - 1, by omega⟩
        simp only [hk, Nat.testBit_succ, hij, decide_false, Bool.or_false]
        congr 1; omega

/-- A fold of bits set. -/
theorem tb_foldl_setB (l : List Nat) (x j : Nat) :
    tb (l.foldl (fun m i => setB m i true) x) j = (tb x j || l.contains j) := by
  induction l generalizing x with
  | nil => simp
  | cons i l ih =>
    rw [List.foldl_cons, ih, tb_setB, List.contains_cons, Bool.or_assoc]
    congr 2
    by_cases h : i = j
    · simp [h]
    · simp [h, Ne.symm h]

/-! ### Latches -/

/-- What the passes of inputs leave alone. -/
def TripForm (s t : State) : Prop := ∃ q flt evr cells cev rnk out sbk,
  t = { s with trp := q, flt := flt, evr := evr, cells := cells, cev := cev, rnk := rnk, out := out, sbk := sbk }

theorem TripForm.refl (s : State) : TripForm s s := ⟨_, _, _, _, _, _, _, _, rfl⟩

theorem TripForm.trans {a b c : State} (h1 : TripForm a b) (h2 : TripForm b c) : TripForm a c := by
  obtain ⟨_, _, _, _, _, _, _, _, h1⟩ := h1
  obtain ⟨_, _, _, _, _, _, _, _, h2⟩ := h2
  exact ⟨_, _, _, _, _, _, _, _, by rw [h2, h1]⟩

theorem raiseLatch_eq (i : Nat) (s : State) : ∃ f e, raiseLatch i s = { s with flt := f, evr := e } := fltTake_eq _ _ s

theorem latchAgain_form (i : Nat) (st : Option Nat) (s : State) : TripForm s (latchAgain i st s) := by
  unfold latchAgain
  obtain ⟨f, e, h⟩ := raiseLatch_eq i { s with trp := { s.trp with
    events := satAdd 32 s.trp.events 1,
    ins := modAt s.trp.ins i (fun x => { x with t := st.getD x.t }),
    clears := s.trp.clears.map (fun c => if tb c.inputs i then { c with again := setB c.again i true } else c) } }
  rw [h]
  exact ⟨_, _, _, _, _, _, _, _, rfl⟩

theorem latchAgain_latch (i : Nat) (st : Option Nat) (s : State) : (latchAgain i st s).trp.latch = s.trp.latch := by
  unfold latchAgain
  obtain ⟨f, e, h⟩ := raiseLatch_eq i { s with trp := { s.trp with
    events := satAdd 32 s.trp.events 1,
    ins := modAt s.trp.ins i (fun x => { x with t := st.getD x.t }),
    clears := s.trp.clears.map (fun c => if tb c.inputs i then { c with again := setB c.again i true } else c) } }
  rw [h]

theorem latchSet_form (i : Nat) (st : Option Nat) (s : State) : TripForm s (latchSet i st s) := by
  unfold latchSet
  simp only
  generalize (if (tripCfg s i).act = 2 then tripCover s (tripCfg s i).mask else []) = cover
  obtain ⟨f, e, h⟩ := raiseLatch_eq i { s with trp := { s.trp with
    latch := setB s.trp.latch i true, events := satAdd 32 s.trp.events 1,
    ins := modAt s.trp.ins i (fun x => { x with t := st.getD x.t, cover := cover }) } }
  rw [h]
  exact ⟨_, _, _, _, _, _, _, _, rfl⟩

theorem latchSet_latch (i : Nat) (st : Option Nat) (s : State) :
    (latchSet i st s).trp.latch = setB s.trp.latch i true := by
  unfold latchSet
  simp only
  generalize (if (tripCfg s i).act = 2 then tripCover s (tripCfg s i).mask else []) = cover
  obtain ⟨f, e, h⟩ := raiseLatch_eq i { s with trp := { s.trp with
    latch := setB s.trp.latch i true, events := satAdd 32 s.trp.events 1,
    ins := modAt s.trp.ins i (fun x => { x with t := st.getD x.t, cover := cover }) } }
  rw [h]

theorem tripUpdate_form (t : Nat) (s : State) : TripForm s (tripUpdate t s) := by
  obtain ⟨q, c, v, r, o, h⟩ := tripUpdate_eq t s
  rw [h]
  exact ⟨_, _, _, _, _, _, _, _, rfl⟩

theorem injectSafeBlock_form (c d t : Nat) (s : State) : TripForm s (injectSafeBlock c d t s) := by
  obtain ⟨q, c, v, r, o, h⟩ := injectSafeBlock_eq c d t s
  rw [h]
  exact ⟨_, _, _, _, _, _, _, _, rfl⟩

theorem latchInfo_form (b a : State) (i : Nat) (s : State) : TripForm s (latchInfo b a i s) :=
  ⟨_, _, _, _, _, _, _, _, rfl⟩

theorem fold_form {α : Type} (f : State → α → State) (hf : ∀ s x, TripForm s (f s x)) (l : List α) (s : State) :
    TripForm s (l.foldl f s) := foldl_form TripForm.refl (fun _ _ _ => TripForm.trans) f hf l s

/-- Passes of inputs change the trips, what they report and record, the cells that they act on, the lane transmitters and
the Safe Block requests. -/
theorem tripLatch_form (is_ : List Nat) (st : Option Nat) (t : Nat) (s : State) : TripForm s (tripLatch is_ st t s) := by
  unfold tripLatch
  refine ((((fold_form _ ?_ _ _).trans (fold_form _ ?_ _ _)).trans (tripUpdate_form _ _)).trans
    (fold_form _ ?_ _ _)).trans (fold_form _ ?_ _ _)
  · intro s x; exact latchAgain_form _ _ _
  · intro s x; exact latchSet_form _ _ _
  · intro s x; exact latchInfo_form _ _ _ _
  · intro s x
    by_cases h : (tripCfg s x).esc = true
    · simp only [h, if_true]; exact injectSafeBlock_form _ _ _ _
    · simp only [h]; exact TripForm.refl _

/-- Passes of inputs set the latches of those inputs and no other. -/
theorem tripLatch_latch (is_ : List Nat) (st : Option Nat) (t : Nat) (s : State) :
    (tripLatch is_ st t s).trp.latch =
      (is_.filter (fun i => !tb s.trp.latch i)).foldl (fun m i => setB m i true) s.trp.latch := by
  have fold_latch : ∀ {α : Type} (f : State → α → State), (∀ s x, (f s x).trp.latch = s.trp.latch) →
      ∀ (l : List α) (s : State), (l.foldl f s).trp.latch = s.trp.latch := by
    intro α f hf l
    induction l with
    | nil => intro s; rfl
    | cons x l ih => intro s; rw [List.foldl_cons, ih, hf]
  have set_latch : ∀ (l : List Nat) (s : State), (l.foldl (fun x i => latchSet i st x) s).trp.latch =
      l.foldl (fun m i => setB m i true) s.trp.latch := by
    intro l
    induction l with
    | nil => intro s; rfl
    | cons x l ih => intro s; rw [List.foldl_cons, ih, latchSet_latch]; rfl
  unfold tripLatch
  simp only
  rw [fold_latch]
  · rw [fold_latch]
    · obtain ⟨q, c, v, r, o, h⟩ := tripUpdate_eq t (List.foldl (fun x i => latchSet i st x)
        (List.foldl (fun x i => latchAgain i st x) s (is_.filter (fun i => tb s.trp.latch i && clearWaits s i)))
        (is_.filter (fun i => !tb s.trp.latch i)))
      rw [h]
      show (List.foldl (fun (x : State) i => latchSet i st x) _ _).trp.latch = _
      rw [set_latch, fold_latch]
      intro s x; exact latchAgain_latch _ _ _
    · intro s x; rfl
  · intro s x
    by_cases h : (tripCfg s x).esc = true
    · simp only [h, if_true]
      obtain ⟨q, c, v, r, o, hh⟩ := injectSafeBlock_eq 0x08 x t s
      rw [hh]
    · simp only [h]; rfl

/-- A_r depends on the trips alone. -/
theorem Acted.of_trp {a b : State} (h : a.trp = b.trp) (ha : Acted a) : Acted b := by
  have hf : actOf a = actOf b := by funext r; simp only [actOf, tripCfg, h]; rfl
  unfold Acted at ha ⊢
  rw [← h, ← hf]
  exact ha

theorem tripUpdate_acted (t : Nat) (s : State) : Acted (tripUpdate t s) := by
  obtain ⟨q, c, v, r, o, h⟩ := tripUpdate_eq t s
  rw [h]
  exact rfl

theorem injectSafeBlock_acted (c d t : Nat) (s : State) : Acted (injectSafeBlock c d t s) := by
  obtain ⟨q, c, v, r, o, h⟩ := injectSafeBlock_eq c d t s
  rw [h]
  exact rfl

/-- After passes of inputs A_r is that of the latches. -/
theorem tripLatch_acted (is_ : List Nat) (st : Option Nat) (t : Nat) (s : State) : Acted (tripLatch is_ st t s) := by
  have fold_acted : ∀ (f : State → Nat → State), (∀ s x, Acted s → Acted (f s x)) →
      ∀ (l : List Nat) (s : State), Acted s → Acted (l.foldl f s) := by
    intro f hf l
    induction l with
    | nil => intro s h; exact h
    | cons x l ih => intro s h; exact ih _ (hf _ _ h)
  unfold tripLatch
  refine fold_acted _ ?_ _ _ (fold_acted _ ?_ _ _ (tripUpdate_acted _ _))
  · intro s x h
    by_cases hc : (tripCfg s x).esc = true
    · simp only [hc, if_true]; exact injectSafeBlock_acted _ _ _ _
    · simp only [hc]; exact h
  · intro s x h; exact h

end Sys2Proof
end

