-- ==== Sys2Proof/Laws/Lane.lean ====
section
/-! SUPPORT. The lanes: one lane's state under an update, and what leaving a state, a failure and a loss can change. -/

namespace Sys2Proof

open Sys2Proof.Machine

theorem settle_ln (s : State) (j : Nat) : LaneSame ((settle s).ln j) (s.ln j) := by
  unfold LaneSame State.ln settle settledLanes
  simp only [List.getD_eq_getElem?_getD, List.getElem?_mapIdx]
  cases s.lnk.lanes[j]? <;> rfl

/-- A lane that is not in its reset state is one of the lanes. -/
theorem lane_lt {s : State} {k : Nat} (h : (s.ln k).st ≠ 0) : k < s.lnk.lanes.length := by
  refine Nat.lt_of_not_le (fun hk => h ?_)
  unfold State.ln
  rw [List.getD_eq_getElem?_getD, List.getElem?_eq_none hk]
  rfl

theorem modAt_getD_self {α : Type} (l : List α) (k : Nat) (f : α → α) (d : α) (h : k < l.length) :
    (modAt l k f).getD k d = f (l.getD k d) := by
  simp [modAt, List.getD_eq_getElem?_getD, h]

theorem modAt_getD_ne {α : Type} (l : List α) (k j : Nat) (f : α → α) (d : α) (h : j ≠ k) :
    (modAt l k f).getD j d = l.getD j d := by
  simp [modAt, List.getD_eq_getElem?_getD, Ne.symm h]

theorem modAt_length {α : Type} (l : List α) (k : Nat) (f : α → α) : (modAt l k f).length = l.length := by
  simp [modAt]

theorem modLn_self {s : State} {k : Nat} (f : LaneS → LaneS) (h : k < s.lnk.lanes.length) :
    (s.modLn k f).ln k = f (s.ln k) := modAt_getD_self _ _ _ _ h

theorem modLn_ne (s : State) {k j : Nat} (f : LaneS → LaneS) (h : j ≠ k) : (s.modLn k f).ln j = s.ln j :=
  modAt_getD_ne _ _ _ _ _ h

/-- What the rules of a lane may change beside the lane: cells, the cell protocol, event parameters, the rank, faults and
what the recorders and the journal take of them. -/
def LaneForm (k : Nat) (s t : State) : Prop :=
  ∃ p c v r n f e j, t = { s with
    params := p, cells := c, cev := v, rnk := r, lnk := n, flt := f, evr := e, jnl := j } ∧
    n.lanes.length = s.lnk.lanes.length ∧ ∀ i, i ≠ k → n.lanes.getD i LaneS.reset = s.lnk.lanes.getD i LaneS.reset

theorem LaneForm.refl (k : Nat) (s : State) : LaneForm k s s := ⟨_, _, _, _, _, _, _, _, rfl, rfl, fun _ _ => rfl⟩

theorem LaneForm.trans {k : Nat} {a b c : State} (h1 : LaneForm k a b) (h2 : LaneForm k b c) : LaneForm k a c := by
  obtain ⟨_, _, _, _, _, _, _, _, e1, l1, o1⟩ := h1
  obtain ⟨_, _, _, _, _, _, _, _, e2, l2, o2⟩ := h2
  rw [e1] at e2 l2 o2
  exact ⟨_, _, _, _, _, _, _, _, e2, l2.trans l1, fun i hi => (o2 i hi).trans (o1 i hi)⟩

theorem LaneForm.length {k : Nat} {s t : State} (h : LaneForm k s t) : t.lnk.lanes.length = s.lnk.lanes.length := by
  obtain ⟨_, _, _, _, _, _, _, _, e, l, _⟩ := h
  rw [e]; exact l

theorem LaneForm.other {k : Nat} {s t : State} (h : LaneForm k s t) {j : Nat} (hj : j ≠ k) : t.ln j = s.ln j := by
  obtain ⟨_, _, _, _, _, _, _, _, e, _, o⟩ := h
  rw [e]; exact o j hj

/-- The blocks of the converter under the rules of a lane. -/
theorem LaneForm.engines {k : Nat} {s t : State} (h : LaneForm k s t) : Sys2Proof.engines t = { Sys2Proof.engines s with
    params := t.params, cells := t.cells, cev := t.cev, rnk := t.rnk } := by
  obtain ⟨_, _, _, _, _, _, _, _, e, _, _⟩ := h
  rw [e]; rfl

theorem modLn_form (k : Nat) (f : LaneS → LaneS) (s : State) : LaneForm k s (s.modLn k f) :=
  ⟨_, _, _, _, _, _, _, _, rfl, modAt_length _ _ _, fun _ hi => modAt_getD_ne _ _ _ _ _ hi⟩

theorem modCv_form (k i : Nat) (f : CevLane → CevLane) (s : State) : LaneForm k s (s.modCv i f) :=
  ⟨_, _, _, _, _, _, _, _, rfl, rfl, fun _ _ => rfl⟩

theorem setEnt_form (k i : Nat) (e : Entry) (s : State) : LaneForm k s (s.setEnt i e) :=
  ⟨_, _, _, _, _, _, _, _, rfl, rfl, fun _ _ => rfl⟩

theorem modEnt_form (k i : Nat) (f : Entry → Entry) (s : State) : LaneForm k s (s.modEnt i f) := setEnt_form _ _ _ _

theorem propose_form (k i st cause : Nat) (s : State) : LaneForm k s (propose i st cause s) := modEnt_form _ _ _ _

theorem fireP_form (k : Nat) (sel : Nat → Bool) (s : State) : LaneForm k s (fireP sel s) :=
  ⟨_, _, _, _, _, _, _, _, rfl, rfl, fun _ _ => rfl⟩

theorem raise_form (k a b c d : Nat) (s : State) : LaneForm k s (raise a b c d s) := by
  obtain ⟨f, e, h⟩ := raise_eq a b c d s
  exact ⟨_, _, _, _, _, _, _, _, h, rfl, fun _ _ => rfl⟩

theorem raiseIf_form (q : Bool) (k a b c d : Nat) (s : State) : LaneForm k s (raiseIf q a b c d s) := by
  unfold raiseIf
  split
  · exact raise_form _ _ _ _ _ _
  · exact LaneForm.refl _ _

/-- A step that leaves every lane's state. -/
theorem raise_ln (a b c d : Nat) (s : State) (j : Nat) : (raise a b c d s).ln j = s.ln j := by
  obtain ⟨f, e, h⟩ := raise_eq a b c d s
  rw [h]; rfl

theorem raiseIf_ln (q : Bool) (a b c d : Nat) (s : State) (j : Nat) : (raiseIf q a b c d s).ln j = s.ln j := by
  unfold raiseIf
  split
  · exact raise_ln _ _ _ _ _ _
  · rfl

/-- The entries of a lane that leaves its active state: their cells are forgotten, and the lane's phase cache where it was
in use. -/
theorem laneLeave_eq (k : Nat) (s : State) : ∃ c v, laneLeave k s = { s with
    cells := c
    cev := v
    lnk := { s.lnk with lanes := modAt s.lnk.lanes k (fun l => { l with pc := if l.st = 6 ∨ l.st = 7 then [] else l.pc }) } } := by
  have key : ∀ (f : State → Nat → State) (_ : ∀ x i, ∃ c, f x i = { x with cells := c }) (l : List Nat) (x : State),
      ∃ c, l.foldl f x = { x with cells := c } := by
    intro f hf l x
    refine foldl_form (R := fun a b => ∃ c, b = { a with cells := c }) (fun a => ⟨a.cells, rfl⟩) ?_ _ hf l x
    rintro a b c ⟨_, h1⟩ ⟨_, h2⟩
    exact ⟨_, by rw [h2, h1]⟩
  unfold laneLeave
  simp only
  obtain ⟨c1, h1⟩ := key (fun a i => if 1 ≤ (a.ent i).st ∧ (a.ent i).st ≤ 4 then propose i 0 0x13 a else a)
    (fun x i => by by_cases h : 1 ≤ (x.ent i).st ∧ (x.ent i).st ≤ 4 <;> simp only [h, if_false]
                   · exact ⟨_, rfl⟩
                   · exact ⟨x.cells, rfl⟩) ((s.laneL k).map Prod.fst) s
  rw [h1]
  obtain ⟨c2, h2⟩ := key (fun a i => a.modEnt i (fun e =>
    { e with seen := none, ranged := false, tries := 0, echoed := false, cfgDue := false }))
    (fun x i => ⟨_, rfl⟩) ((s.laneL k).map Prod.fst) { s with cells := c1 }
  rw [h2]
  exact ⟨_, _, rfl⟩

theorem laneLeave_form (k : Nat) (s : State) : LaneForm k s (laneLeave k s) := by
  obtain ⟨c, v, h⟩ := laneLeave_eq k s
  exact ⟨_, _, _, _, _, _, _, _, h, modAt_length _ _ _, fun _ hi => modAt_getD_ne _ _ _ _ _ hi⟩

theorem laneLeave_ln (k : Nat) (s : State) (h : k < s.lnk.lanes.length) :
    (laneLeave k s).ln k = { s.ln k with pc := if (s.ln k).st = 6 ∨ (s.ln k).st = 7 then [] else (s.ln k).pc } := by
  obtain ⟨c, v, e⟩ := laneLeave_eq k s
  rw [e]; exact modAt_getD_self _ _ _ _ h

theorem laneToDetect_form (k st : Nat) (s : State) : LaneForm k s (laneToDetect k st s) :=
  (laneLeave_form k s).trans ((modLn_form k _ _).trans (fireP_form k _ _))

/-- A lane that enters DISABLED or DETECT. -/
theorem laneToDetect_ln (k st : Nat) (s : State) (h : k < s.lnk.lanes.length) :
    ((laneToDetect k st s).ln k).st = st ∧ (st = 1 → ((laneToDetect k st s).ln k).light = false) ∧
    ((laneToDetect k st s).ln k).retries = (s.ln k).retries ∧ ((laneToDetect k st s).ln k).caps = [] := by
  have e : (laneToDetect k st s).ln k = _ :=
    modLn_self (s := laneLeave k s) _ (by rw [(laneLeave_form k s).length]; exact h)
  rw [e, laneLeave_ln k s h]
  exact ⟨rfl, fun h1 => by subst h1; rfl, rfl, rfl⟩

theorem laneFail_form (k cause : Nat) (s : State) : LaneForm k s (laneFail k cause s) := by
  unfold laneFail
  exact (laneLeave_form k s).trans ((fireP_form k _ _).trans ((modLn_form k _ _).trans
    ((raise_form k _ _ _ _ _).trans (raiseIf_form _ k _ _ _ _ _))))

/-- A failure of the bring-up: the lane waits for its retry, held at the limit. -/
theorem laneFail_ln (k cause : Nat) (s : State) (h : k < s.lnk.lanes.length) :
    ((laneFail k cause s).ln k).st = 8 ∧ ((laneFail k cause s).ln k).cause = cause ∧
    ((laneFail k cause s).ln k).retries = satAdd 4 (s.ln k).retries 1 ∧ ((laneFail k cause s).ln k).caps = [] := by
  have h2 : k < (fireP (fun i => decide (i = 0x8205) || decide (i = 0x8206)) (laneLeave k s)).lnk.lanes.length := by
    rw [(fireP_form k _ _).length, (laneLeave_form k s).length]; exact h
  unfold laneFail
  simp only [raiseIf_ln, raise_ln]
  rw [modLn_self _ h2]
  refine ⟨rfl, rfl, ?_, rfl⟩
  show satAdd 4 ((laneLeave k s).ln k).retries 1 = _
  rw [laneLeave_ln k s h]

theorem laneLost_form (k : Nat) (s : State) : LaneForm k s (laneLost k s) :=
  LaneForm.trans ⟨_, _, _, _, _, _, _, _, rfl, rfl, fun _ _ => rfl⟩
    ((raise_form k 0x08 k 3 6 { s with lnk := { s.lnk with downs := satAdd 32 s.lnk.downs 1 } }).trans
      ((laneToDetect_form k 1 _).trans (modLn_form k _ _)))

/-- A lane lost in ACTIVE. -/
theorem laneLost_ln (k : Nat) (s : State) (h : k < s.lnk.lanes.length) :
    ((laneLost k s).ln k).st = 1 ∧ ((laneLost k s).ln k).cause = 6 := by
  have h1 : k < (raise 0x08 k 3 6 { s with lnk := { s.lnk with downs := satAdd 32 s.lnk.downs 1 } }).lnk.lanes.length := by
    rw [(raise_form k _ _ _ _ _).length]; exact h
  unfold laneLost
  simp only
  rw [modLn_self _ (by rw [(laneToDetect_form k _ _).length]; exact h1)]
  exact ⟨(laneToDetect_ln k 1 _ h1).1, rfl⟩

end Sys2Proof
end

