-- ==== Sys2Proof/Laws/Mem.lean ====
section
/-! SUPPORT. Sparse tables and byte memories: a read after a write, and that every operation keeps the canonical
form. -/

namespace Sys2Proof.Machine

open Sys2Proof

variable {α : Type} [DecidableEq α]

/-- What is written at a key is read there. -/
@[simp] theorem Tab.get_set_same (d : α) (k : Nat) (v : α) (t : Tab α) (lo : Nat) (h : Tab.wfFrom d lo t = true) :
    Tab.get d (Tab.set d k v t) k = v := by
  induction t generalizing lo with
  | nil => by_cases hv : v = d <;> simp [Tab.set, Tab.get, hv]
  | cons e t ih =>
    obtain ⟨i, x⟩ := e
    simp only [Tab.wfFrom, Bool.and_eq_true, decide_eq_true_eq] at h
    have above : ∀ (lo' : Nat) (u : Tab α), Tab.wfFrom d lo' u = true → k < lo' → Tab.get d u k = d := by
      intro lo' u
      induction u generalizing lo' with
      | nil => intros; rfl
      | cons y u ihu =>
        intro hu hk
        simp only [Tab.wfFrom, Bool.and_eq_true, decide_eq_true_eq] at hu
        have hne : y.1 ≠ k := by omega
        simp only [Tab.get, hne, if_false]
        exact ihu _ hu.2 (by omega)
    simp only [Tab.set]
    by_cases h1 : k < i
    · have hne : i ≠ k := by omega
      by_cases hv : v = d
      · simp [h1, hv, Tab.get, hne, above _ t h.2 (by omega)]
      · simp [h1, hv, Tab.get]
    · by_cases h2 : k = i
      · by_cases hv : v = d
        · simp [h1, h2, hv]
          rw [← h2]
          exact above _ t h.2 (by omega)
        · simp [h1, h2, hv, Tab.get]
      · have hne : i ≠ k := by omega
        simp [h1, h2, Tab.get, hne, ih _ h.2]

/-- A write leaves what is read at every other key. -/
@[simp] theorem Tab.get_set_other (d : α) (k j : Nat) (v : α) (t : Tab α) (h : j ≠ k) :
    Tab.get d (Tab.set d k v t) j = Tab.get d t j := by
  have hk : k ≠ j := fun e => h e.symm
  induction t with
  | nil => by_cases hv : v = d <;> simp [Tab.set, Tab.get, hv, hk]
  | cons e t ih =>
    obtain ⟨i, x⟩ := e
    simp only [Tab.set]
    by_cases h1 : k < i
    · by_cases hv : v = d <;> simp [h1, hv, Tab.get, hk]
    · by_cases h2 : k = i
      · have hij : i ≠ j := by omega
        by_cases hv : v = d <;> simp [h1, h2, hv, Tab.get, hij, hk]
      · simp [h1, h2, Tab.get, ih]

/-- A write keeps the canonical form. -/
theorem Tab.wfFrom_set (d : α) (k lo : Nat) (v : α) (t : Tab α) (h : Tab.wfFrom d lo t = true) (hk : lo ≤ k) :
    Tab.wfFrom d lo (Tab.set d k v t) = true := by
  induction t generalizing lo with
  | nil => by_cases hv : v = d <;> simp [Tab.set, Tab.wfFrom, hv, hk]
  | cons e t ih =>
    obtain ⟨i, x⟩ := e
    simp only [Tab.wfFrom, Bool.and_eq_true, decide_eq_true_eq] at h
    have lower : ∀ (u : Tab α) (a b : Nat), Tab.wfFrom d a u = true → b ≤ a → Tab.wfFrom d b u = true := by
      intro u a b hu hab
      cases u with
      | nil => rfl
      | cons y u =>
        simp only [Tab.wfFrom, Bool.and_eq_true, decide_eq_true_eq] at hu ⊢
        exact ⟨⟨by omega, hu.1.2⟩, hu.2⟩
    simp only [Tab.set]
    by_cases h1 : k < i
    · by_cases hv : v = d
      · simp [h1, hv, Tab.wfFrom, h.1.1, h.1.2, h.2]
      · have : k + 1 ≤ i := by omega
        simp [h1, hv, Tab.wfFrom, hk, h.1.2, h.2, this]
    · by_cases h2 : k = i
      · by_cases hv : v = d
        · simp [h1, h2, hv]
          exact lower t (i + 1) lo h.2 (by omega)
        · simp only [h1, if_false, h2, if_true, hv]
          simp [Tab.wfFrom, hv, h.2]
          omega
      · simp only [h1, if_false, h2, Tab.wfFrom, Bool.and_eq_true, decide_eq_true_eq]
        exact ⟨h.1, ih _ h.2 (by omega)⟩

@[simp] theorem Memory.wf_nil : Memory.wf [] := rfl

/-- Writing a byte keeps the canonical form. -/
@[simp] theorem Memory.write_wf (m : Memory) (a : Nat) (b : Byte) (h : m.wf) : (m.write a b).wf :=
  Tab.wfFrom_set (0 : Byte) a 0 b m h (Nat.zero_le a)

/-- Writing bytes keeps the canonical form. -/
@[simp] theorem Memory.writeBytes_wf (m : Memory) (a : Nat) (l : List Byte) (h : m.wf) : (m.writeBytes a l).wf := by
  induction l generalizing m a with
  | nil => exact h
  | cons b bs ih => exact ih _ _ (Memory.write_wf m a b h)

/-- Leaving entries out keeps the canonical form. -/
theorem Tab.wfFrom_filter (d : α) (p : Nat × α → Bool) (lo : Nat) (t : Tab α) (h : Tab.wfFrom d lo t = true) :
    Tab.wfFrom d lo (t.filter p) = true := by
  induction t generalizing lo with
  | nil => rfl
  | cons e t ih =>
    obtain ⟨i, x⟩ := e
    simp only [Tab.wfFrom, Bool.and_eq_true, decide_eq_true_eq] at h
    have lower : ∀ (u : Tab α) (a b : Nat), Tab.wfFrom d a u = true → b ≤ a → Tab.wfFrom d b u = true := by
      intro u a b hu hab
      cases u with
      | nil => rfl
      | cons y u =>
        simp only [Tab.wfFrom, Bool.and_eq_true, decide_eq_true_eq] at hu ⊢
        exact ⟨⟨by omega, hu.1.2⟩, hu.2⟩
    by_cases hp : p (i, x) = true
    · simp [List.filter_cons, hp, Tab.wfFrom, h.1.1, h.1.2, ih _ h.2]
    · simp [List.filter_cons, hp]
      exact lower _ (i + 1) lo (ih _ h.2) (by omega)

/-- Zeroing a range keeps the canonical form. -/
@[simp] theorem Memory.zero_wf (m : Memory) (a n : Nat) (h : m.wf) : (m.zero a n).wf :=
  Tab.wfFrom_filter (0 : Byte) _ 0 m h

/-- A byte that has been written is read. -/
@[simp] theorem Memory.read_write_same (m : Memory) (a : Nat) (b : Byte) (h : m.wf) : (m.write a b).read a = b :=
  Tab.get_set_same (0 : Byte) a b m 0 h

/-- A write leaves every other byte. -/
@[simp] theorem Memory.read_write_other (m : Memory) (a c : Nat) (b : Byte) (h : c ≠ a) :
    (m.write a b).read c = m.read c :=
  Tab.get_set_other (0 : Byte) a c b m h

/-- Bytes written leave every byte outside of them. -/
theorem Memory.read_writeBytes_other (m : Memory) (a c : Nat) (l : List Byte) (h : c < a ∨ a + l.length ≤ c) :
    (m.writeBytes a l).read c = m.read c := by
  induction l generalizing m a with
  | nil => rfl
  | cons b bs ih =>
    simp only [List.length_cons] at h
    rw [Memory.writeBytes, ih _ _ (by omega)]
    exact Memory.read_write_other m a c b (by omega)

end Sys2Proof.Machine
end

