-- ==== Sys2Proof/Laws/MemKeep.lean ====
section
/-! SUPPORT. The operations that write the memories of the recorders keep their canonical form. -/

namespace Sys2Proof.Machine

open Sys2Proof

/-- A memory is in canonical form. -/
def Canon (m : Memory) : Prop := m.wf

@[simp] theorem Canon_nil : Canon [] := rfl

@[simp] theorem Canon_write (m : Memory) (a : Nat) (b : Byte) (h : Canon m) : Canon (m.write a b) :=
  Memory.write_wf m a b h

@[simp] theorem Canon_writeBytes (m : Memory) (a : Nat) (l : List Byte) (h : Canon m) : Canon (m.writeBytes a l) :=
  Memory.writeBytes_wf m a l h

@[simp] theorem Canon_zero (m : Memory) (a n : Nat) (h : Canon m) : Canon (m.zero a n) := Memory.zero_wf m a n h

@[simp] theorem Canon_zeros (l : List Nat) (f : Nat → Nat) (n : Nat) (m : Memory) (h : Canon m) :
    Canon (l.foldl (fun x i => Memory.zero x (f i) n) m) := by
  induction l generalizing m with
  | nil => exact h
  | cons i l ih => exact ih _ (Canon_zero m (f i) n h)

/-- Both memories are in canonical form. -/
def memOk (m : Memory × Memory) : Prop := Canon m.1 ∧ Canon m.2

theorem memOk_mk (a b : Memory) : memOk (a, b) ↔ Canon a ∧ Canon b := Iff.rfl

theorem trcMem_eq (s : State) : s.trc.mem = (keep s).mem.1 := rfl

theorem evrMem_eq (s : State) : s.evr.mem = (keep s).mem.2 := rfl

theorem memOk_foldl {α} (l : List α) (f : State → α → State) (s : State)
    (hf : ∀ a x, memOk (keep a).mem → memOk (keep (f a x)).mem) (h : memOk (keep s).mem) :
    memOk (keep (l.foldl f s)).mem := by
  induction l generalizing s with
  | nil => exact h
  | cons x xs ih => exact ih _ (hf _ _ h)

theorem hostCmd_memOk (i : Instr) (c : Ctx) (states : DevState → Bool) (own : State → State) (s : State)
    (ho : ∀ x, memOk (keep x).mem → memOk (keep (own x)).mem) (h : memOk (keep s).mem) :
    memOk (keep (hostCmd i c states own s)).mem := by
  have hc : ∀ x, memOk (keep x).mem → memOk (keep (checked c states own x)).mem := by
    intro x hx
    simp only [checked]
    (repeat' split) <;> simp [hx, ho]
  simp only [hostCmd]
  (repeat' split) <;> simp [h, hc]

@[simp] theorem trcHeader_memOk (st : Nat) (s : State) (hm : memOk (keep s).mem) :
    memOk (keep (trcHeader st s)).mem := by
  have ⟨h1, h2⟩ := hm; simp [trcHeader, memOk_mk, trcMem_eq, evrMem_eq, h1, h2]

@[simp] theorem trcTrig_memOk (code slot t : Nat) (s : State) (hm : memOk (keep s).mem) :
    memOk (keep (trcTrig code slot t s)).mem := by
  have ⟨h1, h2⟩ := hm; simp only [trcTrig]; (repeat' split) <;> simp [memOk_mk, trcMem_eq, evrMem_eq, h1, h2, hm]

@[simp] theorem trcComplete_memOk (flag : Nat) (s : State) (hm : memOk (keep s).mem) :
    memOk (keep (trcComplete flag s)).mem := by
  simp [trcComplete, mem_eq, hm]

@[simp] theorem trcPostComplete_memOk (s : State) (hm : memOk (keep s).mem) :
    memOk (keep (trcPostComplete s)).mem := by
  simp only [trcPostComplete]; (repeat' split) <;> simp [hm]

@[simp] theorem maskHit_memOk (slot t : Nat) (s : State) (hm : memOk (keep s).mem) :
    memOk (keep (maskHit slot t s)).mem := by
  simp only [maskHit]; (repeat' split) <;> simp [mem_eq, hm]

@[simp] theorem trcMaskViolation_memOk (slot t : Nat) (v : Int) (s : State) (hm : memOk (keep s).mem) :
    memOk (keep (trcMaskViolation slot t v s)).mem := by
  simp only [trcMaskViolation]; (repeat' split) <;> simp [mem_eq, hm]

@[simp] theorem ringPut_memOk (w : Nat) (s : State) (hm : memOk (keep s).mem) :
    memOk (keep (ringPut w s)).mem := by
  have ⟨h1, h2⟩ := hm; simp [ringPut, memOk_mk, trcMem_eq, evrMem_eq, h1, h2]

@[simp] theorem afterPut_memOk (s : State) (hm : memOk (keep s).mem) :
    memOk (keep (afterPut s)).mem := by
  simp [afterPut, hm]

@[simp] theorem putMarker_memOk (len : Nat) (s : State) (hm : memOk (keep s).mem) :
    memOk (keep (putMarker len s)).mem := by
  simp only [putMarker]; (repeat' split) <;> simp [hm]

@[simp] theorem putWord_memOk (open_ slot t v flags : Nat) (s : State) (hm : memOk (keep s).mem) :
    memOk (keep (putWord open_ slot t v flags s)).mem := by
  have h1 := maskHit_memOk slot t s hm
  simp only [putWord]
  (repeat' split) <;> simp [mem_eq, hm, h1]

@[simp] theorem edgeValue_memOk (slot t : Nat) (v : Int) (s : State) (hm : memOk (keep s).mem) :
    memOk (keep (edgeValue slot t v s)).mem := by
  simp only [edgeValue]; (repeat' split) <;> simp [hm]

@[simp] theorem trcEdgeTrigger_memOk (t : Nat) (v : Int) (s : State) (hm : memOk (keep s).mem) :
    memOk (keep (trcEdgeTrigger t v s)).mem := by
  simp only [trcEdgeTrigger]; (repeat' split) <;> simp [mem_eq, hm]

@[simp] theorem blockTake_memOk (open_ : Nat) (x : TSample) (s : State) (hm : memOk (keep s).mem) :
    memOk (keep (blockTake open_ x s)).mem := by
  simp only [blockTake]; (repeat' split) <;> simp [mem_eq, hm]

@[simp] theorem trcInstant_memOk (open_ : Nat) (l : List TSample) (s : State) (hm : memOk (keep s).mem) :
    memOk (keep (trcInstant open_ l s)).mem := by
  simp only [trcInstant]
  (repeat' (first | split | (refine memOk_foldl _ _ _ (fun a x h => ?_) ?_))) <;> first | (simp [*]; done) | (simp_all [mem_eq]; done)

@[simp] theorem trcArm_memOk (s : State) (hm : memOk (keep s).mem) :
    memOk (keep (trcArm s)).mem := by
  have ⟨h1, h2⟩ := hm; simp [trcArm, memOk_mk, trcMem_eq, evrMem_eq, h1, h2]

@[simp] theorem trcFill_memOk (s : State) (hm : memOk (keep s).mem) :
    memOk (keep (trcFill s)).mem := by
  simp [trcFill, mem_eq, hm]

@[simp] theorem trcStart_memOk (s : State) (hm : memOk (keep s).mem) :
    memOk (keep (trcStart s)).mem := by
  simp only [trcStart]; (repeat' split) <;> simp [mem_eq, hm]

@[simp] theorem trcWindow_memOk (inp : RimIn) (len : Nat) (s : State) (hm : memOk (keep s).mem) :
    memOk (keep (trcWindow inp len s)).mem := by
  simp only [trcWindow]
  (repeat' (first | split | (refine memOk_foldl _ _ _ (fun a x h => ?_) ?_))) <;> first | (simp [mem_eq, *]; done) | (simp_all [mem_eq]; done)

@[simp] theorem trcRim_memOk (s : State) (hm : memOk (keep s).mem) :
    memOk (keep (trcRim s)).mem := by
  simp only [trcRim]
  refine memOk_foldl _ _ _ (fun a x h => by simp [h]) (putMarker_memOk _ _ ?_)
  exact memOk_foldl _ _ _ (fun a x h => by simp [h]) (by simp [mem_eq, hm])

@[simp] theorem trigLineFire_memOk (t : Nat) (s : State) (hm : memOk (keep s).mem) :
    memOk (keep (trigLineFire t s)).mem := by
  simp only [trigLineFire]; (repeat' split) <;> simp [hm]

@[simp] theorem trigLineArm_memOk (s : State) (hm : memOk (keep s).mem) :
    memOk (keep (trigLineArm s)).mem := by
  simp only [trigLineArm]; (repeat' split) <;> simp [mem_eq, hm]

@[simp] theorem trcTrip_memOk (i t : Nat) (before after : State) (hm : memOk (keep after).mem) :
    memOk (keep (trcTrip i t before after)).mem := by
  simp only [trcTrip]; (repeat' split) <;> simp [hm]

@[simp] theorem trcArmCmd_memOk (c : Ctx) (s : State) (hm : memOk (keep s).mem) :
    memOk (keep (trcArmCmd c s)).mem := by
  simp only [trcArmCmd]; (repeat' split) <;> simp [hm]

@[simp] theorem trcDisarm_memOk (s : State) (hm : memOk (keep s).mem) :
    memOk (keep (trcDisarm s)).mem := by
  simp only [trcDisarm]; (repeat' split) <;> simp [mem_eq, hm]

@[simp] theorem trcTrigger_memOk (c : Ctx) (s : State) (hm : memOk (keep s).mem) :
    memOk (keep (trcTrigger c s)).mem := by
  simp [trcTrigger, hm]

@[simp] theorem hostTrcArm_memOk (h : CmdHdr) (s_ : State) (hm : memOk (keep s_).mem) :
    memOk (keep (hostTrcArm h s_)).mem := by
  exact hostCmd_memOk _ _ _ _ _ (fun x hx => by simp [hx]) hm

@[simp] theorem hostTrcDisarm_memOk (h : CmdHdr) (s_ : State) (hm : memOk (keep s_).mem) :
    memOk (keep (hostTrcDisarm h s_)).mem := by
  exact hostCmd_memOk _ _ _ _ _ (fun x hx => by simp [hx]) hm

@[simp] theorem hostTrcTrigger_memOk (h : CmdHdr) (s_ : State) (hm : memOk (keep s_).mem) :
    memOk (keep (hostTrcTrigger h s_)).mem := by
  exact hostCmd_memOk _ _ _ _ _ (fun x hx => by simp [hx]) hm

@[simp] theorem hostFcs1CaptureArm_memOk (h : CmdHdr) (s_ : State) (hm : memOk (keep s_).mem) :
    memOk (keep (hostFcs1CaptureArm h s_)).mem := by
  exact hostCmd_memOk _ _ _ _ _ (fun x hx => by simp [hx]) hm

@[simp] theorem hostFcs1CaptureForce_memOk (h : CmdHdr) (s_ : State) (hm : memOk (keep s_).mem) :
    memOk (keep (hostFcs1CaptureForce h s_)).mem := by
  exact hostCmd_memOk _ _ _ _ _ (fun x hx => by simp [hx]) hm

@[simp] theorem evrFirst_memOk (tr : Trig) (num : Nat) (s : State) (hm : memOk (keep s).mem) :
    memOk (keep (evrFirst tr num s)).mem := by
  have ⟨h1, h2⟩ := hm; simp only [evrFirst]; (repeat' split) <;> simp [memOk_mk, trcMem_eq, evrMem_eq, h1, h2, hm]

@[simp] theorem evrRecordWrite_memOk (s : State) (hm : memOk (keep s).mem) :
    memOk (keep (evrRecordWrite s)).mem := by
  simp only [evrRecordWrite]
  split
  · exact hm
  · rename_i tr rest hq
    have h0 : memOk (keep { s with
        evr := evrUnhold { s.evr with queue := rest, num := numAfter s.evr.num 1 } }).mem := by
      simp [evrUnhold, mem_eq, hm]
    have ⟨h1, h2⟩ := evrFirst_memOk tr (numAfter s.evr.num 1) _ h0
    simp only [keep_mk, memOk_mk, trcMem_eq, evrMem_eq]
    exact ⟨h1, Canon_writeBytes _ _ _ h2⟩

@[simp] theorem evrZeroFirst_memOk (s : State) (hm : memOk (keep s).mem) :
    memOk (keep (evrZeroFirst s)).mem := by
  have ⟨h1, h2⟩ := hm; simp [evrZeroFirst, memOk_mk, trcMem_eq, evrMem_eq, h1, h2]

@[simp] theorem evrClearFirst_memOk (c : Ctx) (s : State) (hm : memOk (keep s).mem) :
    memOk (keep (evrClearFirst c s)).mem := by
  simp [evrClearFirst, mem_eq, hm]

@[simp] theorem hostEvrClearFirst_memOk (h : CmdHdr) (s_ : State) (hm : memOk (keep s_).mem) :
    memOk (keep (hostEvrClearFirst h s_)).mem := by
  exact hostCmd_memOk _ _ _ _ _ (fun x hx => by simp [hx]) hm

@[simp] theorem jnlRestore_memOk (flash0 flash1 : Bool) (ms : Nat) (s : State) (hm : memOk (keep s).mem) :
    memOk (keep (jnlRestore flash0 flash1 ms s)).mem := by
  have hr : ∀ (r : JRec) (x : State × List BatchEnt), memOk (keep x.1).mem → memOk (keep (recRestore r x).1).mem := by
    intro r x h
    simp only [recRestore]
    (repeat' split) <;> first | (simp [h, mem_eq]; done) | (exact ⟨h.1, Canon_writeBytes _ _ _ h.2⟩)
  have hf : ∀ (l : List JRec) (x : State × List BatchEnt), memOk (keep x.1).mem →
      memOk (keep (l.foldl (fun a r => recRestore r a) x).1).mem := by
    intro l
    induction l with
    | nil => intro x h; exact h
    | cons r l ih => intro x h; exact ih _ (hr r x h)
  simp only [jnlRestore]
  split <;> simp [mem_eq, hf, hm]

@[simp] theorem fullReset_memOk (s : State) (hm : memOk (keep s).mem) :
    memOk (keep (fullReset s)).mem := by
  exact ⟨Canon_nil, Canon_nil⟩

@[simp] theorem aonReset_memOk (cause : Nat) (s : State) (hm : memOk (keep s).mem) :
    memOk (keep (aonReset cause s)).mem := by
  exact ⟨Canon_nil, Canon_nil⟩

@[simp] theorem powerOn_memOk (s : State) (hm : memOk (keep s).mem) :
    memOk (keep (powerOn s)).mem := by
  simp [powerOn, hm]

@[simp] theorem powerLoss_memOk (s : State) (hm : memOk (keep s).mem) :
    memOk (keep (powerLoss s)).mem := by
  simp [powerLoss, hm]

@[simp] theorem boardReset_memOk (s : State) (hm : memOk (keep s).mem) :
    memOk (keep (boardReset s)).mem := by
  simp only [boardReset]; (repeat' split) <;> simp [hm]

@[simp] theorem fatalRestart_memOk (t : Nat) (s : State) (hm : memOk (keep s).mem) :
    memOk (keep (fatalRestart t s)).mem := by
  simp only [fatalRestart]; (repeat' split) <;> simp [mem_eq, hm]

@[simp] theorem devRestartExpire_memOk (s : State) (hm : memOk (keep s).mem) :
    memOk (keep (devRestartExpire s)).mem := by
  simp only [devRestartExpire]; (repeat' split) <;> simp [hm]

@[simp] theorem restoreStep_memOk (inp : StartIn) (s : State) (hm : memOk (keep s).mem) :
    memOk (keep (restoreStep inp s)).mem := by
  simp only [restoreStep]; (repeat' split) <;> simp [mem_eq, hm]

@[simp] theorem startUpStep_memOk (inp : StartIn) (s : State) (hm : memOk (keep s).mem) :
    memOk (keep (startUpStep inp s)).mem := by
  have hw : ∀ s1, stepWork inp s = some s1 → memOk (keep s1).mem := by
    intro s1 hs
    unfold stepWork at hs
    split at hs
    all_goals first | (simp at hs; done) | skip
    all_goals (try dsimp only at hs)
    all_goals (try split at hs)
    all_goals first
      | (simp at hs; done)
      | (rw [← Option.some.inj hs]; simp [mem_eq, hm]; done)
  simp only [startUpStep]
  split
  · exact hm
  · split
    · rename_i s1 hs
      have hk := hw s1 hs
      (repeat' split) <;> simp [mem_eq, hk]
    · exact hm

@[simp] theorem execHost_memOk (i : Instr) (s_ : State) (hm : memOk (keep s_).mem) :
    memOk (keep (execHost i s_)).mem := by
  unfold execHost
  split <;> simp [hm]

@[simp] theorem runHeld_memOk (s : State) (hm : memOk (keep s).mem) :
    memOk (keep (runHeld s)).mem := by
  simp only [runHeld]
  (repeat' (first | split | (refine memOk_foldl _ _ _ (fun a x h => ?_) ?_))) <;> first | (simp [mem_eq, *]; done) | (simp_all [mem_eq]; done)

@[simp] theorem rimOpen_memOk (inp : RimIn) (s : State) (hm : memOk (keep s).mem) :
    memOk (keep (rimOpen inp s)).mem := by
  simp [rimOpen, mem_eq, hm]

@[simp] theorem rim_memOk (inp : RimIn) (s0 : State) (hm : memOk (keep s0).mem) :
    memOk (keep (rim inp s0)).mem := by
  simp only [rim]
  split
  · exact hm
  · generalize hs1 : rimOpen inp s0 = s1
    have h1 : memOk (keep s1).mem := by rw [← hs1]; exact rimOpen_memOk _ _ hm
    generalize hc : rimCommands s0 s0.frm.count s1 = c
    have h2 : memOk (keep c.1).mem := by rw [← hc]; simp [h1]
    (repeat' split) <;> simp [h2]

end Sys2Proof.Machine
end

