-- ==== Sys2Proof/Laws/Trc.lean ====
section
/-! SUPPORT. The transient recorder: what a trigger, a completion and a mask violation can change. -/

namespace Sys2Proof

open Sys2Proof.Machine

/-- A pulse on the fire line changes its count and what is emitted. -/
theorem fireOut_eq (code : Nat) (s : State) : ∃ n out, fireOut code s = { s with
    trc := { s.trc with fires := n }, out := out } := by
  unfold fireOut
  split
  · split <;> exact ⟨_, _, rfl⟩
  · exact ⟨_, _, rfl⟩

/-- A trigger changes the recorder and what is emitted alone. -/
theorem trcTrig_eq (code slot t : Nat) (s : State) : ∃ trc out, trcTrig code slot t s = { s with trc := trc, out := out } := by
  unfold trcTrig
  simp only
  split
  · exact ⟨_, _, rfl⟩
  · split
    · exact ⟨_, _, (fireOut_eq code _).choose_spec.choose_spec⟩
    · split
      · exact ⟨_, _, rfl⟩
      · split <;> exact ⟨_, _, rfl⟩

/-- A pass of a trip input as a trigger. -/
theorem trcTrip_eq (i t : Nat) (a b : State) : ∃ trc out, trcTrip i t a b = { b with trc := trc, out := out } := by
  unfold trcTrip
  split
  · exact trcTrig_eq 3 0xFF t b
  · exact ⟨_, _, rfl⟩

end Sys2Proof
end

