-- ==== Sys2Proof/WellFormed.lean ====
section
/-! DEFINITION. Well-formed commands: every operand within the field of the packet, register, message or pin that
carries it (R7, R41, R74, R202, R256, R317, R356, R377, R406, R408). What lies within a field and outside a command's
range is the command's to refuse. -/

namespace Sys2Proof

/-- An unsigned value within `w` bits. -/
def fits (w x : Nat) : Bool := decide (x < 2 ^ w)

/-- A two's complement value within `w` bits. -/
def fitsS (w : Nat) (x : Int) : Bool := decide (-(2 ^ (w - 1) : Int) ≤ x) && decide (x < 2 ^ (w - 1))

/-- An index below a count. -/
def below (n x : Nat) : Bool := decide (x < n)

/-- The header of a packet (R377): one of four pairs, 32-bit SEQ and TAG. -/
def CmdHdr.wf (h : CmdHdr) : Bool := below 4 h.pair && fits 32 h.seq && fits 32 h.tag && fits 64 h.time

/-- OUT_LEN and OUT_ADDR (R391). -/
def OutBuf.wf (b : OutBuf) : Bool := fits 32 b.len && fits 64 b.addr

/-- Twelve converters with 16-bit codes, sixteen trip inputs, four trigger lines (R40, R41, R278, R439). -/
def RimIn.wf (i : RimIn) : Bool :=
  decide (i.conv.length = 12) && i.conv.all (fun l => l.all (fun x => fits 64 x.1 && fitsS 16 x.2)) &&
    fits 16 i.trips && fits 4 i.lines && fitsS 16 i.tj

/-- A channel's calibration sums (R56). -/
def CalSum.wf (c : CalSum) : Bool := below 192 c.ch && fitsS 32 c.zero && fitsS 32 c.pos && fitsS 32 c.neg

/-- A queue entry of R74. -/
def RampArgs.wf (e : RampArgs) : Bool :=
  below 8 e.group && fits 8 e.mask && fits 8 e.mode && fits 16 e.blend && fits 32 e.minDur && fits 32 e.start &&
    decide (e.targets.length = 8) && e.targets.all (fitsS 32)

/-- CELL_BIND (R406). -/
def BindArgs.wf (b : BindArgs) : Bool :=
  fits 16 b.entry && fits 8 b.rod && fits 8 b.lane && fits 8 b.slot && fits 1 b.kind && fits 16 b.minInt &&
    fits 16 b.cNom && fits 48 b.cellId

/-- TOUT_ARM (R356). -/
def ToutArgs.wf (a : ToutArgs) : Bool :=
  fits 8 a.output && fits 8 a.mode && fits 8 a.epoch && fits 32 a.width && fits 32 a.period && fits 64 a.target

/-- A burst on one of 24 lanes, in blocks with two header bits (R215, R256). -/
def Burst.wf (b : Burst) : Bool :=
  below 24 b.lane && fits 8 b.slot && b.blocks.all (fun x => fits 2 x.1) && fits 64 b.time && fits 68 b.tLock

/-- The framing of a partner-link message (R316). -/
def PHdr.wf (p : PHdr) : Bool := below 2 p.link && fits 16 p.mseq && fits 16 p.fn && fits 68 p.time

/-- HB (R318). -/
def HbMsg.wf (m : HbMsg) : Bool :=
  fits 48 m.fn && fits 3 m.role && fits 3 m.devState && fits 1 m.sys && fitsS 16 m.rxOfs && fits 48 m.hoverFn &&
    fits 32 m.execNo && fits 8 m.tripSeq && fits 24 m.release && fits 32 m.tableCrc && fits 24 m.laser

/-- HELLO (R317). -/
def HelloMsg.wf (m : HelloMsg) : Bool :=
  fits 1 m.sys && fits 8 m.rev && fits 16 m.compat && fits 2 m.gens && decide (m.latDev.length = 24)

/-- A Sync or Follow_Up (R345). -/
def SyncMsg.wf (m : SyncMsg) : Bool := below 2 m.port && fits 8 m.domain && fits 16 m.seqId && fits 68 m.rawG16

/-- A peer-delay exchange (R345). -/
def PdelayMsg.wf (m : PdelayMsg) : Bool := below 2 m.port && fits 68 m.t1G16 && fits 68 m.t4G16

/-- A master data set (R343). -/
def MasterDs.wf (d : MasterDs) : Bool :=
  fits 8 d.prio1 && fits 8 d.cls && fits 8 d.accuracy && fits 16 d.variance && fits 8 d.prio2 && fits 64 d.identity &&
    fits 16 d.steps

/-- A changed entry of a CELL message: an entry of 16 words (R111, R317). -/
def CellRec.wf (c : CellRec) : Bool := below 6144 c.entry && c.words.all (fun w => below 16 w.1)

/-- A slot of a LOOP message: 32 slots of at most eight sections (R92, R317). -/
def LoopRec.wf (l : LoopRec) : Bool := below 32 l.slot && decide (l.sects.length ≤ 8)

/-- An entry of an OBS message (R317). -/
def ObsRec.wf (o : ObsRec) : Bool := below 6144 o.entry && fits 32 o.cEst

/-- A start-up step: a PLL band of 6 bits (R358, R482). -/
def StartIn.wf (i : StartIn) : Bool := fits 6 i.band && fits 32 i.lockUs && fits 64 i.timeUs

/-- The fields of the command are within their widths. -/
def instrWf : Instr → Bool
  | .rim inp => inp.wf
  | .frmGuard => true
  | .frmOverrun2 => true
  | .fabricComplete t stages => fits 64 t && decide (stages.length = 7)
  | .adcRodDisc rod => below 12 rod
  | .adcPlaus tri => below 8 tri
  | .adcCalComplete t sums => fits 64 t && sums.all CalSum.wf
  | .ctlFeReaction slot => below 32 slot
  | .suspectTimeout entry => below 6144 entry
  | .suspectRecover entry => below 6144 entry
  | .missedLimit entry => below 6144 entry
  | .skipLimit entry => below 6144 entry
  | .obsReseed entry => below 6144 entry
  | .obsClBlock entry => below 6144 entry
  | .trendPoint => true
  | .tallyBatch => true
  | .hostPortReset => true
  | .pcieLinkDown => true
  | .hifDbOpenLo v => fits 32 v
  | .hifDbOpenHi v => fits 32 v
  | .sessionOpenComplete desc => (match desc with | some d => decide (d.length = 64) | none => true)
  | .hifDbClose v => fits 32 v
  | .hifDbCmd pair v => below 4 pair && fits 32 v
  | .hifDbRpl pair v => below 4 pair && fits 32 v
  | .barWriteDiscarded bar off v => below 6 bar && fits 32 off && fits 32 v
  | .frmCountLoRead => true
  | .packetIntake pair bytes t => below 4 pair && decide (bytes.length % 32 = 0) && fits 64 t
  | .replyWrite pair => below 4 pair
  | .mirrorTimeout pair seq => below 4 pair && fits 32 seq
  | .sessionInfo h => h.wf
  | .echo h v => h.wf && fits 64 v
  | .paramGet h id => h.wf && fits 16 id
  | .paramSet h id v => h.wf && fits 16 id && fitsS 64 v
  | .paramBlockSet h entries => h.wf && entries.all (fun x => fits 16 x.1 && fitsS 64 x.2)
  | .paramBlockGet h first count buf => h.wf && fits 16 first && fits 16 count && buf.wf
  | .convStatus h => h.wf
  | .convArm h => h.wf
  | .convDisarm h => h.wf
  | .convRun h => h.wf
  | .convBlock h => h.wf
  | .convSafeStop h => h.wf
  | .convSafeBlock h => h.wf
  | .convRecover h => h.wf
  | .convMaint h => h.wf
  | .convMaintEnd h => h.wf
  | .trpClear h inputs _ idle => h.wf && fits 16 inputs && decide (idle.length = 16)
  | .trpTest h inputs => h.wf && fits 16 inputs
  | .refQueue h e => h.wf && e.wf
  | .refReplace h e => h.wf && e.wf
  | .refStop h group => h.wf && fits 8 group
  | .refPhaseLoad h nco frame phase => h.wf && fits 8 nco && fits 32 frame && fits 48 phase
  | .cellBind h b => h.wf && b.wf
  | .cellUnbind h entry count => h.wf && fits 16 entry && fits 16 count
  | .cellBlock h entry count => h.wf && fits 16 entry && fits 16 count
  | .cellRelease h entry count => h.wf && fits 16 entry && fits 16 count
  | .cellBypass h entry count => h.wf && fits 16 entry && fits 16 count
  | .cellReplace h entry cellId => h.wf && fits 16 entry && fits 48 cellId
  | .cellSet h entry mask minInt cNom => h.wf && fits 16 entry && fits 2 mask && fits 16 minInt && fits 16 cNom
  | .cellLoad h first parts =>
    h.wf && fits 16 first && decide (parts.length ≤ 256) && parts.all (fun x => decide (x.length = 32))
  | .cellClear h entry count => h.wf && fits 16 entry && fits 16 count
  | .lnkRestart h mask => h.wf && fits 24 mask
  | .trcArm h => h.wf
  | .trcDisarm h => h.wf
  | .trcTrigger h => h.wf
  | .evrRecord h cause => h.wf && fits 16 cause
  | .evrClearFirst h => h.wf
  | .jnlSync h => h.wf
  | .jnlCompact h => h.wf
  | .jnlExport h flash off len buf => h.wf && fits 8 flash && fits 32 off && fits 32 len && buf.wf
  | .toutArm h a => h.wf && a.wf
  | .toutStop h output => h.wf && fits 8 output
  | .timeSelect h domain => h.wf && fits 8 domain
  | .timeStepNow h => h.wf
  | .pairSwitch h => h.wf
  | .pairLeave h => h.wf
  | .pairClaim h => h.wf
  | .pairRejoin h => h.wf
  | .fltClear h source kind => h.wf && fits 10 source && fits 8 kind
  | .fltDrain h _ buf => h.wf && buf.wf
  | .pwrDomain h mask on => h.wf && fits 12 mask && fits 8 on
  | .devRestart h => h.wf
  | .adcCal h => h.wf
  | .statsClear h => h.wf
  | .firTestEdge h entry code time => h.wf && fits 16 entry && fits 3 code && fits 64 time
  | .firTestEnd h entry => h.wf && fits 16 entry
  | .firTestHoldExpire entry => below 6144 entry
  | .fcs1Ident h => h.wf
  | .fcs1Nop h v => h.wf && fits 64 v
  | .fcs1GetParam h id => h.wf && fits 16 id
  | .fcs1SetParam h id v => h.wf && fits 16 id && fitsS 32 v
  | .fcs1LoadParams h entries => h.wf && entries.all (fun x => fits 16 x.1 && fitsS 32 x.2)
  | .fcs1Enable h => h.wf
  | .fcs1Disable h => h.wf
  | .fcs1Start h => h.wf
  | .fcs1Stop h => h.wf
  | .fcs1Block h => h.wf
  | .fcs1ResetBlock h => h.wf
  | .fcs1Service h => h.wf
  | .fcs1ServiceEnd h => h.wf
  | .fcs1TripReset h inputs idle => h.wf && fits 16 inputs && decide (idle.length = 16)
  | .fcs1Ramp h group mask dur targets =>
    h.wf && fits 8 group && fits 8 mask && fits 32 dur && decide (targets.length = 8) && targets.all (fitsS 32)
  | .fcs1RampStop h group => h.wf && fits 8 group
  | .fcs1CellAdd h b => h.wf && b.wf
  | .fcs1CellRemove h entry => h.wf && fits 16 entry
  | .fcs1CellBlock h entry => h.wf && fits 16 entry
  | .fcs1CellUnblock h entry => h.wf && fits 16 entry
  | .fcs1CellBypass h entry => h.wf && fits 16 entry
  | .fcs1CellSwap h entry cellId => h.wf && fits 16 entry && fits 48 cellId
  | .fcs1LinkReset h mask => h.wf && fits 24 mask
  | .fcs1CaptureArm h => h.wf
  | .fcs1CaptureForce h => h.wf
  | .fcs1Save h => h.wf
  | .fcs1Calibrate h => h.wf
  | .fcs1ClearFaults h => h.wf
  | .fcs1StatsReset h => h.wf
  | .tripFilterPass input t => below 16 input && fits 64 t
  | .trpHoldEsc rod => below 12 rod
  | .trpPairDiff input => below 16 input
  | .sbkEnv rod => below 12 rod
  | .safeStopComplete => true
  | .telegramReceive lan bytes t => below 2 lan && decide (bytes.length ≤ 1522) && fits 64 t
  | .sbkTgLoss lan => below 2 lan
  | .sbkTgSilence t => fits 64 t
  | .lnkLightDetect lane => below 24 lane
  | .lnkDetectFlag lane => below 24 lane
  | .lnkEqDwellEnd lane w h clean _ => below 24 lane && fits 16 w && fits 16 h && fits 32 clean
  | .lnkAlignLock lane _ _ => below 24 lane
  | .lnkAlignTo lane => below 24 lane
  | .lnkCapsQuiet lane => below 24 lane
  | .lnkCapsTo lane => below 24 lane
  | .lnkDiscRoundEnd lane => below 24 lane
  | .lnkDiscTo lane => below 24 lane
  | .lnkRetryWaitEnd lane => below 24 lane
  | .lnkLos lane => below 24 lane
  | .reportBurst b => b.wf
  | .burstLockFail lane slot => below 24 lane && fits 8 slot
  | .phaseCacheStale lane slot => below 24 lane && fits 8 slot
  | .rangingBurst b => b.wf
  | .beacon b => b.wf
  | .announce b => b.wf
  | .c1Report lane _ t => below 24 lane && fits 64 t
  | .c1RangingAnswer lane _ tLock => below 24 lane && fits 68 tLock
  | .c1Capability lane _ t => below 24 lane && fits 64 t
  | .partnerLinkLock link => below 2 link
  | .hb p m => p.wf && m.wf
  | .rod p rods phases => p.wf && decide (rods.length = 12) && decide (phases.length = 4)
  | .cell p cells => p.wf && cells.all CellRec.wf
  | .mirror p pair gen seq _ => p.wf && below 4 pair && fits 8 gen && fits 32 seq
  | .mirAck p pair seq t => p.wf && below 4 pair && fits 32 seq && fits 64 t
  | .partnerExec p pair seq num => p.wf && below 4 pair && fits 32 seq && fits 32 num
  | .execAck p num => p.wf && fits 32 num
  | .loop p recs => p.wf && recs.all LoopRec.wf
  | .obs p recs => p.wf && recs.all ObsRec.wf
  | .image p _ => p.wf
  | .hello p m => p.wf && m.wf
  | .hoverAck p fn => p.wf && fits 48 fn
  | .mxFsDetect lane fn sys t _ => below 24 lane && fits 48 fn && fits 1 sys && fits 64 t
  | .pairSplit => true
  | .heartbeatJudge => true
  | .handoverJudge => true
  | .handoverMonitorCheck => true
  | .pairWaitEnd => true
  | .joinStepDone => true
  | .pairJoinSlow => true
  | .syncedLoss => true
  | .pairTableDiff => true
  | .brdPresHigh => true
  | .ptnrPresHigh => true
  | .ptpSync m => m.wf
  | .ptpFollowUp m => m.wf
  | .timeStep => true
  | .ptpAnnounce port domain ds => below 2 port && fits 8 domain && ds.wf
  | .ptpAnnounceTimeout port domain => below 2 port && fits 8 domain
  | .ptpSyncLoss dom => below 2 dom
  | .ptpPdelayReq port seqId rawG16 => below 2 port && fits 16 seqId && fits 68 rawG16
  | .ptpPdelayResp m => m.wf
  | .pdelayReqTimer => true
  | .ethLinkChange port _ => below 2 port
  | .toutFire output => below 8 output
  | .toutPulseEnd output => below 8 output
  | .pllLock band us => fits 6 band && fits 32 us
  | .syncInEdge t count wrap g => fits 64 t && fits 48 count && fits 16 wrap && fits 64 g
  | .syncInTimeout => true
  | .pllUnlock => true
  | .eccError region addr _ => fits 5 region && fits 32 addr
  | .fltSelf => true
  | .supplyFail domain => below 12 domain
  | .tempCrit => true
  | .fatalDark => true
  | .tempHigh tj => fitsS 16 tj
  | .faultMessage _ => true
  | .trcPreFull => true
  | .trcEdgeTrigger t v => fits 64 t && fitsS 32 v
  | .trcMaskViolation slot t v => below 16 slot && fits 64 t && fitsS 32 v
  | .trcPostComplete => true
  | .trigLineFire t => fits 64 t
  | .trigLineArm => true
  | .evrTrigger typ _ t => below 4 typ && fits 64 t
  | .evrRecordWrite => true
  | .jnlRecordCommit jseq => fits 64 jseq
  | .jnlFlashFail flash addr => below 2 flash && fits 32 addr
  | .jnlCompactionStart => true
  | .blockEraseDone => true
  | .taskEnqueue cls source t => fits 8 cls && fits 64 source && fits 64 t
  | .coreFree core t => below 4 core && fits 64 t
  | .supWdog core => below 4 core
  | .schLoadWindowEnd busy => decide (busy.length = 4)
  | .powerOn => true
  | .boardReset => true
  | .leaveReset sys => fits 1 sys
  | .startUpStep inp => inp.wf
  | .domainSwitched => true
  | .pwrFailAssert done => done.all (fits 64)
  | .pwrFailSequenceEnd _ => true
  | .fatalRestart t => fits 64 t
  | .devRestartExpire => true
  | .partnerLinkDown link => below 2 link
  | .monitorLost lane => below 24 lane
  | .powerLoss => true

/-- Well-formed commands. -/
abbrev Instr.WellFormed (i : Instr) : Prop := instrWf i = true

end Sys2Proof
end

