-- ==== Sys2Proof/Tests/Slice0.lean ====
section
/-! SUPPORT. Checks of the model: ill-formed commands, states that meet the hypotheses of the statements, worked examples
of the spec. -/

set_option maxRecDepth 100000

namespace Sys2Proof.Tests

open Sys2Proof Sys2Proof.Machine

/-! ### Well-formedness: an ill-formed command for each check -/

def h0 : CmdHdr := { pair := 0, seq := 7, tag := 0xA5, force := false, rsvd := false, time := 0 }
def buf : OutBuf := { len := 4096, addr := 0x1000, ok := true }
def bufL : OutBuf := { buf with len := 2 ^ 32 }
def bufA : OutBuf := { buf with addr := 2 ^ 64 }
def idle : List Nat := List.replicate 16 1000000
def tgts : List Int := List.replicate 8 0
def ramp : RampArgs := { group := 0, mask := 1, mode := 0, blend := 0, minDur := 0, start := 0, targets := tgts }
def bnd : BindArgs := { entry := 5, rod := 1, lane := 0, slot := 3, kind := 0, minInt := 100, cNom := 1000, cellId := 0 }
def tout : ToutArgs := { output := 0, mode := 1, ptp := false, epoch := 0, width := 4, period := 0, target := 0 }
def inp : RimIn := { conv := List.replicate 12 [], trips := 0, lines := 0, tj := 0 }
def csum : CalSum := { ch := 0, zero := 0, pos := 0, neg := 0 }
def bst : Burst := { lane := 0, slot := 0, lock := .locked, blocks := [], time := 0, tLock := 0, phase := 0, thr := 0 }
def ph : PHdr := { link := 0, mseq := 0, fn := 0, good := true, time := 0 }
def hbm : HbMsg :=
  { fn := 0, role := 1, devState := 2, sys := 0, synced := true, hover := false, leaving := false, rxOfs := 0
    hoverFn := 0, execNo := 0, tripSeq := 0, release := 0, tableCrc := 0, laser := 0 }
def rodr : RodRec :=
  { carry := 0, sigma := 1, rest := true, partEnt := none, partPos := false, vcLast := none, release := 0 }
def lrec : LoopRec := { slot := 0, out0 := { m := 0, e := 0 }, out1 := { m := 0, e := 0 }, count := 0, flags := 0, sects := [] }
def orec : ObsRec :=
  { entry := 0, v := 0, cEst := 0, sqq := 0, sqv := 0, nq := 0, trend := { cLast := 0, slope := 0, points := 0, age := 0 } }
def img : ImageMsg := { params := [], cells := [], ramps := [], cmds := [], window := [], next := [], last := true }
def hel : HelloMsg := { sys := 1, rev := 0x41, compat := 0x4100, gens := 3, latDev := List.replicate 24 0 }
def syn : SyncMsg :=
  { port := 0, domain := 0, seqId := 1, twoStep := false, origin := 1000, corr := 0, rawG16 := 16000, logInt := 0 }
def mds : MasterDs := { prio1 := 128, cls := 6, accuracy := 0x21, variance := 0x4E5D, prio2 := 128, identity := 1, steps := 1 }
def pdm : PdelayMsg := { port := 0, t1G16 := 16000, t2 := 2000, t3 := 2100, t4G16 := 36000 }
def stp : StartIn := { romOk := true, flash0 := true, flash1 := true, band := 20, lockUs := 100, timeUs := 1000 }

/-- Every host command carries a header; the four headers are ill-formed in pair, SEQ, TAG and time. -/
def badHdrs : List CmdHdr := [{ h0 with pair := 4 }, { h0 with seq := 2 ^ 32 }, { h0 with tag := 2 ^ 32 }, { h0 with time := 2 ^ 64 }]

/-- Host commands with an ill-formed header are refused. -/
theorem test_illFormedHeader1 : badHdrs.all (fun h => ([
    .echo h 0, .paramGet h 0, .paramSet h 0 0, .paramBlockSet h [],
    .paramBlockGet h 0 1 buf, .sessionInfo h, .convStatus h, .convArm h,
    .convDisarm h, .convRun h, .convBlock h, .convSafeStop h,
    .convSafeBlock h, .convRecover h, .convMaint h, .convMaintEnd h,
    .trpClear h 0 false idle, .trpTest h 0, .refQueue h ramp, .refReplace h ramp,
    .refStop h 0, .refPhaseLoad h 0 0 0, .cellBind h bnd, .cellUnbind h 0 1] : List Instr).all (fun i => !instrWf i)) = true := by
  decide

/-- Host commands with an ill-formed header are refused. -/
theorem test_illFormedHeader2 : badHdrs.all (fun h => ([
    .cellBlock h 0 1, .cellRelease h 0 1, .cellBypass h 0 1, .cellReplace h 0 0,
    .cellSet h 0 0 0 0, .cellLoad h 0 [], .cellClear h 0 1, .lnkRestart h 0,
    .trcArm h, .trcDisarm h, .trcTrigger h, .evrRecord h 0,
    .evrClearFirst h, .jnlSync h, .jnlCompact h, .jnlExport h 0 0 0 buf,
    .toutArm h tout, .toutStop h 0, .timeSelect h 0, .timeStepNow h,
    .pairSwitch h, .pairLeave h, .pairClaim h, .pairRejoin h] : List Instr).all (fun i => !instrWf i)) = true := by
  decide

/-- Host commands with an ill-formed header are refused. -/
theorem test_illFormedHeader3 : badHdrs.all (fun h => ([
    .fltClear h 0 0, .fltDrain h false buf, .pwrDomain h 0 0, .devRestart h,
    .adcCal h, .statsClear h, .firTestEdge h 0 0 0, .firTestEnd h 0,
    .fcs1Ident h, .fcs1Nop h 0, .fcs1GetParam h 0, .fcs1SetParam h 0 0,
    .fcs1LoadParams h [], .fcs1Enable h, .fcs1Disable h, .fcs1Start h,
    .fcs1Stop h, .fcs1Block h, .fcs1ResetBlock h, .fcs1Service h,
    .fcs1ServiceEnd h, .fcs1TripReset h 0 idle, .fcs1Ramp h 0 0 0 tgts, .fcs1RampStop h 0] : List Instr).all (fun i => !instrWf i)) = true := by
  decide

/-- Host commands with an ill-formed header are refused. -/
theorem test_illFormedHeader4 : badHdrs.all (fun h => ([
    .fcs1CellAdd h bnd, .fcs1CellRemove h 0, .fcs1CellBlock h 0, .fcs1CellUnblock h 0,
    .fcs1CellBypass h 0, .fcs1CellSwap h 0 0, .fcs1LinkReset h 0, .fcs1CaptureArm h,
    .fcs1CaptureForce h, .fcs1Save h, .fcs1Calibrate h, .fcs1ClearFaults h,
    .fcs1StatsReset h] : List Instr).all (fun i => !instrWf i)) = true := by
  decide

/-- Host commands with a field beyond its width are refused. -/
theorem test_illFormedHost1 : ([
    .echo h0 (2 ^ 64), .paramGet h0 (2 ^ 16), .paramSet h0 (2 ^ 16) 0,
    .paramSet h0 0 (2 ^ 63), .paramSet h0 0 (-2 ^ 63 - 1), .paramBlockSet h0 [((2 ^ 16), 0)],
    .paramBlockSet h0 [(0, (2 ^ 63))], .paramBlockGet h0 (2 ^ 16) 1 buf, .paramBlockGet h0 0 (2 ^ 16) buf,
    .paramBlockGet h0 0 1 bufL, .paramBlockGet h0 0 1 bufA, .trpClear h0 (2 ^ 16) false idle,
    .trpClear h0 0 false [], .trpTest h0 (2 ^ 16), .refStop h0 (2 ^ 8),
    .refPhaseLoad h0 (2 ^ 8) 0 0, .refPhaseLoad h0 0 (2 ^ 32) 0, .refPhaseLoad h0 0 0 (2 ^ 48),
    .refQueue h0 { ramp with group := 8 }, .refQueue h0 { ramp with mask := (2 ^ 8) }, .refQueue h0 { ramp with mode := (2 ^ 8) },
    .refQueue h0 { ramp with blend := (2 ^ 16) }, .refQueue h0 { ramp with minDur := (2 ^ 32) }, .refQueue h0 { ramp with start := (2 ^ 32) },
    .refQueue h0 { ramp with targets := [] }, .refQueue h0 { ramp with targets := List.replicate 8 (2 ^ 31) }, .refReplace h0 { ramp with group := 8 },
    .cellBind h0 { bnd with entry := (2 ^ 16) }, .cellBind h0 { bnd with rod := (2 ^ 8) }, .cellBind h0 { bnd with lane := (2 ^ 8) }] : List Instr).all (fun i => !instrWf i) = true := by
  decide

/-- Host commands with a field beyond its width are refused. -/
theorem test_illFormedHost2 : ([
    .cellBind h0 { bnd with slot := (2 ^ 8) }, .cellBind h0 { bnd with kind := (2 ^ 1) }, .cellBind h0 { bnd with minInt := (2 ^ 16) },
    .cellBind h0 { bnd with cNom := (2 ^ 16) }, .cellBind h0 { bnd with cellId := (2 ^ 48) }, .fcs1CellAdd h0 { bnd with rod := 256 },
    .cellUnbind h0 (2 ^ 16) 1, .cellUnbind h0 0 (2 ^ 16), .cellBlock h0 (2 ^ 16) 1,
    .cellBlock h0 0 (2 ^ 16), .cellRelease h0 (2 ^ 16) 1, .cellRelease h0 0 (2 ^ 16),
    .cellBypass h0 (2 ^ 16) 1, .cellBypass h0 0 (2 ^ 16), .cellClear h0 (2 ^ 16) 1,
    .cellClear h0 0 (2 ^ 16), .cellReplace h0 (2 ^ 16) 0, .cellReplace h0 0 (2 ^ 48),
    .cellSet h0 (2 ^ 16) 0 0 0, .cellSet h0 0 4 0 0, .cellSet h0 0 0 (2 ^ 16) 0,
    .cellSet h0 0 0 0 (2 ^ 16), .cellLoad h0 (2 ^ 16) [], .cellLoad h0 0 [[0]],
    .cellLoad h0 0 (List.replicate 257 (List.replicate 32 0)), .lnkRestart h0 (2 ^ 24), .evrRecord h0 (2 ^ 16),
    .jnlExport h0 256 0 0 buf, .jnlExport h0 0 (2 ^ 32) 0 buf, .jnlExport h0 0 0 (2 ^ 32) buf] : List Instr).all (fun i => !instrWf i) = true := by
  decide

/-- Host commands with a field beyond its width are refused. -/
theorem test_illFormedHost3 : ([
    .jnlExport h0 0 0 0 bufL, .toutArm h0 { tout with output := (2 ^ 8) }, .toutArm h0 { tout with mode := (2 ^ 8) },
    .toutArm h0 { tout with epoch := (2 ^ 8) }, .toutArm h0 { tout with width := (2 ^ 32) }, .toutArm h0 { tout with period := (2 ^ 32) },
    .toutArm h0 { tout with target := (2 ^ 64) }, .toutStop h0 256, .timeSelect h0 256,
    .fltClear h0 1024 0, .fltClear h0 0 256, .fltDrain h0 false bufA,
    .pwrDomain h0 4096 0, .pwrDomain h0 0 256, .firTestEdge h0 (2 ^ 16) 0 0,
    .firTestEdge h0 0 8 0, .firTestEdge h0 0 0 (2 ^ 64), .firTestEnd h0 (2 ^ 16),
    .fcs1Nop h0 (2 ^ 64), .fcs1GetParam h0 (2 ^ 16), .fcs1SetParam h0 (2 ^ 16) 0,
    .fcs1SetParam h0 0 (2 ^ 31), .fcs1LoadParams h0 [((2 ^ 16), 0)], .fcs1LoadParams h0 [(0, (2 ^ 31))],
    .fcs1TripReset h0 (2 ^ 16) idle, .fcs1TripReset h0 0 [], .fcs1Ramp h0 256 0 0 tgts,
    .fcs1Ramp h0 0 256 0 tgts, .fcs1Ramp h0 0 0 (2 ^ 32) tgts, .fcs1Ramp h0 0 0 0 []] : List Instr).all (fun i => !instrWf i) = true := by
  decide

/-- Host commands with a field beyond its width are refused. -/
theorem test_illFormedHost4 : ([
    .fcs1Ramp h0 0 0 0 (List.replicate 8 (2 ^ 31)), .fcs1RampStop h0 256, .fcs1CellRemove h0 (2 ^ 16),
    .fcs1CellBlock h0 (2 ^ 16), .fcs1CellUnblock h0 (2 ^ 16), .fcs1CellBypass h0 (2 ^ 16),
    .fcs1CellSwap h0 (2 ^ 16) 0, .fcs1CellSwap h0 0 (2 ^ 48), .fcs1LinkReset h0 (2 ^ 24)] : List Instr).all (fun i => !instrWf i) = true := by
  decide

/-- Events of the fabric, the host port and the lanes with a field beyond its width are refused. -/
theorem test_illFormedFabric1 : ([
    .rim { inp with conv := [] }, .rim { inp with conv := List.replicate 12 [((2 ^ 64), 0)] }, .rim { inp with conv := List.replicate 12 [(0, (2 ^ 15))] },
    .rim { inp with trips := (2 ^ 16) }, .rim { inp with lines := 16 }, .rim { inp with tj := (2 ^ 15) },
    .fabricComplete (2 ^ 64) (List.replicate 7 0), .fabricComplete 0 [], .adcRodDisc 12,
    .adcPlaus 8, .adcCalComplete (2 ^ 64) [], .adcCalComplete 0 [{ csum with ch := 192 }],
    .adcCalComplete 0 [{ csum with zero := (2 ^ 31) }], .adcCalComplete 0 [{ csum with pos := (2 ^ 31) }], .adcCalComplete 0 [{ csum with neg := (2 ^ 31) }],
    .ctlFeReaction 32, .suspectTimeout 6144, .suspectRecover 6144,
    .missedLimit 6144, .skipLimit 6144, .obsReseed 6144,
    .obsClBlock 6144, .firTestHoldExpire 6144, .hifDbOpenLo (2 ^ 32),
    .hifDbOpenHi (2 ^ 32), .sessionOpenComplete (some []), .hifDbClose (2 ^ 32),
    .hifDbCmd 4 0, .hifDbCmd 0 (2 ^ 32), .hifDbRpl 4 0] : List Instr).all (fun i => !instrWf i) = true := by
  decide

/-- Events of the fabric, the host port and the lanes with a field beyond its width are refused. -/
theorem test_illFormedFabric2 : ([
    .hifDbRpl 0 (2 ^ 32), .barWriteDiscarded 6 0 0, .barWriteDiscarded 0 (2 ^ 32) 0,
    .barWriteDiscarded 0 0 (2 ^ 32), .packetIntake 4 [] 0, .packetIntake 0 [0] 0,
    .packetIntake 0 [] (2 ^ 64), .replyWrite 4, .mirrorTimeout 4 0,
    .mirrorTimeout 0 (2 ^ 32), .tripFilterPass 16 0, .tripFilterPass 0 (2 ^ 64),
    .trpHoldEsc 12, .trpPairDiff 16, .sbkEnv 12,
    .telegramReceive 2 [] 0, .telegramReceive 0 (List.replicate 1523 0) 0, .telegramReceive 0 [] (2 ^ 64),
    .sbkTgLoss 2, .sbkTgSilence (2 ^ 64), .lnkLightDetect 24,
    .lnkDetectFlag 24, .lnkAlignTo 24, .lnkCapsQuiet 24,
    .lnkCapsTo 24, .lnkDiscRoundEnd 24, .lnkDiscTo 24,
    .lnkRetryWaitEnd 24, .lnkLos 24, .monitorLost 24] : List Instr).all (fun i => !instrWf i) = true := by
  decide

/-- Events of the fabric, the host port and the lanes with a field beyond its width are refused. -/
theorem test_illFormedFabric3 : ([
    .lnkEqDwellEnd 24 0 0 0 false, .lnkEqDwellEnd 0 (2 ^ 16) 0 0 false, .lnkEqDwellEnd 0 0 (2 ^ 16) 0 false,
    .lnkEqDwellEnd 0 0 0 (2 ^ 32) false, .lnkAlignLock 24 false [], .reportBurst { bst with lane := 24 },
    .reportBurst { bst with slot := 256 }, .reportBurst { bst with blocks := [(4, 0)] }, .reportBurst { bst with time := (2 ^ 64) },
    .reportBurst { bst with tLock := (2 ^ 68) }, .rangingBurst { bst with lane := 24 }, .beacon { bst with lane := 24 },
    .announce { bst with lane := 24 }, .burstLockFail 24 0, .burstLockFail 0 256,
    .phaseCacheStale 24 0, .phaseCacheStale 0 256, .c1Report 24 [] 0,
    .c1Report 0 [] (2 ^ 64), .c1RangingAnswer 24 [] 0, .c1RangingAnswer 0 [] (2 ^ 68),
    .c1Capability 24 [] 0, .c1Capability 0 [] (2 ^ 64), .partnerLinkLock 2,
    .partnerLinkDown 2] : List Instr).all (fun i => !instrWf i) = true := by
  decide

/-- Partner messages, time, recorder and system events with a field beyond its width are refused. -/
theorem test_illFormedEvent1 : ([
    .hb { ph with link := 2 } hbm, .hb { ph with mseq := (2 ^ 16) } hbm, .hb { ph with fn := (2 ^ 16) } hbm,
    .hb { ph with time := (2 ^ 68) } hbm, .hb ph { hbm with fn := (2 ^ 48) }, .hb ph { hbm with role := 8 },
    .hb ph { hbm with devState := 8 }, .hb ph { hbm with sys := 2 }, .hb ph { hbm with rxOfs := (2 ^ 15) },
    .hb ph { hbm with hoverFn := (2 ^ 48) }, .hb ph { hbm with execNo := (2 ^ 32) }, .hb ph { hbm with tripSeq := 256 },
    .hb ph { hbm with release := (2 ^ 24) }, .hb ph { hbm with tableCrc := (2 ^ 32) }, .hb ph { hbm with laser := (2 ^ 24) },
    .rod ph [] (List.replicate 4 0), .rod ph (List.replicate 12 rodr) [], .rod { ph with link := 2 } (List.replicate 12 rodr) (List.replicate 4 0),
    .cell { ph with link := 2 } [], .cell ph [{ entry := 6144, words := [] }], .cell ph [{ entry := 0, words := [(16, 0)] }],
    .mirror { ph with link := 2 } 0 2 0 [], .mirror ph 4 2 0 [], .mirror ph 0 256 0 [],
    .mirror ph 0 2 (2 ^ 32) [], .mirAck { ph with link := 2 } 0 0 0, .mirAck ph 4 0 0,
    .mirAck ph 0 (2 ^ 32) 0, .mirAck ph 0 0 (2 ^ 64), .partnerExec { ph with link := 2 } 0 0 0] : List Instr).all (fun i => !instrWf i) = true := by
  decide

/-- Partner messages, time, recorder and system events with a field beyond its width are refused. -/
theorem test_illFormedEvent2 : ([
    .partnerExec ph 4 0 0, .partnerExec ph 0 (2 ^ 32) 0, .partnerExec ph 0 0 (2 ^ 32),
    .execAck { ph with link := 2 } 0, .execAck ph (2 ^ 32), .loop { ph with link := 2 } [],
    .loop ph [{ lrec with slot := 32 }], .loop ph [{ lrec with sects := List.replicate 9 { w1 := 0, w2 := 0, e := 0 } }], .obs { ph with link := 2 } [],
    .obs ph [{ orec with entry := 6144 }], .obs ph [{ orec with cEst := (2 ^ 32) }], .image { ph with link := 2 } img,
    .hello { ph with link := 2 } hel, .hello ph { hel with sys := 2 }, .hello ph { hel with rev := 256 },
    .hello ph { hel with compat := (2 ^ 16) }, .hello ph { hel with gens := 4 }, .hello ph { hel with latDev := [] },
    .hoverAck { ph with link := 2 } 0, .hoverAck ph (2 ^ 48), .mxFsDetect 24 0 0 0 none,
    .mxFsDetect 0 (2 ^ 48) 0 0 none, .mxFsDetect 0 0 2 0 none, .mxFsDetect 0 0 0 (2 ^ 64) none,
    .ptpSync { syn with port := 2 }, .ptpSync { syn with domain := 256 }, .ptpSync { syn with seqId := (2 ^ 16) },
    .ptpSync { syn with rawG16 := (2 ^ 68) }, .ptpFollowUp { syn with port := 2 }, .ptpAnnounce 2 0 mds] : List Instr).all (fun i => !instrWf i) = true := by
  decide

/-- Partner messages, time, recorder and system events with a field beyond its width are refused. -/
theorem test_illFormedEvent3 : ([
    .ptpAnnounce 0 256 mds, .ptpAnnounce 0 0 { mds with prio1 := (2 ^ 8) }, .ptpAnnounce 0 0 { mds with cls := (2 ^ 8) },
    .ptpAnnounce 0 0 { mds with accuracy := (2 ^ 8) }, .ptpAnnounce 0 0 { mds with variance := (2 ^ 16) }, .ptpAnnounce 0 0 { mds with prio2 := (2 ^ 8) },
    .ptpAnnounce 0 0 { mds with identity := (2 ^ 64) }, .ptpAnnounce 0 0 { mds with steps := (2 ^ 16) }, .ptpAnnounceTimeout 2 0,
    .ptpAnnounceTimeout 0 256, .ptpSyncLoss 2, .ptpPdelayReq 2 0 0,
    .ptpPdelayReq 0 (2 ^ 16) 0, .ptpPdelayReq 0 0 (2 ^ 68), .ptpPdelayResp { pdm with port := 2 },
    .ptpPdelayResp { pdm with t1G16 := (2 ^ 68) }, .ptpPdelayResp { pdm with t4G16 := (2 ^ 68) }, .ethLinkChange 2 true,
    .toutFire 8, .toutPulseEnd 8, .pllLock 64 0,
    .pllLock 0 (2 ^ 32), .syncInEdge (2 ^ 64) 0 0 0, .syncInEdge 0 (2 ^ 48) 0 0,
    .syncInEdge 0 0 (2 ^ 16) 0, .syncInEdge 0 0 0 (2 ^ 64), .eccError 32 0 false,
    .eccError 0 (2 ^ 32) false, .supplyFail 12, .tempHigh (2 ^ 15)] : List Instr).all (fun i => !instrWf i) = true := by
  decide

/-- Partner messages, time, recorder and system events with a field beyond its width are refused. -/
theorem test_illFormedEvent4 : ([
    .trcEdgeTrigger (2 ^ 64) 0, .trcEdgeTrigger 0 (2 ^ 31), .trcMaskViolation 16 0 0,
    .trcMaskViolation 0 (2 ^ 64) 0, .trcMaskViolation 0 0 (2 ^ 31), .trigLineFire (2 ^ 64),
    .evrTrigger 4 0 0, .evrTrigger 0 0 (2 ^ 64), .jnlRecordCommit (2 ^ 64),
    .jnlFlashFail 2 0, .jnlFlashFail 0 (2 ^ 32), .taskEnqueue 256 0 0,
    .taskEnqueue 0 (2 ^ 64) 0, .taskEnqueue 0 0 (2 ^ 64), .coreFree 4 0,
    .coreFree 0 (2 ^ 64), .supWdog 4, .schLoadWindowEnd [],
    .leaveReset 2, .startUpStep { stp with band := 64 }, .startUpStep { stp with lockUs := (2 ^ 32) },
    .startUpStep { stp with timeUs := (2 ^ 64) }, .pwrFailAssert [(2 ^ 64)], .fatalRestart (2 ^ 64)] : List Instr).all (fun i => !instrWf i) = true := by
  decide

/-- The same commands with their fields within their widths are well-formed. -/
theorem test_wellFormed1 : ([
    .echo h0 0, .paramGet h0 0, .paramSet h0 0 0, .paramBlockSet h0 [],
    .paramBlockGet h0 0 1 buf, .sessionInfo h0, .convStatus h0, .convArm h0,
    .convDisarm h0, .convRun h0, .convBlock h0, .convSafeStop h0,
    .convSafeBlock h0, .convRecover h0, .convMaint h0, .convMaintEnd h0,
    .trpClear h0 0 false idle, .trpTest h0 0, .refQueue h0 ramp, .refReplace h0 ramp,
    .refStop h0 0, .refPhaseLoad h0 0 0 0, .cellBind h0 bnd, .cellUnbind h0 0 1,
    .cellBlock h0 0 1, .cellRelease h0 0 1, .cellBypass h0 0 1, .cellReplace h0 0 0,
    .cellSet h0 0 0 0 0, .cellLoad h0 0 [], .cellClear h0 0 1, .lnkRestart h0 0,
    .trcArm h0, .trcDisarm h0] : List Instr).all instrWf = true := by
  decide

/-- The same commands with their fields within their widths are well-formed. -/
theorem test_wellFormed2 : ([
    .trcTrigger h0, .evrRecord h0 0, .evrClearFirst h0, .jnlSync h0,
    .jnlCompact h0, .jnlExport h0 0 0 0 buf, .toutArm h0 tout, .toutStop h0 0,
    .timeSelect h0 0, .timeStepNow h0, .pairSwitch h0, .pairLeave h0,
    .pairClaim h0, .pairRejoin h0, .fltClear h0 0 0, .fltDrain h0 false buf,
    .pwrDomain h0 0 0, .devRestart h0, .adcCal h0, .statsClear h0,
    .firTestEdge h0 0 0 0, .firTestEnd h0 0, .fcs1Ident h0, .fcs1Nop h0 0,
    .fcs1GetParam h0 0, .fcs1SetParam h0 0 0, .fcs1LoadParams h0 [], .fcs1Enable h0,
    .fcs1Disable h0, .fcs1Start h0, .fcs1Stop h0, .fcs1Block h0,
    .fcs1ResetBlock h0, .fcs1Service h0] : List Instr).all instrWf = true := by
  decide

/-- The same commands with their fields within their widths are well-formed. -/
theorem test_wellFormed3 : ([
    .fcs1ServiceEnd h0, .fcs1TripReset h0 0 idle, .fcs1Ramp h0 0 0 0 tgts, .fcs1RampStop h0 0,
    .fcs1CellAdd h0 bnd, .fcs1CellRemove h0 0, .fcs1CellBlock h0 0, .fcs1CellUnblock h0 0,
    .fcs1CellBypass h0 0, .fcs1CellSwap h0 0 0, .fcs1LinkReset h0 0, .fcs1CaptureArm h0,
    .fcs1CaptureForce h0, .fcs1Save h0, .fcs1Calibrate h0, .fcs1ClearFaults h0,
    .fcs1StatsReset h0, .rim inp, .fabricComplete 0 (List.replicate 7 0), .adcCalComplete 0 [csum],
    .reportBurst bst, .hb ph hbm, .rod ph (List.replicate 12 rodr) (List.replicate 4 0), .cell ph [{ entry := 5, words := [(0, 0)] }],
    .loop ph [lrec], .obs ph [orec], .image ph img, .hello ph hel,
    .ptpSync syn, .ptpAnnounce 0 0 mds, .ptpPdelayResp pdm, .startUpStep stp] : List Instr).all instrWf = true := by
  decide

/-! ### States for the hypotheses of the statements -/

/-- An open ring pair of FCS-2. -/
def openPair : RPair := { RPair.reset with open_ := true, gen := 2, cmdUnits := 64, rplEnts := 64 }

/-- A device in READY, SOLO, every domain on, the journal restored, the time base running in frame 100, pair 0 open. -/
def up : State := { State.reset with
  st := .ready
  hif := { Hif.reset with pairs := openPair :: List.replicate 3 RPair.reset, linkUp := true }
  pwr := { Pwr.reset with inReset := false, on := 0xFFF, step := 8, rails := 0xFFF }
  jnl := { Jnl.reset with restored := true, f0 := true, f1 := true }
  frm := { FrmBlock.reset with run := true, armed := true, count := 100, rims := 101, g := 204800 }
  pll := { Pll.reset with lock := true, outs := 31 }
  now := 204800 }

/-- The same device in another state, and with parameters in force. -/
def inSt (d : DevState) : State := { up with st := d }
def withP (s : State) (vals : Tab (Option Int)) : State := { s with params := { s.params with vals := vals } }

/-- Whether a command may run, as a check. -/
def mayRunB (op : Nat) (h : CmdHdr) (states : DevState → Bool) (s : State) : Bool :=
  decide (s.st ≠ .off) && decide (s.hif.held = []) && decide (turnOf { h := h, op := op } s = .go) &&
    decide (serialHold (asFcs2 op) s = false) && decide (h.rsvd = false) &&
    decide (h.force = true → op < 0x10000 ∧ forceOk op = true) && decide (roleAllows { h := h, op := op } s = true) &&
    states s.st

/-- The check is the hypothesis. -/
theorem mayRun_iff (op : Nat) (h : CmdHdr) (states : DevState → Bool) (s : State) :
    mayRunB op h states s = true ↔ MayRun op h states s := by
  constructor
  · intro hb
    simp only [mayRunB, Bool.and_eq_true, decide_eq_true_eq] at hb
    exact ⟨hb.1.1.1.1.1.1.1, hb.1.1.1.1.1.1.2, hb.1.1.1.1.1.2, hb.1.1.1.1.2, hb.1.1.1.2, hb.1.1.2, hb.1.2, hb.2⟩
  · intro m
    simp only [mayRunB, Bool.and_eq_true, decide_eq_true_eq]
    exact ⟨⟨⟨⟨⟨⟨⟨m.notOff, m.alone⟩, m.turn⟩, m.serial⟩, m.rsvd⟩, m.force⟩, m.role⟩, m.state⟩

/-- The commands of a list may run in their states, in a device that acts, with their pair open. -/
def allRun (l : List (Nat × (DevState → Bool) × State)) : Bool :=
  l.all (fun x => mayRunB x.1 h0 x.2.1 x.2.2 && acts x.2.2 && decide ((x.2.2.hif.pairs[h0.pair]?).map RPair.open_ = some true))

theorem allRun_spec (l : List (Nat × (DevState → Bool) × State)) (hl : allRun l = true) :
    ∀ x ∈ l, MayRun x.1 h0 x.2.1 x.2.2 ∧ acts x.2.2 = true ∧ PairOpen x.2.2 h0.pair := by
  intro x hx
  have := List.all_eq_true.mp hl x hx
  simp only [Bool.and_eq_true, decide_eq_true_eq] at this
  exact ⟨(mayRun_iff _ _ _ _).mp this.1.1, this.1.2, this.2⟩

/-- Two ACTIVE cells bound to rod 0 on lane 0, and a BYPASSED one bound to rod 1. -/
def cell (rod slot st : Nat) : Entry :=
  { Entry.reset with rod := rod, lane := 0, slot := slot, st := st, cNom := 1000, cEst := 65536000, id := 77 + slot }
def cells3 : Tab Entry := [(5, cell 0 0 2), (6, cell 0 1 2), (9, cell 1 2 5)]

/-! ### The queue, the pins and the memories -/

theorem wit_FrontCommandRuns : { State.reset with pending := [.sessionInfo h0, .powerOn] }.pending =
    .sessionInfo h0 :: [.powerOn] := rfl

theorem wit_EmptyQueueIdles : State.reset.pending = [] := rfl

/-- A step of a device just powered on that has POWER_LOSS waiting starts from settled pins and canonical memories. -/
theorem wit_StepKeepsPins : PinsOk { State.reset with pending := [.powerLoss] } ∧
    MemoryOk { State.reset with pending := [.powerLoss] } ∧ ∃ t, step { State.reset with pending := [.powerLoss] } = .next t := by
  refine ⟨?_, ?_, ⟨_, rfl⟩⟩
  · unfold PinsOk FaultPinOk LasersOk; decide
  · unfold MemoryOk; decide

theorem wit_CommandsLeaveTheQueue : ∃ t, exec .frmCountLoRead up = .next t := ⟨_, rfl⟩

theorem wit_DeviceStateMovesAtRims : (∃ t, exec .trigLineArm up = .next t) ∧ (∀ inp, Instr.trigLineArm ≠ .rim inp) ∧
    Instr.trigLineArm ≠ .powerOn ∧ Instr.trigLineArm ≠ .powerLoss ∧ Instr.trigLineArm ≠ .boardReset ∧
    Instr.trigLineArm ≠ .devRestartExpire ∧ (∀ n, Instr.trigLineArm ≠ .fatalRestart n) ∧
    (∀ n, Instr.trigLineArm ≠ .leaveReset n) ∧ (∀ i, Instr.trigLineArm ≠ .startUpStep i) ∧
    (∀ a n w g, Instr.trigLineArm ≠ .syncInEdge a n w g) :=
  ⟨⟨_, rfl⟩, by simp, by simp, by simp, by simp, by simp, by simp, by simp, by simp, by simp⟩

/-- A rim after the first, also where the counter wraps with FRM_WRAP at its end, and the first rim. -/
theorem wit_RimAdvancesTheFrame : up.frm.armed = true ∧ up.pwr.inReset = false ∧ up.st ≠ .off ∧ up.frm.rims ≠ 0 ∧
    ({ up with frm := { up.frm with count := 2 ^ 48 - 1, wrap := 0xFFFF } } : State).frm.rims ≠ 0 ∧
    ({ up with frm := { up.frm with rims := 0 } } : State).frm.rims = 0 := by
  decide

/-! ### Host commands -/

theorem wit_IdentityAndStatusAreAnswered : allRun ([0x0000, 0x10001, 0x0001, 0x10002, 0x0200].map (fun op => (op, stAny, up))) = true := by
  decide

/-- An ID of the frame engine exists, 0x1FFF does not; a block of 2 IDs and its buffer. -/
theorem wit_ParametersAreRead : allRun ([0x0100, 0x10010, 0x0103].map (fun op => (op, stAny, up))) = true ∧
    (pspec 0x1000).isSome = true ∧ (pspec 0x1FFF).isNone = true ∧ 0x1000 + 2 ≤ 0x10000 ∧ 24 * 2 ≤ buf.len ∧
    buf.addr % 8 = 0 ∧ buf.ok = true := by
  decide

theorem wit_TransitionsWaitForTheRim : allRun [(0x0201, stIs .ready, inSt .ready), (0x0202, stIs .blocked, inSt .blocked),
    (0x0204, stIs .running, inSt .running), (0x0208, stMaintFrom, inSt .blocked),
    (0x0209, stIs .maintenance, inSt .maintenance), (0x10020, stIs .ready, inSt .ready),
    (0x10021, stIs .blocked, inSt .blocked), (0x10026, stMaintFrom, inSt .ready),
    (0x10027, stIs .maintenance, inSt .maintenance)] = true := by
  decide

/-- BLOCKED with all that CONV_RUN asks; without the budget; with cells and no channel; with a SHORT rod; with FIR_TX one
below FIR_TX_MIN; SAFE_BLOCKED with all that CONV_RECOVER asks, with the telegram latch, with a fatal line. -/
def runOk : State := withP { inSt .blocked with fir := { Fir.reset with tx := 1600 } } [(0x8120, some 1)]
def runNoChan : State := withP { runOk with cells := cells3 } [(0x8120, some 1)]
def runShort : State := { runOk with rnk := { Rnk.reset with spare := [{ Spare.reset with sup := true, short := true }] } }
def runEarly : State := { runOk with fir := { Fir.reset with tx := txMin runOk.p - 1 } }
theorem wit_RunAndRecoverAreChecked :
    allRun ([0x0203, 0x10022].flatMap (fun op => [runOk, { runOk with frm := { runOk.frm with budgetOk := false } }, runNoChan,
      runShort, runEarly].map (fun s => (op, stIs .blocked, s)))) = true ∧
    allRun ([0x0207, 0x10025].flatMap (fun op => [inSt .safeBlocked, { inSt .safeBlocked with trp := { Trp.reset with tgLatch := true } },
      { inSt .safeBlocked with flt := { Flt.reset with lines := 1 } }].map (fun s => (op, stIs .safeBlocked, s)))) = true := by
  decide

theorem wit_RunAndRecoverClauses :
    (runOk.frm.budgetOk = true ∧ noChannel runOk = false ∧ anyShort runOk = false ∧ txMin runOk.p ≤ runOk.fir.tx) ∧
    (runNoChan.frm.budgetOk = true ∧ noChannel runNoChan = true) ∧
    (runShort.frm.budgetOk = true ∧ noChannel runShort = false ∧ anyShort runShort = true) ∧
    (runEarly.frm.budgetOk = true ∧ noChannel runEarly = false ∧ anyShort runEarly = false ∧
      runEarly.fir.tx < txMin runEarly.p) ∧
    (escLatched (inSt .safeBlocked) = false ∧ safetyFault (inSt .safeBlocked) = false) ∧
    escLatched { inSt .safeBlocked with trp := { Trp.reset with tgLatch := true } } = true ∧
    (escLatched { inSt .safeBlocked with flt := { Flt.reset with lines := 1 } } = false ∧
      safetyFault { inSt .safeBlocked with flt := { Flt.reset with lines := 1 } } = true) := by
  decide

theorem wit_SafeStopAndSafeBlockActOnce : allRun ([0x0205, 0x10023].flatMap (fun op => [inSt .running, inSt .blocked].map
      (fun s => (op, stUp, s))) ++ [0x0206, 0x10024].flatMap (fun op => [inSt .running, inSt .safeBlocked].map
      (fun s => (op, stUp, s)))) = true := by
  decide

/-- A write of FRM_PERIOD that passes, one beyond its range, one of a missing ID, an empty block, and one entry too many. -/
theorem wit_WritesAreCheckedAndWait :
    allRun ([0x0101, 0x10011, 0x0102, 0x10012].map (fun op => (op, stUp, up))) = true ∧
    writeBad up [(0x1000, 2)] h0.force = none ∧ writeBad up [(0x1000, 4)] h0.force = some (0x0203, 0, 0x1000) ∧
    writeBad up [(0x1FFF, 0)] h0.force = some (0x0202, 0, 0x1FFF) ∧ writeBad up [(0x1000, 2), (0x1001, 0)] false = none ∧
    512 < (List.replicate 513 (0x1000, (2 : Int))).length := by
  decide

/-- An input latched with its covering entry bypassed and a full filter time inactive; active again; bypass-fire over an
entry that is still ACTIVE. -/
def trip1 : State := { up with trp := { Trp.reset with latch := 2 } }
def tripFire : State := { up with
  cells := cells3
  trp := { Trp.reset with
    latch := 2, cfg := Trp.reset.cfg.set 1 { TripCfg.reset with act := 2 }
    ins := Trp.reset.ins.set 1 { TripIn.reset with cover := [5, 6] } } }
theorem wit_TripClearIsCheckedAndWaits :
    allRun ([0x0230, 0x10028].flatMap (fun op => [trip1, tripFire].map (fun s => (op, stAny, s)))) = true ∧
    (notIdle trip1 2 (List.replicate 16 1000) = [] ∧ notFired trip1 2 = none) ∧
    notIdle trip1 2 (List.replicate 16 999) = [1] ∧
    (notIdle tripFire 2 (List.replicate 16 1000) = [] ∧ notFired tripFire 2 = some 5) := by
  decide

/-- The last input passes; no input passes beyond it or without AON; TRP_TEST in MAINTENANCE. -/
theorem wit_PassesSetTheirLatchesAlone : (15 < 16 ∧ tb up.pwr.on 0 = true) ∧ ¬ (16 < 16 ∧ tb up.pwr.on 0 = true) ∧
    ¬ (0 < 16 ∧ tb State.reset.pwr.on 0 = true) ∧ allRun [(0x0231, stMaint, inSt .maintenance)] = true := by
  decide

theorem wit_EscalationsActAndReport :
    (let s : State := { up with trp := { Trp.reset with holdRun := List.replicate 12 (up.p 0xA050) } }
     11 < 12 ∧ s.p 0xA050 ≤ s.trp.holdRun.getD 11 0 ∧ tb s.trp.holdEsc 11 = false) ∧
    (let s : State := { inSt .safeStop with
      sbk := { Sbk.reset with step := 1, rods := Sbk.reset.rods.set 3 { SbkRod.reset with out := up.p 0xA103 } } }
     s.st = .safeStop ∧ 0 < s.sbk.step ∧ s.sbk.viol = false ∧ s.p 0xA103 ≤ (s.sbk.rods.getD 3 SbkRod.reset).out) ∧
    paired (withP up [(0xB000, some 1)]) = true := by
  decide

/-- SAFE_STOP after its last step with no monitored rod; after its tail with a rod still carrying current; before both. -/
theorem wit_SafeStopCompletesOnce :
    (let s : State := { inSt .safeStop with sbk := { Sbk.reset with step := up.p 0xA100 } }
     s.sbk.blockDue = none ∧ s.st = .safeStop ∧ 0 < s.sbk.step ∧ s.p 0xA100 ≤ s.sbk.step ∧
     (List.range 12).all (fun r => !monitored s r || decide (s.p 0xA102 ≤ (s.sbk.rods.getD r SbkRod.reset).quiet)) = true) ∧
    (let s : State := { inSt .safeStop with cells := cells3, sbk := { Sbk.reset with step := up.p 0xA100 + up.p 0xA101 } }
     s.sbk.blockDue = none ∧ 0 < s.sbk.step ∧ s.p 0xA100 + s.p 0xA101 ≤ s.sbk.step ∧
     (List.range 12).all (fun r => !monitored s r || decide (s.p 0xA102 ≤ (s.sbk.rods.getD r SbkRod.reset).quiet)) = false) ∧
    ¬ (up.st = .safeStop) := by
  decide

/-- Telegram supervision on. -/
def tgUp : State := withP up [(0xA200, some 1)]

/-- A telegram of a type with a sequence number and mask, to the PTP multicast address, in the format of R304. -/
def tgBytes (typ seq mask : Nat) : List Byte :=
  [1, BitVec.ofNat 8 typ] ++ leBytes 2 (tgUp.p 0xA202) ++ leBytes 2 (tgUp.p 0xA203) ++ leBytes 2 seq ++ leBytes 2 mask ++ [0, 0, 0, 0]
def telegram (typ seq mask : Nat) : List Byte :=
  let b := tgBytes typ seq mask
  [0x01, 0x1B, 0x19, 0, 0, 0] ++ List.replicate 6 0 ++ (leBytes 2 (tgUp.p 0xA201)).reverse ++ b ++ leBytes 4 (crc32c b) ++
    List.replicate 32 0

/-- A frame to the PTP multicast address with the telegram's type passes the port. -/
theorem portTakes_of (s : State) (lan : Nat) (b : List Byte) (h : b.length ≤ 1522 ∧ beNat (slice b 0 6) = 0x011B19000000 ∧
    slice b 12 2 ≠ [0x81, 0x00] ∧ beNat (slice b 12 2) = s.p 0xA201) : portTakes s lan b = true := by
  simp only [portTakes, if_neg h.2.2.1, h.1, h.2.1, h.2.2.2]; simp

/-- A frame too long, one whose CRC does not check, and a heartbeat telegram. -/
theorem wit_TelegramsAreChecked : portTakes tgUp 0 (List.replicate 1523 0) = false ∧
    (portTakes tgUp 0 ((telegram 0 1 0).set 30 0xEE) = true ∧ tgBody tgUp ((telegram 0 1 0).set 30 0xEE) = none) ∧
    (portTakes tgUp 1 (telegram 0 1 0) = true ∧ tgUp.p 0xA200 = 1 ∧ tgUp.st ≠ .off ∧
      tgBody tgUp (telegram 0 1 0) = some (tgBytes 0 1 0) ∧ fld (tgBytes 0 1 0) 1 1 = 0) :=
  ⟨by simp [portTakes], ⟨portTakes_of _ _ _ (by decide), by decide⟩, portTakes_of _ _ _ (by decide), by decide⟩

/-- A new request, and each kind of request with its equal copy on the other LAN two frames before. -/
def tgWith (typ mask : Nat) : State := { tgUp with sbk := { Sbk.reset with
  copies := [{ lan := 1, frame := 99, seq := 4, body := tgBytes typ 4 mask }] } }
theorem wit_TelegramRequestsAreMatched : (portTakes tgUp 0 (telegram 1 4 0) = true ∧ tgUp.sbk.anySeq = true ∧
      tgBody tgUp (telegram 1 4 0) = some (tgBytes 1 4 0) ∧ fld (tgBytes 1 4 0) 1 1 ≠ 0 ∧ fld (tgBytes 1 4 0) 6 2 = 4 ∧
      tgUp.sbk.copies = []) ∧
    (∀ x ∈ [(1, 0), (2, 0), (3, 0x801)], portTakes (tgWith x.1 x.2) 0 (telegram x.1 4 x.2) = true ∧
      (tgWith x.1 x.2).p 0xA200 = 1 ∧ tgBody (tgWith x.1 x.2) (telegram x.1 4 x.2) = some (tgBytes x.1 4 x.2) ∧
      (∀ c ∈ (tgWith x.1 x.2).sbk.copies, c.seq = fld (tgBytes x.1 4 x.2) 6 2 ∧ c.lan ≠ 0 ∧
        (tgWith x.1 x.2).frm.rims ≤ c.frame + 2 ∧ c.body = tgBytes x.1 4 x.2) ∧ fld (tgBytes x.1 4 x.2) 1 1 = x.1) := by
  refine ⟨⟨portTakes_of _ _ _ (by decide), by decide⟩, fun x hx => ⟨portTakes_of _ _ _ ?_, ?_⟩⟩
  · revert x; decide
  · revert x; decide

/-- A copy three rims old; supervision armed with both LANs heard, with both silent, with one silent. -/
theorem wit_TelegramLossAndSilenceReport :
    (let s : State := { tgUp with sbk := { Sbk.reset with copies := [{ lan := 1, frame := 98, seq := 4, body := [] }] } }
     (∃ c ∈ s.sbk.copies, c.lan = 1 ∧ c.frame + 3 ≤ s.frm.rims) ∧ s.p 0xA206 ≠ 5) ∧
    (let s : State := { tgUp with sbk := { Sbk.reset with armed := true, lastValid := [0, 1000] } }
     let sil := fun time : Nat => [0, 1].map (fun l => decide (s.sbk.lastValid.getD l 0 + 1000000 * s.p 0xA204 ≤ time))
     s.p 0xA200 = 1 ∧ s.sbk.armed = true ∧ sil 0 = s.sbk.silent ∧ s.p 0xA207 ≠ 5 ∧ s.p 0xA208 ≠ 5 ∧
     sil (1000000 * s.p 0xA204 + 1000) = [true, true] ∧ sil (1000000 * s.p 0xA204) = [true, false]) := by
  decide

/-! ### Cells, lanes, recorders, journal, time -/

/-- A device with cells; in RUNNING with rod 0 supervised, both its cells needed; a failed cell. -/
def cellUp : State := { up with cells := cells3 }
def cellRun : State := withP { inSt .running with cells := cells3 } [(0x6800, some 2)]
def cellDead : State := { up with cells := [(5, cell 0 0 6)] }

theorem wit_CellRangesRun : allRun ([(0x0401, stBind), (0x0402, stUp), (0x0403, stUp), (0x0404, stUp), (0x10041, stBind),
    (0x10042, stUp), (0x10043, stUp), (0x10044, stUp)].flatMap (fun x => [cellUp, cellRun, cellDead].map (fun s => (x.1, x.2, s)))) = true := by
  decide

/-- A range in the table and one past its end; every operation with nothing that forbids it, the entry that forbids it, and
the entry that leaves rod 0 SHORT. -/
theorem wit_CellRangesClauses : spanOk 6142 2 = true ∧ spanOk 6143 2 = false ∧ spanOk 5 0 = false ∧
    ((CellOp.block 5 2).effect cellUp.frm.g (staged cellUp)).map Prod.fst = [5, 6] ∧
    ((CellOp.release 5 2).effect cellUp.frm.g (staged cellUp)).map Prod.fst = [] ∧
    (((CellOp.block 9 1).effect cellUp.frm.g (staged cellUp)).map Prod.fst).find?
      (fun k => !(decide ((Tab.get Entry.reset (staged cellUp) k).st ≤ 4))) = some 9 ∧
    (((CellOp.bypass 5 1).effect cellDead.frm.g (staged cellDead)).map Prod.fst).find?
      (fun k => !(decide ((Tab.get Entry.reset (staged cellDead) k).st ≤ 5))) = some 5 ∧
    (((CellOp.unbind 5 1).effect cellRun.frm.g (staged cellRun)).map Prod.fst).find?
      (fun k => decide ((Tab.get Entry.reset (staged cellRun) k).st = 2)) = some 5 ∧
    shortBy cellUp (staged cellUp) [5, 6] = none ∧ shortBy cellRun (staged cellRun) [5, 6] = some 5 := by
  decide

/-- A part of the table as CELL_LOAD carries it. -/
def part (e : Entry) : List Byte := e.nvHead ++ leBytes 4 (crc32c e.nvHead)
def partOk : List Byte := part (cell 0 4 0)
def partNom : List Byte := part { cell 0 4 0 with cNom := 0 }
def partCrc : List Byte := partOk.set 3 1

theorem wit_CellEntriesRun : allRun ([(0x0400, stBind), (0x10040, stBind), (0x0405, stCalm), (0x10045, stCalm), (0x0406, stUp),
    (0x0407, stCalm), (0x0408, stAny)].map (fun x => (x.1, x.2, cellUp))) = true := by
  decide

/-- A bind that passes, one with a taken slot, one of a bound entry, one without C_NOM, one past the table, one to no rod. -/
theorem wit_CellBindClauses :
    (let e := fun j => Tab.get Entry.reset (staged cellUp) j
     let faults := fun b : BindArgs => bindFaults (pStandN cellUp) (putAll (staged cellUp) [(b.entry, Entry.bind b (e b.entry))]) [b.entry]
     (e 7).bound = false ∧ faults { bnd with entry := 7 } = none ∧ (faults { bnd with entry := 7, slot := 0 }).isSome = true ∧
     (e 5).bound = true ∧ bnd.cNom ≠ 0 ∧ ¬ (({ bnd with entry := 6144 } : BindArgs).entry < 6144)) := by
  decide

/-- A replace of a BYPASSED entry, with an identity in use, of an ACTIVE entry; a set of a bound and an unbound entry; loads
that pass, with a bad checksum, without C_NOM, onto a taken slot. -/
theorem wit_CellEntriesClauses :
    (let e := fun j => Tab.get Entry.reset (staged cellUp) j
     (e 9).bound = true ∧ (e 9).st = 5 ∧ (e 5).st = 2 ∧ (e 7).bound = false ∧
     (boundIn (staged cellUp)).any (fun y => y.1 != 9 && y.2.id == 77) = true ∧
     (boundIn (staged cellUp)).any (fun y => y.1 != 9 && y.2.id == 1) = false ∧
     badCrc [partOk] = none ∧ badNom [partOk] = none ∧ badCrc [partOk, partCrc] = some 1 ∧ badCrc [partNom] = none ∧
     badNom [partNom] = some 0 ∧
     bindFaults (pStandN cellUp) (putAll (staged cellUp) ((CellOp.load 7 [partOk]).effect cellUp.frm.g (staged cellUp))) (span 7 1) = none ∧
     (bindFaults (pStandN cellUp) (putAll (staged cellUp) ((CellOp.load 7 [part (cell 0 0 0)]).effect cellUp.frm.g (staged cellUp)))
       (span 7 1)).isSome = true) := by
  decide

/-- Lanes with power, a lane without, and a lane whose loss leaves rod 0 SHORT. -/
def lanesUp (s : State) : State := { s with lnk := { Lnk.reset with lanes := List.replicate 24 { LaneS.reset with st := 6 } } }
theorem wit_LinkRestartsWait :
    allRun ([0x0502, 0x10050].flatMap (fun op => [lanesUp cellUp, up, lanesUp cellRun].map (fun s => (op, stUp, s)))) = true ∧
    (lanesIn 0x800001).any (fun k => decide (((lanesUp cellUp).ln k).st = 0)) = false ∧
    (lanesIn 1).any (fun k => decide ((up.ln k).st = 0)) = true ∧ lanesShort (lanesUp cellRun) 1 = true ∧
    lanesShort (lanesUp cellRun) 2 = false := by
  decide

/-- The recorder in each of its states, with and without a source, with and without its domain. -/
def trcIn (st : Nat) : State := withP { up with trc := { Trc.reset with st := st } } [(0xF000, some 1)]
theorem wit_RecorderIsArmedTriggeredAndStopped :
    allRun ([0, 1, 2, 3, 4, 5].flatMap (fun st => [0x0600, 0x10060, 0x0602, 0x10061, 0x0601].map (fun op => (op, stUp, trcIn st)))) = true ∧
    (trcNoSrc (trcIn 0) = false ∧ tb (trcIn 0).pwr.on 4 = true ∧ (trcIn 0).trc.armDue = false) ∧ trcNoSrc up = true ∧
    tb ({ trcIn 0 with pwr := { up.pwr with on := 0xFEF } } : State).pwr.on 4 = false ∧ (trcIn 5).trc.st = 5 := by
  decide

/-- Room for a trigger, a full queue; a journal that reaches both flashes, and one that does not. -/
theorem wit_HostEventsAndClearsAreRecorded : allRun [(0x0610, stUp, up), (0x0611, stStill, up)] = true ∧
    up.evr.queue.length < 64 ∧ jnlBoth up = true ∧ jnlBoth { up with jnl := { up.jnl with f1 := false } } = false ∧
    64 ≤ (List.replicate 64 ({ typ := 1, list := 0, cause := [], data := [], g := 0, t32 := 0, epoch := 0, dev := 0, frame := 0 } : Trig)).length := by
  decide

/-- A record that is still being programmed. -/
def recOpen : JRec := { jseq := 4, last := true, ckpt := false, boot := 1, pl := .boot 1 0x41 0x4100, blk := 0, c0 := false, c1 := false, void := false }
theorem wit_JournalCommandsAreAnswered : allRun [(0x0700, stAny, up), (0x10070, stAny, up), (0x0701, stUp, up), (0x0702, stAny, up)] = true ∧
    (jnlHealthy up.toDev = true ∧ pendingSeqs up = []) ∧
    (jnlHealthy ({ up with jnl := { up.jnl with recs := [recOpen] } } : State).toDev = true ∧
      pendingSeqs { up with jnl := { up.jnl with recs := [recOpen] } } = [4]) ∧
    jnlHealthy ({ up with jnl := { up.jnl with f0 := false } } : State).toDev = false ∧
    (up.jnl.compact = false ∧ jnlReach up = true) ∧ jnlReach { up with jnl := { up.jnl with f0 := false } } = false ∧
    (1 ≤ 1 ∧ 8 ≤ 8 ∧ 8 ≤ 1048576 ∧ 8 % 8 = 0 ∧ (2 ^ 27 - 8) + 8 ≤ 2 ^ 27 ∧ 8 ≤ buf.len ∧ buf.addr % 8 = 0 ∧ buf.ok = true) ∧
    ¬ ((2 ^ 27 - 8) + 16 ≤ 2 ^ 27) := by
  decide

/-- A domain in use and valid, the other valid; a held step; the pair sync output in use. -/
def timed : State := { up with time := { Tim.reset with
  epoch := 1, doms := [{ TDom.reset with valid := true }, { TDom.reset with valid := true }], held := some 5000 } }
theorem wit_TimedOutputsAndTimeCommands :
    allRun ([timed, up].flatMap (fun s => [(0x0810, stUp, s), (0x0811, stUp, s), (0x0820, stAny, s), (0x0821, stAny, s)])) = true ∧
    (tout.output < 8 ∧ 4 ≤ tout.width ∧ tout.width < 2 ^ 31 ∧ tout.mode = 1 ∧ tout.period = 0) ∧
    (8 ≤ 8 ∧ 4 + 4 ≤ 8) ∧ ¬ (5 + 4 ≤ 8) ∧ timed.time.epoch ≠ 2 ∧ up.time.epoch = 0 ∧
    pairOut (withP up [(0xB000, some 1)]) = true ∧ pairOut up = false ∧
    ((timed.dom 0).valid = true ∧ timed.time.inUse = 0) ∧ ((timed.dom 1).valid = true ∧ timed.time.selHdr = none) ∧
    (up.dom 1).valid = false ∧ timed.time.held = some 5000 ∧ timed.time.stepHdr = none ∧ up.time.held = none := by
  decide

/-! ### The pair, faults, power and tests -/

/-- An ACTIVE device whose partner is STANDBY and synchronised, and one in another role. -/
def active : State := { up with pair := { Pair.reset with
  role := .active, links := [true, true], ptnrRole := 3, ptnrSync := true } }
def inRole (r : Role) : State := { up with pair := { Pair.reset with role := r } }
theorem wit_PairCommandsAreChecked :
    ([(active, 0x0901), (up, 0x0901), (inRole .standby, 0x0902), (inRole .joining, 0x0902), (up, 0x0902), (inRole .detached, 0x0903),
      (up, 0x0903), (inRole .detached, 0x0904), (up, 0x0904)].all (fun x => mayRunB x.2 h0 stUp x.1)) = true ∧
    partnerSynced active = true ∧ active.pair.links.any id = true ∧ active.pair.hover = false ∧ active.pair.hoverReq = none ∧
    partnerSynced { active with pair := { active.pair with ptnrSync := false } } = false ∧ follows (inRole .standby) = true ∧
    follows up = false ∧ acts (inRole .detached) = false ∧
    (8 < ({ (inRole .detached).pair with darkRun := 9, hbRun := 9 } : Pair).darkRun) ∧ (inRole .detached).pair.helloBad = false := by
  decide

/-- A queued fault message and a coalesced one. -/
def fmsg : FMsg := { blk := 1, inst := 0, kind := 1, sev := 1, detail := 0, frame := 100 }
def faulty : State := { up with flt := { Flt.reset with
  queue := [(fmsg, 100)], table := [{ first := fmsg, count := 2, firstFrame := 100, lastFrame := 101, lastDetail := 0 }] } }
theorem wit_FaultAndDiagnosticCommands :
    allRun ([0x0A00, 0x10090, 0x0F00, 0x100F0, 0x0A01].map (fun op => (op, stAny, faulty))) = true ∧ buf.addr % 8 = 0 ∧ buf.ok = true ∧
    (faulty.flt.queue.flatMap queueBytes ++ faulty.flt.table.flatMap coalBytes).length ≤ buf.len ∧
    0 < (faulty.flt.queue.flatMap queueBytes ++ faulty.flt.table.flatMap coalBytes).length := by
  decide

/-- Calibration idle, running, without power; the lowest and highest switchable domain, those beside them, a change under
way. -/
def maint : State := inSt .maintenance
def calRun : State := { maint with adc := { Adc.reset with cal := some (h0, 0x0C00, 1000, 1) } }
def calOff : State := { maint with pwr := { up.pwr with on := 0xF9F } }
theorem wit_PowerAndCalibrationCommands :
    allRun ([0x0C00, 0x10080].flatMap (fun op => [maint, calRun, calOff].map (fun s => (op, stIs .maintenance, s))) ++
      [(0x0B01, stStill, up), (0x0B00, stUp, up), (0x0C00, stAny, up)]) = true ∧
    (maint.adc.cal = none ∧ convUp maint ≠ 0) ∧ calRun.adc.cal.isSome = true ∧ (calOff.adc.cal = none ∧ convUp calOff = 0) ∧
    (tb calOff.pwr.on 5 = false ∧ tb calOff.pwr.on 6 = false) ∧ (tb maint.pwr.on 5 = true ∧ maint.frm.armed = true) ∧
    (bitsOf 12 0x1E0).any (fun d => decide (d < 5) || decide (8 < d)) = false ∧
    (bitsOf 12 0x10).any (fun d => decide (d < 5) || decide (8 < d)) = true ∧
    (bitsOf 12 0x200).any (fun d => decide (d < 5) || decide (8 < d)) = true ∧ stStill up.st = true ∧
    (bitsOf 12 0x1E0).filter (fun i => tb up.pwr.on i != decide (0 = 1)) = 5 :: [6, 7, 8] ∧ up.pwr.switching = none ∧
    (some { hdr := h0, on := false, todo := [5] : Switching }).isSome = true := by
  decide

/-- Ramps in a device that takes them and in the safe states; a full queue. -/
def spFull : State := { up with ref := { Ref.reset with
  grps := Ref.reset.grps.set 0 { Grp.reset with queue := List.replicate 16 { e := ramp, seq := 0, at_ := 0 } } } }
theorem wit_Ramps :
    allRun ([0x0300, 0x10030, 0x0301].map (fun op => (op, stRef, up)) ++ [(0x0303, stUp, up), (0x0302, stAny, up), (0x10031, stAny, up),
      (0x0302, stAny, inSt .safeBlocked), (0x10031, stAny, inSt .safeStop)] ++
      [0x0300, 0x10030, 0x0301].flatMap (fun op => [inSt .safeStop, inSt .safeBlocked].map (fun s => (op, stAny, s)))) = true ∧
    rampBad up true { ramp with group := 7 } = false ∧ rampBad up true { ramp with group := 8 } = true ∧
    rampBad up false { ramp with blend := 1 } = false ∧ rampBad up true { ramp with blend := 1 } = true ∧
    spDepth up 7 < 16 ∧ 16 ≤ spDepth spFull 0 ∧ ahead 101 up.frm.count = true ∧ ahead 100 up.frm.count = false := by
  decide

/-- A bound ACTIVE cell and a BYPASSED one in MAINTENANCE, a full list of tests, a cell whose hold has passed. -/
def testUp : State := { maint with cells := cells3 }
def testCell : TestCell := { entry := 5, level := 0, last := 1, ended := false }
theorem wit_TestEdgesAreQueuedAndEnded : allRun [(0x0F20, stMaint, testUp), (0x0F21, stMaint, testUp)] = true ∧
    ((testUp.ent 5).bound = true ∧ (testUp.ent 5).st = 2 ∧ (testUp.ent 5).fb = false) ∧ (testUp.ent 9).st = 5 ∧
    (testUp.ent 7).bound = false ∧ testUp.fir.tests.length < 64 ∧
    64 ≤ (List.replicate 64 ({ hdr := h0, entry := 5, code := 0, time := 0, late := false, del := false } : TestEdge)).length ∧
    holdOver { testUp with frm := { up.frm with rims := 1 + up.p 0x7002 }, fir := { Fir.reset with cells := [testCell] } } 5 = true ∧
    holdOver { testUp with frm := { up.frm with rims := up.p 0x7002 }, fir := { Fir.reset with cells := [testCell] } } 5 = false := by
  decide

/-! ### Lanes -/

/-- Lane 3 in a state, with changes. -/
def laneIs (k : Nat) (f : LaneS → LaneS) (s : State) : State := { s with lnk := { s.lnk with lanes := s.lnk.lanes.modify k f } }
def lane (k st : Nat) : State := laneIs k (fun l => { l with st := st }) up
theorem wit_LaneBringUpAdvances :
    ((lane 23 1).ln 23).st = 1 ∧ ((lane 23 1).ln 23).light = false ∧
    ((laneIs 0 (fun l => { l with st := 2, rows := [7] }) up).ln 0).rows = 7 :: [] ∧
    bestRow (FomRow.reset :: [{ measured := true, dsErr := false, few := false, w := 100, h := 100, fom := up.p 0x8201 }]) (up.p 0x8201) =
      some 1 ∧
    bestRow [{ measured := true, dsErr := false, few := false, w := 0, h := 0, fom := up.p 0x8201 - 1 }] (up.p 0x8201) = none ∧
    0 < up.p 0x8201 ∧ ((lane 0 3).ln 0).st = 3 ∧ ((lane 0 3).ln 0).rows = [] ∧
    ((laneIs 0 (fun l => { l with st := 4, caps := [(0, { id := 1, fb := false, gen := 3, hw := 1, asym := 0 })] }) up).ln 0).caps ≠ [] ∧
    ((lane 0 8).ln 0).st = 8 ∧ ((lane 0 8).ln 0).held = false := by
  decide

/-- A cell seen on lane 0, ranged, tried out, and neither. -/
def seen1 : Seen := { id := 77, fb := false, gen := 3, hw := 1, asym := 0 }
def seenCell (r : Bool) (n : Nat) : State := { lane 0 5 with cells := [(5, { cell 0 0 2 with seen := some seen1, ranged := r, tries := n })] }
theorem wit_LaneTimeoutsAndLosses :
    (((lane 0 4).ln 0).caps = [] ∧ ((lane 0 4).cv 0).conc = none) ∧ ((lane 0 5).ln 0).roundOk = false ∧ ((lane 0 5).ln 0).gen ≠ 1 ∧
    ([(true, 0), (false, up.p 0x9021)].all (fun x => (assigned (seenCell x.1 x.2) 0).all (fun e =>
      e.2.ranged || decide ((seenCell x.1 x.2).p 0x9021 ≤ e.2.tries)))) = true ∧
    (assigned (seenCell true 0) 0).any (fun e => e.2.ranged) = true ∧
    (assigned (seenCell false (up.p 0x9021)) 0).any (fun e => e.2.ranged) = false ∧
    (assigned (seenCell false 0) 0).all (fun e => e.2.ranged || decide ((seenCell false 0).p 0x9021 ≤ e.2.tries)) = false ∧
    (let s := laneIs 0 (fun l => { l with losRun := up.p 0x8207 }) (lane 0 6)
     (s.ln 0).st = 6 ∧ (s.ln 0).gen ≠ 1 ∧ s.p 0x8207 ≤ (s.ln 0).losRun) ∧
    ((laneIs 0 (fun l => { l with gen := 1 }) (lane 0 6)).ln 0).gen = 1 := by
  decide

/-- A Cevel-3 burst with its CRC: slot, MSG, frame and ns of t_m, U1 and the idle blocks. -/
def burst (lane slot msg tm ns u1 idles : Nat) (lock : Lock) : Burst :=
  let b0 := 0x33 + slot * 2 ^ 8 + msg * 2 ^ 16 + tm * 2 ^ 32 + ns * 2 ^ 48
  let crc := crc32c ((leBytes 8 b0).drop 1 ++ leBytes 8 u1 ++ leBytes 8 0 ++ [0, 0, 0])
  { lane := lane, slot := slot, lock := lock, time := 205000, tLock := 3280000, phase := 4, thr := 1
    blocks := [(2, BitVec.ofNat 64 b0), (1, BitVec.ofNat 64 u1), (1, 0), (2, BitVec.ofNat 64 (0xCC + crc * 2 ^ 32))] ++
      List.replicate idles (2, 0x1E) }

/-- A cell reporting on an ACTIVE lane of generation 3, its slot in the schedule. -/
def rep : State := { seenCell true 0 with
  lnk := (lane 0 6).lnk
  cev := { Cev.reset with lanes := Cev.reset.lanes.set 0 { CevLane.reset with late := [0] } } }
theorem wit_ReportsAreTakenIn : ((rep.ln 0).st = 6 ∧ acts rep = true ∧ (rep.ent 5).seen.isSome = true ∧ (rep.ln 0).gen = 3) ∧
    rep.entAt 0 0 = some (5, rep.ent 5) ∧ slotNow rep 0 0 = true ∧ (rep.cv 0).seen.contains 0 = false ∧
    (burst 0 0 0 100 2047 0x123456 4 .fail).lock = .fail ∧
    (let b := burst 0 0 0 100 2047 0x123456 4 .locked
     (burstOn b (rep.ln 0) && burstShape b 0 4 && decide (bits 15 8 (bu b 0) = b.slot)) = true ∧
     tmOf rep 16 (bits 47 32 (bu b 0)) (bits 60 48 (bu b 0)) = some (204800 + 2047)) ∧
    tmOf rep 16 100 2048 = none ∧ burstOn (burst 0 0 0 100 0 0 4 .inverted) (rep.ln 0) = false ∧
    (let m : List Byte := [0x20, 1, 2, 0, 0x80, 0]
     let b := m ++ [BitVec.ofNat 8 (crc8 m)]
     let s := laneIs 0 (fun l => { l with gen := 1 }) rep
     (s.ln 0).gen = 1 ∧ b.length = 7 ∧ crc8 (b.take 6) = fld b 6 1 ∧ s.entAt 0 (bits 4 0 (fld b 0 1)) = some (5, s.ent 5) ∧
     (tmOf s 3 (bits 15 13 (fld b 3 2)) (bits 12 0 (fld b 3 2))).isSome = true ∧ ([] : List Byte).length ≠ 7) := by
  decide

/-- A ranging open on lane 0, its burst inside the window, one of another cell, one too late; a lane in CAPS and in TRAIN. -/
def rng : State := { rep with cev := { Cev.reset with lanes := Cev.reset.lanes.set 0 { CevLane.reset with
  ranging := some { slot := 0, id := 77, dIdx := 101, dAt := 204800, last := 110 } } } }
def rngBurst (id t : Nat) : Burst := { burst 0 0 2 0 0 id 0 .locked with tLock := t }
theorem wit_RangingAndCapabilities : (rangeOpen rng 0 = true ∧ 0 < rng.cev.lanes.length ∧ (rng.ln 0).gen ≠ 1) ∧
    (let ok := rngBurst 77 (16 * 204800 + 4096 + 640)
     let d := fun t : Nat => rangeDelay 3 t 204800 0 (burstSelf ok).asym 0
     burstOn ok (rng.ln 0) = true ∧ (burstShape ok 2 0 && decide ((burstSelf ok).id = 77)) = true ∧
     0 ≤ d ok.tLock ∧ d ok.tLock < 16 * (rng.p 0x9000 : Int) ∧ d 3276800 < 0 ∧
     16 * (rng.p 0x9000 : Int) ≤ d (16 * 204800 + 4096 + 2 * 16 * rng.p 0x9000 + 640)) ∧
    decide ((burstSelf (rngBurst 78 0)).id = 77) = false ∧
    (let m : List Byte := [0xFF, 0, 0, 0, 0, 0]
     let b := m ++ [BitVec.ofNat 8 (crc8 m)]
     b.length = 7 ∧ crc8 (b.take 6) = fld b 6 1 ∧ fld b 0 1 = 0xFF) ∧
    (let b := burst 0 0xFF 1 0 0 (77 + 2 ^ 58) 0 .locked
     b.lock ≠ .fail ∧ burstShape b 1 0 = true ∧ bits 15 8 (bu b 0) = 0xFF ∧ tb (bu b 1) 58 = true ∧ bits 61 59 (bu b 1) = 0 ∧
     burstOn b ((lane 0 4).ln 0) = true ∧ ((laneIs 0 (fun l => { l with st := 2, rows := [0] }) up).ln 0).rows.head? = some 0) := by
  decide

/-- An announce window's first frame, and a concentrator's own capability and a port's. -/
def annUp : State := withP { lane 0 6 with
  cev := { Cev.reset with lanes := Cev.reset.lanes.set 0 { CevLane.reset with
    weave := some { fc := 1, wd := 2, k := 4, epoch := 97, wtag := 1, win := 2 } } } } [(0x9025, some 1)]
theorem wit_AnnouncesAndCapabilities : roleOf annUp 0 annUp.frm.rims = .window 1 2 true ∧
    (let b := burst 0 0xFF 3 0 0 78 0 .locked
     burstOn b (annUp.ln 0) = true ∧ burstShape b 3 0 = true ∧ bits 15 8 (bu b 0) = 0xFF) ∧
    ([0xFF, 3].all (fun p : Byte =>
      let m : List Byte := [p, 78, 0, 0, 0, 0, 0, 1, 0, 0]
      let b := m ++ [BitVec.ofNat 8 (crc8 m)]
      decide (b.length = 11) && decide (crc8 (b.take 10) = fld b 10 1))) = true ∧
    ((laneIs 0 (fun l => { l with st := 4, gen := 1 }) up).ln 0).gen = 1 := by
  decide

/-! ### Frames, rules, estimates -/

/-- The work of frame 100 waits, its guard at the end of its frame; the same late. -/
def work : Work := { n := 100, guard := 206720, next := none }
def frmUp : State := { up with frm := { up.frm with work := [work] } }
theorem wit_FramesAreJudged : frmUp.frm.work = work :: [] ∧ up.frm.work = [] ∧
    (up.frm.run = true ∧ up.frm.rims ≠ 0 ∧ up.frm.judged = none) ∧
    (let s : State := { up with frm := { up.frm with done := some (up.frm.g + up.frm.len - 129) } }
     s.frm.done = some (s.frm.g + s.frm.len - 129) ∧ s.frm.g + s.frm.len - 129 + 128 < s.frm.g + s.frm.len) ∧
    (let s : State := { up with frm := { up.frm with done := some (up.frm.g + up.frm.len - 128) } }
     s.frm.done = some (s.frm.g + s.frm.len - 128) ∧ s.frm.g + s.frm.len ≤ s.frm.g + s.frm.len - 128 + 128 ∧
     128 ≤ s.frm.g + s.frm.len) ∧ State.reset.frm.run = false ∧ State.reset.frm.rims = 0 ∧
    ({ up with frm := { up.frm with judged := some true } } : State).frm.judged.isSome = true := by
  decide

/-- FRM_OVERRUN2 due in each of its cases. -/
def ovr2 (s : State) : State := { s with frm := { s.frm with ovr2Due := true } }
theorem wit_SecondOverruns : up.frm.ovr2Due = false ∧
    ([ovr2 up, ovr2 (inSt .safeStop), ovr2 (inSt .running), ovr2 { active with st := .running },
      ovr2 (inRole .detached)].all (fun s => s.frm.ovr2Due)) = true ∧
    acts (ovr2 (inRole .detached)) = false ∧ ((ovr2 up).st ≠ .safeStop ∧ (ovr2 up).st ≠ .running) ∧
    (acts (ovr2 (inSt .safeStop)) = true ∧ (ovr2 (inSt .safeStop)).st = .safeStop) ∧
    (acts (ovr2 (inSt .running)) = true ∧ (ovr2 (inSt .running)).st = .running ∧ (inSt .running).pair.role ≠ .active) ∧
    (let s := ovr2 { active with st := .running }
     s.st = .running ∧ s.pair.role = .active ∧ partnerSynced s = true) := by
  decide

/-- A rod's discrepancy due and not; a triple's; a slot's with each reaction; a calibration that completes. -/
theorem wit_SignalFaultsAreLatched :
    discDue { up with adc := { Adc.reset with rods := Adc.reset.rods.set 11 { RodI.reset with up := 3 } } } 11 = true ∧
    discDue { up with adc := { Adc.reset with rods := Adc.reset.rods.set 11 { RodI.reset with up := 2 } } } 11 = false ∧
    plausDue { up with adc := { Adc.reset with tris := Adc.reset.tris.set 7 { Tri.reset with armed := true, count := up.p 0x2452 } } } 7 =
      true ∧ plausDue up 7 = false ∧
    ([0, 1, 2, 3, 4, 5].all (fun c => decide
      ((withP up [(0x4008 + 32 * 31, some c)]).p (0x4008 + 32 * 31) = c.toNat))) = true ∧
    (({ up with ctl := { Ctl.reset with slots := Ctl.reset.slots.set 31 { Slot.reset with due := true } } } : State).ctl.slots.getD 31
      Slot.reset).due = true ∧ (up.ctl.slots.getD 31 Slot.reset).due = false ∧
    (calRun.adc.cal = some (h0, 0x0C00, 1000, 1) ∧ (calRun.hif.pairs[h0.pair]?).map RPair.open_ = some true ∧ acts calRun = true ∧
      calRun.hif.held = []) ∧ maint.adc.cal = none ∧ maint.hif.held = [] := by
  decide

/-- One cell in a state at its limits; the numbers of the limits. -/
def one (e : Entry) : State := { up with cells := [(5, e)] }
theorem wit_CellRulesAreProposed :
    ([({ cell 0 0 3 with susp := up.p 0x6883, good := up.p 0x6882 } : Entry)].all (fun e =>
      (one e).ent 5 == e && e.bound && decide (e.st = 3) && decide ((one e).p 0x6883 ≤ e.susp) &&
        decide ((one e).p 0x6882 ≤ e.good))) = true ∧
    ([({ cell 0 0 2 with missed := up.p 0x5040, skips := 3 } : Entry)].all (fun e =>
      (one e).ent 5 == e && e.bound && decide (e.st = 2) && decide ((one e).p 0x5040 ≤ e.missed) && decide (3 ≤ e.skips))) = true ∧
    ((one (cell 0 0 3)).ent 5).susp < (one (cell 0 0 3)).p 0x6883 ∧ ((one (cell 0 0 3)).ent 5).good < (one (cell 0 0 3)).p 0x6882 ∧
    ((one (cell 0 0 2)).ent 5).missed < up.p 0x5040 ∧ ((one (cell 0 0 2)).ent 5).skips < 3 ∧ (up.ent 5).bound = false := by
  decide

/-- A run of implausible reports at its limit; blocks with an accepted and a rejected estimate; a batch. -/
def seedCell : Entry := { cell 0 0 3 with run := up.p 0x5042, runT := 100, runV := 5 }
def clCell : Entry := { cell 0 0 2 with nq := up.p 0x5045, sqq := 1000000, sqv := 2 ^ 26 }
theorem wit_CellEstimatesAreKept :
    (((one seedCell).ent 5).bound = true ∧ ((one seedCell).ent 5).st = 3 ∧ (one seedCell).p 0x5042 ≠ 0 ∧
      (one seedCell).p 0x5042 ≤ ((one seedCell).ent 5).run) ∧ ((one clCell).ent 5).st ≠ 3 ∧
    (((one clCell).ent 5).bound = true ∧ (one clCell).p 0x5045 ≤ ((one clCell).ent 5).nq ∧
      blockEst (one clCell) ((one clCell).ent 5) = some 64000000) ∧
    blockEst up { clCell with sqv := 0 } = none ∧ (cell 0 0 2).nq < up.p 0x5045 ∧ Tab.wf Entry.reset cells3 = true ∧
    (jnlTakes up = true ∧ ({ up.rnk with dirty := [5] } : Rnk).dirty ≠ []) ∧ jnlTakes State.reset = false ∧ up.rnk.dirty = [] := by
  decide

/-! ### Host ports and packets -/

/-- Two units in the ring, one reply in the other; the ends of what a doorbell may name. -/
def ringPair : RPair := { openPair with cmdProd := 2, rplProd := 1 }
def ring : State := { up with hif := { up.hif with pairs := [ringPair, RPair.reset, RPair.reset, RPair.reset] } }
theorem wit_DoorbellsMoveTheirIndices : ring.st ≠ .off ∧ ring.hif.pairs[0]? = some ringPair ∧ ringPair.open_ = true ∧
    (idxDist ringPair.cmdCons 64 ≤ ringPair.cmdUnits ∧ idxDist ringPair.cmdCons ringPair.cmdProd ≤ idxDist ringPair.cmdCons 64) ∧
    (idxDist ringPair.cmdCons 2 ≤ ringPair.cmdUnits ∧ idxDist ringPair.cmdCons ringPair.cmdProd ≤ idxDist ringPair.cmdCons 2) ∧
    ¬ (idxDist ringPair.cmdCons 65 ≤ ringPair.cmdUnits) ∧ ¬ (idxDist ringPair.cmdCons ringPair.cmdProd ≤ idxDist ringPair.cmdCons 1) ∧
    idxDist ringPair.rplCons 1 ≤ idxDist ringPair.rplCons ringPair.rplProd ∧
    idxDist ringPair.rplCons ringPair.rplProd < idxDist ringPair.rplCons 2 ∧ (ring.hif.pairs[1]?).map RPair.open_ ≠ some true ∧
    ring.hif.pairs[7 % 4]? = some RPair.reset ∧ State.reset.st = .off := by
  decide

/-- A descriptor of pair 1 with 64 units and entries, a fresh start or not, its ring bases aligned or not. -/
def descr (fresh base : Nat) : List Byte :=
  let b := leBytes 8 base ++ leBytes 8 0x2000 ++ leBytes 4 64 ++ leBytes 4 64 ++ [1, 2, 0, BitVec.ofNat 8 fresh] ++ leBytes 4 7 ++
    List.replicate 28 0
  b ++ leBytes 4 (crc32c b)
def opening : State := { up with hif := { up.hif with opening := some 0x4000 } }
def flying : Fly := { pair := 1, gen := 2, seq := 0, crc := 0, opcode := 1, tag := 0, packet := [], basis := 1, mirror := false
                      jseq := 0, since := 0, exec := false, old := false }
def reply1 : Reply := { pair := 0, seq := 0, opcode := 1, status := 0, tag := 0, dup := false, basis := 1, final := true, data := [] }
theorem wit_SessionsOpen : (opening.hif.opening = some 0x4000 ∧ opening.hif.held = [] ∧ opening.st ≠ .off ∧ opening.st ≠ .starting) ∧
    ({ opening with st := .starting } : State).st = .starting ∧
    (decide ((descr 0 0x1000).length = 64) && decide (crc32c ((descr 0 0x1000).take 60) = fld (descr 0 0x1000) 60 4) &&
      decide (fld (descr 0 0x1000) 32 28 = 0)) = true ∧
    (decide (crc32c (((descr 0 0x1000).set 1 0xFF).take 60) = fld ((descr 0 0x1000).set 1 0xFF) 60 4)) = false ∧
    (descOk 0x4000 (descr 0 0x1000) = true ∧ fld (descr 0 0x1000) 27 1 = 0) ∧
    (decide ((descr 0 0x1001).length = 64) && decide (crc32c ((descr 0 0x1001).take 60) = fld (descr 0 0x1001) 60 4) &&
      decide (fld (descr 0 0x1001) 32 28 = 0)) = true ∧ descOk 0x4000 (descr 0 0x1001) = false ∧
    (decide ((descr 1 0x1000).length = 64) && decide (crc32c ((descr 1 0x1000).take 60) = fld (descr 1 0x1000) 60 4) &&
      decide (fld (descr 1 0x1000) 32 28 = 0)) = true ∧ descOk 0x4000 (descr 1 0x1000) = true ∧
    (decide (fld (descr 1 0x1000) 27 1 = 1) && [flying].any (fun f => f.pair == fld (descr 1 0x1000) 24 1)) = true := by
  decide

theorem wit_PortEventsAndRepliesAreServed :
    (let p := { ringPair with rplProd := 0, replies := [reply1] }
     ({ up with hif := { up.hif with pairs := [p] } } : State).hif.pairs[0]? = some p ∧ p.open_ = true ∧ p.replies = reply1 :: [] ∧
     idxDist p.rplCons p.rplProd < p.rplEnts) ∧
    (let p := { ringPair with rplProd := 64, replies := [reply1] }
     p.open_ = true ∧ p.replies = reply1 :: [] ∧ p.rplEnts ≤ idxDist p.rplCons p.rplProd) := by
  decide

/-- A packet of FCS-2: SEQ, opcode, body, and its CRC. -/
def packet (seq op : Nat) (body : List Byte) : List Byte :=
  let head := leBytes 4 seq ++ leBytes 2 op ++ [0, 0] ++ leBytes 4 (32 + body.length) ++ leBytes 4 9 ++ List.replicate 12 0
  head ++ leBytes 4 (crc32c (head ++ leBytes 4 0 ++ body)) ++ body
def pk : List Byte := packet 7 0x0205 []
/-- Pair 0 with that packet, NEXT and window given. -/
def pkPair (next : Nat) (w : List WinE) : RPair := { openPair with cmdProd := 1, next := next, window := w }
def pkUp (s : State) (next : Nat) (w : List WinE) : State :=
  { s with hif := { s.hif with pairs := [pkPair next w, RPair.reset, RPair.reset, RPair.reset] } }
theorem wit_PacketsAreTakenInOrder :
    ([pkUp up 7 [], pkUp up 8 [], pkUp active 7 [], pkUp (withP up [(0, some 0)]) 7 []].all (fun s =>
      readsRings s && decide (nextPair s = some 0) && decide (s.hif.held = []) && acts s)) = true ∧
    (lenOk 2 (pktLen 2 pk) && decide (pktLen 2 pk ≤ 64 * idxDist 0 1) && decide (pktLen 2 pk ≤ pk.length)) = true ∧
    lenOk 2 (pktLen 2 (pk.set 8 33)) = false ∧ pktSum 2 (pk.set 12 1) ≠ pktCrc 2 (pk.set 12 1) ∧
    (pktSum 2 (pk.take (pktLen 2 pk)) = pktCrc 2 (pk.take (pktLen 2 pk)) ∧ isSession (pktOp pk) = false ∧ fld pk 0 4 = 7) ∧
    (inWindow 7 8 = false ∧ inWindow 4103 7 = true ∧ inWindow 4104 7 = false ∧ inWindow 8 7 = true) ∧
    (pkPair 8 []).window.find? (fun w => w.seq == 7) = none ∧
    (let w : WinE := { seq := 7, crc := pktCrc 2 pk, basis := 1, reply := some reply1 }
     (pkPair 8 [w]).window.find? (fun w => w.seq == 7) = some w ∧ w.crc = pktCrc 2 (pk.take (pktLen 2 pk)) ∧ reply1.pair = 0) ∧
    partnerSynced (pkUp active 7 []) = true ∧ (partnerSynced (pkUp up 7 []) = false ∧ jnlHealthy (pkUp up 7 []).toDev = true) := by
  decide

theorem wit_PacketsWithoutJournal :
    (let s : State := withP { up with jnl := { up.jnl with f0 := false } } [(0, some 0)]
     partnerSynced s = false ∧ jnlHealthy s.toDev = false ∧ s.p 0 ≠ 1) ∧
    (let f : Fly := { flying with pair := 0, seq := 7, basis := 0, mirror := true }
     let s : State := { up with hif := { up.hif with fly := [f] } }
     s.hif.fly.find? (fun f => f.pair == 0 && f.seq == 7 && f.mirror && f.basis == 0) = some f ∧ jnlHealthy s.toDev = true ∧
     s.hif.openReq = none) := by
  decide

/-! ### The pair -/

/-- A pair in use: an active device with a synchronised partner, and a device in another role, both links locked. -/
def pairOn (s : State) : State := withP s [(0xB000, some 1)]
def twinUp : State := pairOn active
def roleUp (r : Role) : State := pairOn { up with pair := { Pair.reset with role := r, links := [true, true] } }
def hdr (good : Bool) (mseq fn : Nat) : PHdr := { link := 1, mseq := mseq, fn := fn, good := good, time := 16 * 204900 }
def hello (sys rev : Nat) : HelloMsg := { sys := sys, rev := rev, compat := 0x4100, gens := 6, latDev := List.replicate 24 0 }
theorem wit_PartnerMessagesAreTakenIn :
    (roleUp .standby).hif.held = [] ∧
    ([roleUp .standby, roleUp .joining, twinUp].all (fun s => paired s && decide (s.st ≠ .off) && s.pair.links.getD 1 false)) = true ∧
    paired up = false ∧ (roleUp .standby).pair.mseqRx.contains 5 = false ∧
    ({ (roleUp .standby).pair with mseqRx := [5] } : Pair).mseqRx.contains 5 = true ∧
    1 ≠ b2n (roleUp .standby).pair.sys ∧ 0 = b2n (roleUp .standby).pair.sys ∧ (roleUp .standby).pair.sameSys = false ∧
    (follows (roleUp .standby) = true ∧ follows (roleUp .joining) = true ∧ follows twinUp = false) ∧
    inFrame (hdr true 5 100) (roleUp .standby) = true ∧ inFrame (hdr true 5 101) (roleUp .standby) = false ∧
    inFrame (hdr true 5 (100 + 2 ^ 16)) (roleUp .standby) = true ∧
    helloFits (hello 1 0x41) (roleUp .joining) = true ∧ helloFits (hello 1 0x40) (roleUp .joining) = false ∧
    (let s : State := { twinUp with pair := { twinUp.pair with hover := true, hoverFn := 100 } }
     s.pair.role = .active ∧ s.pair.hover = true ∧ 100 = s.pair.hoverFn ∧ s.frm.count = 100) ∧ (roleUp .standby).pair.hover = false := by
  decide

/-- A mirrored packet new to the standby and one in its window; a command that waits for its MIR_ACK. -/
theorem wit_MirroredCommandsAreKeptInStep :
    (paired (roleUp .standby) = true ∧ follows (roleUp .standby) = true ∧ acts (roleUp .standby) = false ∧
      (roleUp .standby).pair.dark = false ∧ (roleUp .standby).pwr.dark = false) ∧
    (pk ≠ [] ∧ winOf (roleUp .standby) 0 7 = none ∧ formStatus 2 (pktOp pk) pk = none) ∧
    (let w : WinE := { seq := 7, crc := 0, basis := 1, reply := none }
     (winOf (pkUp (roleUp .standby) 8 [w]) 0 7).isSome = true) ∧
    (acts twinUp = true ∧ follows twinUp = false) ∧
    (let f : Fly := { flying with pair := 0, seq := 7, opcode := 0x0205, packet := pk, basis := 0, mirror := true }
     let s : State := { twinUp with hif := { twinUp.hif with fly := [f] } }
     s.hif.fly.find? (fun f => f.pair == 0 && f.seq == 7 && f.mirror && f.basis == 0) = some f ∧
     formStatus f.gen f.opcode f.packet = none ∧ s.hif.openReq = none ∧ (s.hif.pairs[0]?).map RPair.open_ = some true) := by
  decide

/-- A plan of one frame on a monitor input. -/
def mx : MxFrame := { plan := true, len := 2048, tx := 1600, tripSeq := 3, mgt := [], codes := [], edges := [] }
theorem wit_LinksAndPresenceActOnThePair :
    (let s := pairOn up
     paired s = true ∧ s.st ≠ .off ∧ 1 < 2 ∧ s.pair.links.getD 1 false = false) ∧
    (twinUp.pair.links.getD 1 false = true ∧ (twinUp.pair.links.set 1 false).any id = true) ∧
    (([false, true] : List Bool).getD 1 false = true ∧ (([false, true] : List Bool).set 1 false).any id = false) ∧
    (let s : State := pairOn { lane 23 7 with pair := (roleUp .standby).pair }
     23 < 24 ∧ s.pair.role = .standby ∧ (s.ln 23).st = 7 ∧ s.pair.links.any id = true ∧ 99 = lastFrame s.toDev ∧ follows s = true) ∧
    (mx.mgt = [] ∧ mx.plan = true) ∧
    twinUp.pair.role ≠ .standby ∧ up.pair.brdPres = false ∧
    (let s : State := { twinUp with pair := { twinUp.pair with brdPres := true } }
     s.pair.brdPres = true ∧ paired s = true ∧ s.pair.role = .active ∧ partnerSynced s = true ∧ s.pair.hoverReq = none ∧
     s.pair.hover = false) ∧
    partnerSynced (roleUp .active) = false ∧ (roleUp .joining).pair.role = .joining ∧ paired up = false ∧
    (1 ≠ b2n up.pair.sys ∧ 0 = b2n up.pair.sys) ∧ ((roleUp .joining).ln 0).st ≠ 7 := by
  decide

/-- A standby without a heartbeat, its second absence, and one with it; an announced hand-over at its rim. -/
def beat (missed : Nat) (seen synced : Bool) : State :=
  { roleUp .standby with pair := { (roleUp .standby).pair with missed := missed, hbLink := seen, synced := synced } }
def handOver (ack : Bool) : State := { twinUp with pair := { twinUp.pair with
  hover := true, hoverFn := 100, hoverAck := ack, hoverWhy := some (.switch h0) } }
theorem wit_RolesFollowHeartbeatsAndHandOvers :
    ([beat 1 true true, beat 0 false true, beat 1 false true].all (fun s => paired s && !s.pair.hbJudged &&
      decide (s.pair.role = .standby) && decide (s.hif.held = []))) = true ∧
    ((beat 1 true true).pair.hbLink || (beat 1 true true).pair.hbMx) = true ∧ (beat 0 false true).pair.missed = 0 ∧
    (((beat 1 false true).pair.hbLink || (beat 1 false true).pair.hbMx) = false ∧ 0 < (beat 1 false true).pair.missed ∧
      (beat 1 false true).pair.synced = true) ∧
    ([handOver true, handOver false].all (fun s => decide (s.pair.role = .active) && s.pair.hover && !s.pair.hoverGo &&
      decide (s.frm.count = s.pair.hoverFn))) = true ∧
    ((handOver false).pair.hoverWhy = some (.switch h0) ∧ ((handOver false).hif.pairs[h0.pair]?).map RPair.open_ = some true) ∧
    (let s : State := { roleUp .standby with pair := { (roleUp .standby).pair with hoverAck := true, hoverFn := 99 } }
     s.pair.role = .standby ∧ s.pair.hoverAck = true ∧ s.pair.hoverFn = lastFrame s.toDev ∧
     (List.range 24).all (fun k => decide ((s.ln k).st ≠ 7)) = true) ∧
    (2 ≤ ({ twinUp.pair with splitRun := 2 } : Pair).splitRun) ∧ twinUp.pair.splitRun = 0 ∧
    (let s : State := { pairOn up with st := .starting }
     s.st = .starting ∧ paired s = true ∧ s.pwr.roleDone = false ∧ s.jnl.restored = true) := by
  decide

/-- A joining device at a step. -/
def joinAt (n : Nat) : State := { roleUp .joining with
  pair := { (roleUp .joining).pair with step := n, heardHello := true, gridOk := true }
  pll := { (roleUp .joining).pll with syncDone := true } }
theorem wit_JoiningTakesItsSteps :
    ([1, 2, 3, 4, 5, 6].all (fun n => decide ((joinAt n).pair.role = .joining) && decide ((joinAt n).pair.step = n))) = true ∧
    ((joinAt 1).pair.links.any id = true ∧ (joinAt 1).pair.heardHello = true ∧ (joinAt 1).pair.helloBad = false) ∧
    ((joinAt 2).pll.syncDone = true ∧ (joinAt 2).pair.gridOk = true) ∧ (joinAt 3).pair.imageDone = false ∧
    (joinAt 4).jnl.compact = false ∧ allObserve (joinAt 5) = true ∧
    ((slotsOn (joinAt 6)).length + (joinAt 6).boundL.length ≤ (joinAt 6).pair.rotation ∧
      (joinAt 6).pair.lanes.any (fun x => x.skew) = false) ∧
    ((roleUp .standby).p 0xB003 < (roleUp .standby).p 0xB003 + 1) ∧ twinUp.pair.role ≠ .joining ∧ twinUp.pair.crcRun ≠ 16 ∧
    ({ (roleUp .standby).pair with crcRun := 16 } : Pair).crcRun = 16 := by
  decide

/-! ### Network time, outputs, clocks -/

/-- Port 0 up, domain 0 numbered 24 with a master, domain 1 without; eight peer delays of 800 ns. -/
def ds : MasterDs := { prio1 := 128, cls := 6, accuracy := 0x21, variance := 1, prio2 := 128, identity := 9, steps := 1 }
def net (offs : List Int) (other : Option Int) (v1 : Bool) : State := withP { up with
  time := { Tim.reset with
    ports := [{ TPort.reset with up := true, pd := List.replicate 8 800 }, TPort.reset]
    doms := [{ TDom.reset with master := [some ds, none], offs := offs, ovr := offs.length, valid := true },
      { TDom.reset with theta := other, valid := v1 }] } } [(0xC000, some 24)]
def sync (two : Bool) : SyncMsg :=
  { port := 0, domain := 24, seqId := 3, twoStep := two, origin := 5000, corr := 0, rawG16 := 16 * 204000, logInt := -3 }
theorem wit_NetworkTimeFollowsItsMasters :
    (((net [] none false).port 0).up = true ∧ ((net [] none false).port 1).up = false ∧ domsOf (net [] none false) 24 = [0] ∧
      (net [] none false).time.doms.length = 2 ∧ 0 < ((net [] none false).dom 0).master.length) ∧
    ((net [] none false).dom 0).master.getD 0 none = some ds ∧ ((net [] none false).dom 0).master.getD 1 none = none ∧
    betterDs { ds with identity := 8 } ds = true ∧ betterDs { ds with identity := 10 } ds = false ∧
    (((net [] none false).dom 0).port = (sync true).port ∧ -4 ≤ (sync true).logInt ∧ (sync true).logInt ≤ 0 ∧
      meanPd (net [] none false) 0 = some 800) ∧
    (((net [] none false).dom 0).valid = true ∧ ((net [] none false).dom 1).valid = false) ∧
    (let d := { (net [] none false).dom 0 with pend := [some (sync true), none] }
     d.pend.getD 0 none = some (sync true) ∧ (sync true).seqId = (sync false).seqId) := by
  decide

/-- A peer delay of 500 ns less the port's latencies, and one above the limit. -/
theorem wit_PeerDelaysAreChecked :
    let s := net [] none false
    let d := fun ns : Nat => openDiv 8 (ingress s 0 (16 * (204000 + 2 * ns)) - egress s 0 (16 * 204000) - (700 - 700)) 2
    d 500 ≤ s.pI 0xC009 ∧ s.pI 0xC009 < d 2000 := by
  decide

/-- Eight offsets of 5 ms: the other domain agrees, disagrees, and is not valid, where steps are allowed and not. -/
def stepReady (s : State) : Bool :=
  let x := s.dom s.time.inUse
  decide (8 ≤ x.offs.length) && decide (8 ≤ x.ovr) &&
    (x.offs.take 8).all (fun y => decide (((y - median (x.offs.take 8)).natAbs : Int) ≤ s.pI 0xC003)) &&
    decide (s.time.stepDue = none) && decide (s.time.selDue = none)
theorem wit_StepsAreJudged :
    let big := List.replicate 8 (5000000 : Int)
    ([net big (some 5000000) true, net big (some 0) true, net big none false].all stepReady) = true ∧
    median big = 5000000 ∧ stepReady (net (big.drop 1) none false) = false ∧
    ((5000000 - 5000000 : Int).natAbs : Int) ≤ (net big none true).pI 0xC003 ∧
    ¬ (((0 - 5000000 : Int).natAbs : Int) ≤ (net big none true).pI 0xC003) ∧
    (withP up [(0xC004, some 0)]).p 0xC004 ≠ 1 ∧ (withP up [(0xC004, some 1)]).p 0xC004 = 1 := by
  decide

/-- A single output armed, a periodic one with a pulse up, one idle. -/
def touts (o : TOut) : State := { up with tout := up.tout.set 7 o }
def armed1 : TOut := { TOut.reset with armed := true, mode := 1, target := 205000, width := 100 }
theorem wit_OutputsPulseAndThePllLocks :
    ((touts armed1).tout[7]? = some armed1 ∧ 7 < 8 ∧ armed1.armed = true ∧ armed1.due = none) ∧
    (let o := { armed1 with mode := 2, period := 1000, ends := some 204900 }
     (touts o).tout[7]? = some o ∧ o.ends = some 204900) ∧
    (up.tout[7]? = some TOut.reset ∧ TOut.reset.armed = false ∧ TOut.reset.ends = none) ∧
    (let s : State := { up with pll := Pll.reset }
     s.pll.lock = false ∧ tb s.pwr.on 10 = true ∧ s.pll.armed = false) ∧ up.pll.lock = true ∧ up.pwr.inReset = false ∧
    ({ up.pll with armed := true } : Pll).armed = true := by
  decide

/-! ### Fatal lines, recorders, journal, cores, power -/

/-- Lines with and without a synchronised partner; the temperatures that no variant warns at and that all do. -/
theorem wit_FatalEventsDarkenOrBlock : (up.pwr.inReset = false ∧ partnerSynced up = false) ∧ (active.pwr.inReset = false ∧ partnerSynced active = true) ∧
    (11 ≠ 0 ∧ tb up.pwr.on 11 = true) ∧ tb up.pwr.on 12 = false ∧ up.pwr.warned = false ∧
    2 ≤ (FMsg.ofWord (0x1234667887654321#64).toNat).sev ∧ up.pwr.darkNext = false ∧
    ({ up.pwr with darkNext := true } : Pwr).darkNext = true ∧ State.reset.pwr.inReset = true := by
  decide

theorem wit_TemperaturesAreBounded : tempWarn up ≤ 2000 ∧ 1120 ≤ (2000 : Int) ∧ 1119 < tempWarn up := by
  have h : up.p 0x0401 ≤ 40 := by decide
  unfold tempWarn
  split <;> omega

/-- The recorder in a state with slot 0 recorded, its three triggers allowed, its edge level and mask at 1000, line in use. -/
def rec (st : Nat) (extra : Tab (Option Int)) : State :=
  withP { up with trc := { Trc.reset with st := st } } (extra ++
    [(0xF000, some 1), (0xF015, some 7), (0xF016, some 0), (0xF017, some 0), (0xF018, some 1000), (0xF020, some 2),
     (0xF030, some 0), (0xF040, some 1000), (0xF050, some 1), (0xF052, some 0)])
theorem wit_RecordersTakeTheirEvents :
    ((rec 1 []).trc.st = 1 ∧ (rec 2 []).trc.st = 2 ∧ (rec 2 []).trc.tested < 205000) ∧
    (tb ((rec 2 []).p 0xF015) 0 = true ∧ ((rec 2 []).p 0xF017 ≠ 1 ∧ (rec 2 []).pI 0xF018 ≤ 1000)) ∧
    ¬ (((rec 2 []).p 0xF017 ≠ 1 ∧ (rec 2 []).pI 0xF018 ≤ 999) ∨ ((rec 2 []).p 0xF017 ≠ 0 ∧ (999 : Int) ≤ (rec 2 []).pI 0xF018)) ∧
    ((rec 2 []).p 0xF050 ≠ 0 ∧ ((rec 2 []).pO 0xF052).isSome = true ∧ tb ((rec 2 []).p 0xF015) 2 = true) ∧ up.p 0xF050 = 0 ∧
    ((rec 2 []).trc.masked.getD 0 0 < 205000 ∧ maskOut (rec 2 []) 0 1000 = true ∧ maskOut (rec 2 []) 0 999 = false ∧
      (rec 2 []).p 0xF020 = 2 ∧ tb ((rec 2 []).p 0xF015) 1 = true) ∧
    (maskOut (withP (rec 2 []) [(0xF020, some 1), (0xF030, some 0), (0xF040, some 1000)]) 0 (-1) = true ∧
      (withP (rec 2 []) [(0xF020, some 1)]).p 0xF020 ≠ 2) ∧
    (let s : State := { rec 3 [] with trc := { (rec 3 []).trc with trigWord := some 0, post := (rec 3 []).postN } }
     s.trc.st = 3 ∧ s.trc.trigWord.isSome = true ∧ s.postN ≤ s.trc.post) ∧ (rec 3 []).trc.post < (rec 3 []).postN := by
  decide

theorem wit_FollowersAndTriggers :
    (let s := withP up [(0xF000, some 1), (0xF050, some 2), (0xF051, some 0)]
     pvStored s.toDev 0xF050 = 2 ∧ s.pO 0xF051 ≠ none ∧ s.trc.st = 0 ∧ s.trc.armDue = false ∧ trcNoSrc s = false ∧
     tb s.pwr.on 4 = true) ∧ ({ up.trc with armDue := true } : Trc).armDue = true ∧ pvStored up.toDev 0xF050 ≠ 2 ∧ 3 ≤ 3 ∧ 2 ≤ 3 ∧
    up.evr.queue.length < 64 ∧ up.evr.first < 1024 ∧ 1024 ≤ ({ up.evr with first := 1024 } : Evr).first ∧ up.evr.queue = [] := by
  decide

/-- Record 4 open, in each kind; a command and a reply that wait for it. -/
def jrn (r : JRec) (f1 : Bool) : State := { up with jnl := { up.jnl with recs := [r], f1 := f1 } }
def recBatch : JRec := { recOpen with pl := .batch 1 0 [] }
theorem wit_RecordsCommitAndFlashesFail :
    ([recOpen, recBatch].all (fun r => decide ((jrn r true).jnl.recs.find? (fun r => r.jseq == 4 && r.open_) = some r) &&
      writes0 (jrn r true).jnl r && writes1 (jrn r true).jnl r && (writes0 (jrn r false).jnl r != writes1 (jrn r false).jnl r))) = true ∧
    recBatch.last = true ∧ (jrn recOpen true).jnl.recs.find? (fun r => r.jseq == 5 && r.open_) = none ∧
    (let s : State := { up with jnl := { up.jnl with f0 := false, f1 := false } }
     writes0 s.jnl recOpen = false ∧ writes1 s.jnl recOpen = false) ∧
    (up.jnl.evrClears = [] ∧ up.jnl.syncs = [] ∧ up.hif.openReq = none ∧ up.hif.due = []) ∧
    (let f : Fly := { flying with pair := 0, seq := 7, opcode := 0x0205, packet := pk, basis := 0, jseq := 4 }
     [f].find? (fun f => f.basis == 0 && !f.mirror && f.jseq == 4) = some f ∧ formStatus f.gen f.opcode f.packet = none) ∧
    (let d : Due := { hdr := h0, opcode := 0x0101, data := [], jseq := 4 }
     d.jseq = 4 ∧ (up.hif.pairs[d.hdr.pair]?).map RPair.open_ = some true ∧ acts up = true) ∧
    ((up.jnl.f0 || up.jnl.behind0) = true ∧ (up.jnl.f1 || up.jnl.behind1) = true) ∧
    (jnlTakes up = true ∧ up.jnl.compact = false ∧ 100 * up.jnl.blocks.length < up.p 0x0200 * 2048) ∧
    up.p 0x0200 * 2048 ≤ 100 * 2048 ∧ ({ up.jnl with dirty := 1 } : Jnl).dirty ≠ 0 ∧ up.jnl.dirty = 0 := by
  decide

/-- No payload but those of a batch and of a checkpoint's end is excluded from the plain records. -/
theorem wit_PlainRecords : (∀ a b c, recOpen.pl ≠ .batch a b c) ∧ ∀ b, recOpen.pl ≠ .ckptEnd b := by
  constructor <;> intros <;> simp [recOpen]

/-- Every core busy with a task of its class; a level's list with room, and none left. -/
def task (cls : Nat) : Task := { cls := cls, src := 0, enq := 0, seen := true, used := 0 }
def busy (lvls : List Lvl) : State := { up with sch := { Sch.reset with
  cores := [0, 1, 2, 3].map (fun _ => { Core.reset with task := some (task 0) }), lvls := lvls } }
def full7 : List Lvl := (List.range 8).map (fun l => { Lvl.reset with ready := List.replicate (if l = 0 then 464 else if l < 5 then 0 else 16) (task 0) })
theorem wit_CoresTakeAndReleaseTasks : 8 < 9 ∧ tb up.pwr.on 3 = true ∧ tb State.reset.pwr.on 3 = false ∧
    ((List.range 9).all (fun c => decide (classLevel c < up.sch.lvls.length))) = true ∧
    ((busy Sch.reset.lvls).lvl (classLevel 8)).spill = [] ∧ slotFree (busy Sch.reset.lvls) (classLevel 8) = true ∧
    ([0, 1, 2, 3].all (fun i => ((busy Sch.reset.lvls).core i).task.isSome)) = true ∧
    slotFree (busy full7) 0 = false ∧ slotFree (busy full7) 7 = false ∧ spilled (busy full7) < 8192 := by
  decide

theorem wit_CoresAndSpills :
    ((List.range 9).any (fun c => decide (victim (busy Sch.reset.lvls) c (classLevel c) = none))) = true ∧
    (spillMode (withP up [(0x0300, some 1)]) 0 = true ∧ spillMode (withP up [(0x0307, some 0)]) 7 = false) ∧
    ((List.range 8).all (fun i => decide ((up.lvl i).ready = []) && decide ((up.lvl i).spill = []))) = true ∧
    (classCores 0).length ≠ 0 ∧ up.sch.cores.length = 4 ∧ ((busy full7).core 3).task.isSome = true ∧ (up.core 3).task = none := by
  decide

/-- Two domains to switch and the last; a calibration and a start-up under a power failure; the sequence running. -/
def switching (todo : List Nat) : State := { up with pwr := { up.pwr with switching := some { hdr := h0, on := false, todo := todo } } }
theorem wit_PowerDomainsAndPowerFailsAreFollowed :
    ((switching [8]).pwr.switching = some { hdr := h0, on := false, todo := [8] } ∧ ((switching [8]).hif.pairs[h0.pair]?).map RPair.open_ = some true ∧
      acts (switching [8]) = true ∧ (switching [8]).adc.cal = none ∧ (switching [8]).hif.held = []) ∧
    (switching [5, 6, 7]).pwr.switching = some { hdr := h0, on := false, todo := 5 :: 6 :: [7] } ∧ up.pwr.switching = none ∧
    (State.reset.pwr.inReset = true ∧ up.pwr.inReset = false) ∧
    (let s : State := { calRun with jnl := Jnl.reset }
     s.adc.cal = some (h0, 0x0C00, 1000, 1) ∧ s.jnl.restored = false ∧ acts s = true ∧ s.pwr.inReset = false) ∧
    (let s : State := { up with jnl := { Jnl.reset with restored := true } }
     s.adc.cal = none ∧ s.jnl.restored = true ∧ s.jnl.pwrFail ≠ 1 ∧ s.jnl.recs.filter JRec.open_ = [] ∧ s.jnl.compact = false ∧
     s.jnl.f0 = false ∧ s.jnl.f1 = false ∧ s.hif.fly = [] ∧ s.hif.due = []) ∧
    (let s : State := { up with jnl := { up.jnl with pwrFail := 1 } }
     s.st ≠ .starting ∧ s.jnl.pwrFail = 1 ∧ pendingSeqs s = []) ∧
    (let s : State := { up with st := .starting, pwr := { up.pwr with stopped := true } }
     s.st = .starting ∧ s.pwr.stopped = true ∧ s.pwr.inReset = false ∧ s.jnl.pwrFail ≠ 1 ∧ s.pwr.paused = false) := by
  decide

/-! ### The worked examples of the manual -/

/-- R24 and its example: 264 cells a rod, 132 a lane, 144 sections; with eight spares. -/
theorem test_computation_time : tcOf 264 132 144 = 645 ∧ tcOf 272 136 144 = 659 ∧ budgetOf 0 = 895 ∧ budgetOf 1 = 1919 := by
  decide

/-- The check values over "123456789" of R114 and R254. -/
def digits : List Byte := [0x31, 0x32, 0x33, 0x34, 0x35, 0x36, 0x37, 0x38, 0x39]
theorem test_crc : crc32c digits = 0xE3069283 ∧ crc8 digits = 0xF4 := by decide

/-- The calibration of channel 37 and the correction of 10,000 (chapter 2). -/
theorem test_calibration : calFact { ch := 37, zero := 38 * 4096 + 2048, pos := 26160 * 16384, neg := -26083 * 16384 } =
    some { ofs := 616, gain := 33700, cal := true } ∧
    (correct { ofs := 616, gain := 33700, cal := true } 10000).1 = 9997 := by decide

/-- The ramp of P and Q at 2.048 µs (chapter 3). -/
theorem test_ramp_duration :
    let s := withP up [(0x1000, some 1), (0x3100, some 6711), (0x3101, some 13422)]
    let e : RampArgs := { group := 0, mask := 3, mode := 0, blend := 0, minDur := 0, start := 0, targets := [1500000, -100000] }
    spDur s 0 e (spDist s 0 e [500000, 200000]) = 4882730 := by decide

/-- The first window of the report interval (chapter 6): 733,007,752 less the load of 0.0000011 V, in 2^−32 V. -/
theorem test_observer_window :
    let e : Entry := { cell 0 17 2 with cNom := 18000, cEst := 1179648000, lev := [(0, 1)] }
    dvWin (withP up [(0x5020, some 10)]) e 0 2048 { t0 := 0, t1 := 2048, cur := [96000], valid := [true] } = 733007752 - 4887 := by
  decide

/-- Rod 0 in frames n and n+2 of the modulation example (chapter 8), and its dither. -/
theorem test_modulation :
    (let d := demandOf 4243700 false 2048 35200 0 264 0 150 100
     d.t = 3950499 ∧ d.np = 120 ∧ d.nn = 0 ∧ d.ps = 1 ∧ d.w = 18339) ∧
    (let d := demandOf 4243700 false 2048 35200 (-200) 264 0 150 100
     carryOf 8691097600 35200 3950499 100000000 = (-200, false) ∧ d.np = 120 ∧ d.w = 18339) ∧
    ditherWidth true 5 18339 = 1146 ∧ ditherWidth true 0 18339 = 1147 ∧ ditherWidth true 4 18339 = 1147 ∧
    ditherWidth true 8 18339 = 1147 := by decide

/-- The weave schedule and the ranging of entry 41 (chapter 10). -/
theorem test_weave_and_ranging : fcOf 3 1 (some 131) = 3 ∧ wdOf 3 1 1100 = 3 ∧ rangeDelay 3 33924 0 224 56 0 = 14456 := by
  decide

end Sys2Proof.Tests
end

/-! The frame of the commands: the grid and the publication, the rim's counter, parameter writes, the completion monitor,
and the doorbells. -/

namespace Sys2Proof

open Sys2Proof.Machine

/-! ### What a command does -/

/-- What a command does, it does in the weaker terms too. -/
theorem Does.imp {c : Instr} {s : State} {P Q : State → Prop} (hd : Does c s P) (h : ∀ t, P t → Q t) :
    Does c s Q := by
  obtain ⟨t, ht, hP⟩ := hd
  exact ⟨t, ht, h t hP⟩

/-- A command does what its effect, with the pins that follow, does. -/
theorem does_effect {c : Instr} {s x : State} {P : State → Prop} (he : effect c { s with out := [] } = x)
    (hP : P (settle x)) : Does c s P := by
  subst he
  exact ⟨_, exec_effect c s, hP⟩

/-- A report stands as long as the collector stays. -/
theorem Reported.of_flt {blk inst kind : Nat} {s x y : State} (h : Reported blk inst kind s x) (hy : y.flt = x.flt) :
    Reported blk inst kind s y := by
  unfold Reported isActive at h ⊢
  rw [hy]
  exact h

/-- What is reported before the pins follow is reported after. -/
theorem Reported.settled {blk inst kind : Nat} {s x y : State} (h : Reported blk inst kind x y) (hx : x.flt = s.flt) :
    Reported blk inst kind s (settle y) :=
  ⟨by rw [← hx]; exact h.1, h.2⟩

/-! ### The grid and the publication (R13–R16, R29, R362) -/

/-- The commands that may move the frame counter, the grid or the publication: the rim, the adoption of the partner's
grid, and the resets. -/
def movesGrid : Instr → Bool
  | .rim _ | .syncInEdge .. | .powerOn | .powerLoss | .boardReset | .devRestartExpire | .fatalRestart _ => true
  | _ => false

theorem movesGrid_eq_false (c : Instr) (hrim : ∀ inp, c ≠ .rim inp) (hsync : ∀ a n w g, c ≠ .syncInEdge a n w g)
    (hon : c ≠ .powerOn) (hloss : c ≠ .powerLoss) (hreset : c ≠ .boardReset) (hexpire : c ≠ .devRestartExpire)
    (hfatal : ∀ n, c ≠ .fatalRestart n) : movesGrid c = false := by
  unfold movesGrid
  split
  · exact absurd rfl (hrim _)
  · exact absurd rfl (hsync _ _ _ _)
  · exact absurd rfl hon
  · exact absurd rfl hloss
  · exact absurd rfl hreset
  · exact absurd rfl hexpire
  · exact absurd rfl (hfatal _)
  · rfl

/-- Every other command is made of operations that each keep the grid and the publication. -/
theorem effect_keeps_grid_pub (c : Instr) (s : State) (hc : movesGrid c = false) :
    (keep (effect c s)).grid = (keep s).grid ∧ (keep (effect c s)).pub = (keep s).pub := by
  cases c with
  | rim | syncInEdge | powerOn | powerLoss | boardReset | devRestartExpire | fatalRestart => cases hc
  | _ => simp [effect]

/-- What a command keeps, its effect keeps. -/
theorem keep_of_exec {c : Instr} {s t : State} (h : exec c s = .next t) :
    keep t = keep (effect c { s with out := [] }) := by
  rw [exec_effect] at h
  cases h
  exact settle_keep _

/-- Settles O7: a command's effect that is none of the exceptions keeps the grid and the publication, and so does what
surrounds it. -/
theorem gridAndPublicationMoveAtRims : Obligations.GridAndPublicationMoveAtRims := by
  intro c s t h hrim hsync hon hloss hreset hexpire hfatal
  have hc := movesGrid_eq_false c hrim hsync hon hloss hreset hexpire hfatal
  have ⟨hg, hp⟩ := effect_keeps_grid_pub c { s with out := [] } hc
  rw [← keep_of_exec h] at hg hp
  have ⟨hcount, hwrap, hgrid, hrims⟩ := Grid.mk.inj hg
  exact ⟨hcount, hwrap, hgrid, hrims, hp⟩

/-- The grid after a rim, from what it was before: the first rim begins the frame that stands in the counter, every
other ends its frame (R14, R16). -/
def gridAfterRim (k : Kept) : Grid :=
  if k.grid.rims = 0 then { k.grid with rims := 1 }
  else
    let n := (k.grid.count + 1) % 2 ^ 48
    { count := n
      wrap := if n = 0 then min (k.grid.wrap + 1) 0xFFFF else k.grid.wrap
      g := k.grid.g + k.len
      rims := k.grid.rims + 1 }

theorem rimAdvance_grid (s : State) : (keep (rimAdvance s)).grid = gridAfterRim (keep s) := by
  by_cases h : s.frm.rims = 0 <;> simp [rimAdvance, gridAfterRim, ← grid_eq, ← len_eq, satAdd, h]

theorem rimOpen_grid (inp : RimIn) (s : State) : (keep (rimOpen inp s)).grid = gridAfterRim (keep s) := by
  by_cases h : s.frm.rims = 0 <;> simp [rimOpen, rimAdvance_grid, h]

/-- A rim of a device whose time base runs moves its grid on. -/
theorem rim_grid (inp : RimIn) (s : State) (harmed : s.frm.armed = true) (hreset : s.pwr.inReset = false)
    (hoff : s.st ≠ .off) : (keep (rim inp s)).grid = gridAfterRim (keep s) := by
  have hruns : ¬ (s.frm.armed = false ∨ s.pwr.inReset = true ∨ s.st = .off) := by simp [harmed, hreset, hoff]
  simp only [rim, hruns, if_false]
  simp [rimOpen_grid]

theorem rim_does (inp : RimIn) (s : State) (harmed : s.frm.armed = true) (hreset : s.pwr.inReset = false)
    (hoff : s.st ≠ .off) : Does (.rim inp) s (fun t => (keep t).grid = gridAfterRim (keep s)) :=
  does_effect rfl ((congrArg Kept.grid (settle_keep _)).trans (rim_grid inp { s with out := [] } harmed hreset hoff))

/-- Settles O9: the grid of a rim after the first. -/
theorem rimAdvancesTheFrame : Obligations.RimAdvancesTheFrame := by
  intro inp s harmed hreset hoff hrims
  refine (rim_does inp s harmed hreset hoff).imp fun t ht => ?_
  have hk : (keep s).grid.rims ≠ 0 := hrims
  rw [gridAfterRim, if_neg hk] at ht
  have ⟨hcount, hwrap, hgrid, hrims'⟩ := Grid.mk.inj ht
  exact ⟨hcount, hwrap, hgrid, hrims'⟩

/-- Settles O10: the grid of the first rim. -/
theorem firstRimBeginsFrameZero : Obligations.FirstRimBeginsFrameZero := by
  intro inp s harmed hreset hoff hrims
  refine (rim_does inp s harmed hreset hoff).imp fun t ht => ?_
  have hk : (keep s).grid.rims = 0 := hrims
  rw [gridAfterRim, if_pos hk] at ht
  have ⟨hcount, hwrap, hgrid, hrims'⟩ := Grid.mk.inj ht
  exact ⟨hcount, hwrap, hgrid, hrims'⟩

/-! ### Parameter writes (R403, R404, R409) -/

/-- A parameter write of at most `limit` entries. -/
def limitedWrite (c : Ctx) (single : Bool) (limit : Nat) (es : List (Nat × Int)) (s : State) : State :=
  if limit < es.length then refuse c 0x0203 s else paramWrite c single es s

/-- A parameter write is limited to 512 entries of itself. -/
theorem limitedWrite_512 (c : Ctx) (single : Bool) (es : List (Nat × Int)) :
    limitedWrite c single 512 es = paramWrite c single es := by
  funext s
  unfold limitedWrite
  split
  · next h => exact (if_pos (.inr h)).symm
  · rfl

theorem limitedWrite_held (c : Ctx) (single : Bool) (limit : Nat) (es : List (Nat × Int)) (s : State) :
    heldOf (limitedWrite c single limit es s) = heldOf s := by
  unfold limitedWrite
  split
  · exact refuse_held ..
  · exact paramWrite_held ..

/-- The write that waits once it has passed the checks (R403). -/
def waitingWrite (h : CmdHdr) (op : Nat) (single : Bool) (es : List (Nat × Int)) (s : State) : PWrite :=
  { hdr := h, opcode := op, entries := es, single := single
    forced := h.force && es.any (fun e => crossShort s (standWith s es) e.1 e.2), rim := writeRim s es }

/-- The execution offset that stands announced after a write (R184). -/
def announcedTx (es : List (Nat × Int)) (s : State) : Option (Nat × Nat) :=
  ((es.find? (fun e => e.1 == 0x7000)).map (fun e =>
    (e.2.toNat, (s.frm.count + (writeRim s es - s.frm.rims)) % 2 ^ 48))).orElse (fun _ => s.fir.txNew)

/-- What a write leaves that has passed the checks. -/
def writeTaken (h : CmdHdr) (op : Nat) (single : Bool) (es : List (Nat × Int)) (s : State) : State :=
  { s with
    params := { s.params with waits := s.params.waits ++ [waitingWrite h op single es s] }
    fir := { s.fir with txNew := announcedTx es s } }

section
variable {h : CmdHdr} {op limit : Nat} {single : Bool} {es : List (Nat × Int)} {s : State}

theorem limitedWrite_ok (hne : es ≠ []) (hl : es.length ≤ limit) (h512 : limit ≤ 512)
    (hok : writeBad s es h.force = none) :
    limitedWrite { h := h, op := op } single limit es s = writeTaken h op single es s := by
  have hsize : ¬ (es = [] ∨ 512 < es.length) := 
    not_or.mpr ⟨hne, Nat.not_lt.mpr (Nat.le_trans hl h512)⟩
  simp only [limitedWrite, paramWrite, Nat.not_lt.mpr hl, hsize, if_false, hok]
  rfl

theorem limitedWrite_bad (hne : es ≠ []) (hl : es.length ≤ limit) (h512 : limit ≤ 512) {st i k : Nat}
    (hbad : writeBad s es h.force = some (st, i, k)) :
    limitedWrite { h := h, op := op } single limit es s =
      finish { h := h, op := op } st (if single then [] else leBytes 2 i ++ leBytes 2 k) s := by
  have hsize : ¬ (es = [] ∨ 512 < es.length) := 
    not_or.mpr ⟨hne, Nat.not_lt.mpr (Nat.le_trans hl h512)⟩
  simp only [limitedWrite, paramWrite, Nat.not_lt.mpr hl, hsize, if_false, hbad]

theorem limitedWrite_size (c : Ctx) (hsize : es = [] ∨ limit < es.length) :
    limitedWrite c single limit es s = finish c 0x0203 [] s := by
  unfold limitedWrite
  split
  · rfl
  · next hl => exact if_pos (.inl (hsize.resolve_right hl))

/-- The checks of a write do not see what stands before its own effect begins. -/
theorem writeBad_taken (c : Ctx) (f : Bool) : writeBad (taken c { s with out := [] }) es f = writeBad s es f := by
  obtain ⟨_, _, _, _, _, ht⟩ := began c s
  rw [ht]
  rfl

/-- The command is a parameter write of at most `limit` entries. -/
def IsWrite (c : Instr) (op : Nat) (h : CmdHdr) (single : Bool) (limit : Nat) (es : List (Nat × Int)) : Prop :=
  limit ≤ 512 ∧
    effect c = fun x =>
      runHeld (hostCmd c { h := h, op := op } stUp (limitedWrite { h := h, op := op } single limit es) x)

theorem isWrite_paramSet (h : CmdHdr) (id : Nat) (v : Int) : IsWrite (.paramSet h id v) 0x0101 h true 512 [(id, v)] :=
  ⟨Nat.le_refl _, rfl⟩

theorem isWrite_fcs1SetParam (h : CmdHdr) (id : Nat) (v : Int) :
    IsWrite (.fcs1SetParam h id v) 0x10011 h true 512 [(id, v)] := ⟨Nat.le_refl _, rfl⟩

theorem isWrite_paramBlockSet (h : CmdHdr) (es : List (Nat × Int)) :
    IsWrite (.paramBlockSet h es) 0x0102 h false 512 es := ⟨Nat.le_refl _, by rw [limitedWrite_512]; rfl⟩

theorem isWrite_fcs1LoadParams (h : CmdHdr) (es : List (Nat × Int)) :
    IsWrite (.fcs1LoadParams h es) 0x10012 h false 255 es := ⟨by omega, rfl⟩

/-- A write that passes the checks waits for its rim, without a reply. -/
theorem IsWrite.waits {c : Instr} (hw : IsWrite c op h single limit es) (m : MayRun op h stUp s) (hne : es ≠ [])
    (hl : es.length ≤ limit) (hok : writeBad s es h.force = none) :
    Does c s (fun t =>
      engines t = engines (writeTaken h op single es s) ∧ repliesOf t h.pair = repliesOf s h.pair) := by
  obtain ⟨h512, he⟩ := hw
  refine ⟨_, host_next c op h stUp _ s he m (limitedWrite_held _ _ _ _), ?_⟩
  rw [limitedWrite_ok hne hl h512 ((writeBad_taken _ _).trans hok)]
  obtain ⟨_, _, _, _, _, ht⟩ := began { h := h, op := op } s
  rw [ht]
  exact ⟨rfl, rfl⟩

/-- A write that a check refuses answers the check's status, and nothing changes. -/
theorem IsWrite.refused {c : Instr} (hw : IsWrite c op h single limit es) (m : MayRun op h stUp s) (hne : es ≠ [])
    (hl : es.length ≤ limit) (ho : PairOpen s h.pair) (ha : acts s = true) {st i k : Nat}
    (hbad : writeBad s es h.force = some (st, i, k)) :
    Does c s (fun t =>
      Answers op h st (if single then [] else leBytes 2 i ++ leBytes 2 k) s t ∧ engines t = engines s) := by
  obtain ⟨h512, he⟩ := hw
  exact host_answers c op h stUp _ s he m (limitedWrite_held _ _ _ _) ho (by simp [Delivers, ha]) st _
    (limitedWrite_bad hne hl h512 ((writeBad_taken _ _).trans hbad))

/-- A write of no entries or of too many is refused, and nothing changes. -/
theorem IsWrite.sized {c : Instr} (hw : IsWrite c op h single limit es) (m : MayRun op h stUp s)
    (hsize : es = [] ∨ limit < es.length) (ho : PairOpen s h.pair) (ha : acts s = true) :
    Does c s (fun t => Answers op h 0x0203 [] s t ∧ engines t = engines s) :=
  host_answers c op h stUp _ s hw.2 m (limitedWrite_held _ _ _ _) ho (by simp [Delivers, ha]) _ _
    (limitedWrite_size _ hsize)

end

/-- Settles O16: the four commands are one limited write, which waits or answers as its checks give. -/
theorem writesAreCheckedAndWait : Obligations.WritesAreCheckedAndWait := by
  intro s h es id v
  refine ⟨fun x hx m => ?_, fun x hx m => ?_⟩
  · have hw : IsWrite x.1 x.2 h true 512 [(id, v)] := by
      simp only [List.mem_cons, List.not_mem_nil, or_false] at hx
      rcases hx with rfl | rfl
      · exact isWrite_paramSet h id v
      · exact isWrite_fcs1SetParam h id v
    have hne : [(id, v)] ≠ [] := List.cons_ne_nil _ _
    have hl : [(id, v)].length ≤ 512 := by simp
    exact ⟨hw.waits m hne hl, fun st i k hbad ho ha => hw.refused m hne hl ho ha hbad⟩
  · have hw : IsWrite x.1 x.2.1 h false x.2.2 es := by
      simp only [List.mem_cons, List.not_mem_nil, or_false] at hx
      rcases hx with rfl | rfl
      · exact isWrite_paramBlockSet h es
      · exact isWrite_fcs1LoadParams h es
    exact ⟨fun hne hl => hw.waits m hne hl, fun ho ha =>
      ⟨fun st i k hne hl hbad => hw.refused m hne hl ho ha hbad, fun hsize => hw.sized m hsize ho ha⟩⟩

/-! ### What a raise leaves alone -/

theorem raise_frm (blk inst kind detail : Nat) (s : State) : (raise blk inst kind detail s).frm = s.frm :=
  congrArg Engines.frm (raise_eng blk inst kind detail s)

theorem raise_st (blk inst kind detail : Nat) (s : State) : (raise blk inst kind detail s).st = s.st :=
  congrArg Engines.st (raise_eng blk inst kind detail s)

/-- A report that is to be made is made. -/
theorem raiseIf_reported {c : Bool} (h : c = true) (blk inst kind detail : Nat) (s : State) :
    Reported blk inst kind s (raiseIf c blk inst kind detail s) := by
  subst h
  exact raise_reported blk inst kind detail s

/-- A report that is not to be made leaves the count of messages. -/
theorem raiseIf_quiet {c : Bool} (h : c = false) (blk inst kind detail : Nat) (s : State) :
    (raiseIf c blk inst kind detail s).flt.total = s.flt.total := by
  subst h
  rfl

/-- Where the blocks of the converter are as before but for the frame engine's, the frame engine's is the one that
stands. -/
theorem engines_but_frm {s t : State} {f : FrmBlock} (h : engines t = { engines s with frm := f }) :
    engines t = { engines s with frm := t.frm } := by
  have hf : t.frm = f := congrArg Engines.frm h
  rw [hf, h]

/-! ### FABRIC_COMPLETE (R20–R22, R39) -/

/-- The slack of a work that completes at `time`. -/
def slackOf (w : Work) (time : Nat) : Int :=
  if (match w.next with | some g => decide (g ≤ time) | none => false) = true then -32768
  else max (-32768) (min 32767 ((w.guard : Int) - time))

/-- The durations of the stages as they are kept. -/
def stageTimes (stages : List Nat) : List Nat :=
  (List.range 7).map (fun i => if i = 0 then 60 else min 0xFFFF (stages.getD i 0))

/-- The frame engine after the completion of work `w` at `time`, before the works `more`. -/
def completed (time : Nat) (stages : List Nat) (w : Work) (more : List Work) (s : State) : FrmBlock :=
  { s.frm with
    work := more, slackLast := slackOf w time, slackMin := min s.frm.slackMin (slackOf w time),
    stLast := stageTimes stages,
    stMax := (List.range 7).map (fun i => max (s.frm.stMax.getD i 0) ((stageTimes stages).getD i 0)),
    slackLow := satAdd 32 s.frm.slackLow (b2n (decide (slackOf w time < (s.p 0x1001 : Int)))),
    done := if w.n = s.frm.count then some time else s.frm.done }

theorem fabricComplete_work (time : Nat) (stages : List Nat) (s : State) (w : Work) (more : List Work)
    (h : s.frm.work = w :: more) : fabricComplete time stages s =
      raiseIf (decide (slackOf w time < (s.p 0x1001 : Int)) && decide (s.p 0x1001 ≠ 0)) 1 0 3 0
        { s with now := max s.now time, frm := completed time stages w more s } := by
  unfold fabricComplete
  rw [h]
  rfl

theorem fabricComplete_idle (time : Nat) (stages : List Nat) (s : State) (h : s.frm.work = []) :
    fabricComplete time stages s = s := by
  unfold fabricComplete
  rw [h]

theorem stageTimes_length (stages : List Nat) : (stageTimes stages).length = 7 := by simp [stageTimes]

theorem stageTimes_zero (stages : List Nat) : (stageTimes stages).getD 0 0 = 60 := rfl

theorem getD_map_range {n i : Nat} (f : Nat → Nat) (h : i < n) : ((List.range n).map f).getD i 0 = f i := by
  simp [List.getD, h]

theorem stageTimes_getD (stages : List Nat) (i : Nat) (h1 : 1 ≤ i) (h7 : i < 7) :
    (stageTimes stages).getD i 0 = min 0xFFFF (stages.getD i 0) := by
  rw [stageTimes, getD_map_range _ h7, if_neg (by omega)]

/-- The completion of the oldest work changes the frame engine, and reports a low slack where it is to. -/
theorem fabricComplete_does (time : Nat) (stages : List Nat) (s : State) (w : Work) (more : List Work)
    (h : s.frm.work = w :: more) :
    Does (.fabricComplete time stages) s (fun t =>
      engines t = { engines s with frm := completed time stages w more s } ∧
      (slackOf w time < (s.p 0x1001 : Int) → s.p 0x1001 ≠ 0 → Reported 1 0 3 s t) ∧
      (¬ slackOf w time < (s.p 0x1001 : Int) ∨ s.p 0x1001 = 0 → t.flt.total = s.flt.total)) := by
  refine does_effect (fabricComplete_work time stages { s with out := [] } w more h)
    ⟨(settle_eng _).trans (raiseIf_eng ..), fun hlow hwarn => ?_, fun hquiet => ?_⟩
  · have hc : (decide (slackOf w time < (s.p 0x1001 : Int)) && decide (s.p 0x1001 ≠ 0)) = true := by
      simp [hlow, hwarn]
    exact Reported.settled (raiseIf_reported hc 1 0 3 0 _) rfl
  · have hc : (decide (slackOf w time < (s.p 0x1001 : Int)) && decide (s.p 0x1001 ≠ 0)) = false := by
      rcases hquiet with hhigh | hoff <;> simp [*]
    exact raiseIf_quiet hc 1 0 3 0 _

/-! ### FRM_GUARD (R21, R33) -/

theorem frmGuard_idle (s : State) (h : s.frm.run = false ∨ s.frm.rims = 0 ∨ s.frm.judged.isSome = true) :
    frmGuard s = s := if_pos h

theorem frmGuard_good (s : State) (hrun : s.frm.run = true) (hrims : s.frm.rims ≠ 0) (hj : s.frm.judged = none)
    (td : Nat) (hd : s.frm.done = some td) (ht : td + 128 < s.frm.g + s.frm.len) :
    frmGuard s = { s with frm := { s.frm with judged := some true, consec := 0 } } := by
  have hg : td < guardOf s := by unfold guardOf; omega
  simp [frmGuard, hrun, hrims, hj, hd, hg]

theorem frmGuard_late (s : State) (hrun : s.frm.run = true) (hrims : s.frm.rims ≠ 0) (hj : s.frm.judged = none)
    (ht : ∀ td, s.frm.done = some td → s.frm.g + s.frm.len ≤ td + 128) (h128 : 128 ≤ s.frm.g + s.frm.len) :
    frmGuard s = overrun s := by
  cases hd : s.frm.done with
  | none => simp [frmGuard, hrun, hrims, hj, hd]
  | some td =>
    have hg : ¬ td < guardOf s := by have := ht td hd; unfold guardOf; omega
    simp [frmGuard, hrun, hrims, hj, hd, hg]

/-- The frame engine after an overrun with the stage `late` still at work. -/
def overrunFrm (late : Nat) (s : State) : FrmBlock :=
  { s.frm with
    judged := some false, overruns := satAdd 32 s.frm.overruns 1, ovrLast := s.frm.count % 2 ^ 32, stageLate := late,
    consec := min 2 (s.frm.consec + 1), ovr2Due := decide (1 ≤ s.frm.consec) }

theorem overrun_eq (s : State) :
    ∃ late, overrun s = raise 1 0 1 0 { s with free := s.free + 1, frm := overrunFrm late s } := ⟨_, rfl⟩

/-- A work that is not complete before the guard is an overrun, which is reported. -/
theorem frmGuard_overruns (s : State) (hrun : s.frm.run = true) (hrims : s.frm.rims ≠ 0) (hj : s.frm.judged = none)
    (ht : ∀ td, s.frm.done = some td → s.frm.g + s.frm.len ≤ td + 128) (h128 : 128 ≤ s.frm.g + s.frm.len) :
    Does .frmGuard s (fun t =>
      Reported 1 0 1 s t ∧ ∃ late, engines t = { engines s with frm := overrunFrm late s }) := by
  obtain ⟨late, hl⟩ := overrun_eq { s with out := [] }
  exact does_effect ((frmGuard_late { s with out := [] } hrun hrims hj ht h128).trans hl)
    ⟨Reported.settled (raise_reported 1 0 1 0 _) rfl, late, (settle_eng _).trans (raise_eng ..)⟩

/-! ### FRM_OVERRUN2 (R34) -/

/-- The state once the second overrun has been taken and reported. -/
def overrunTold (s : State) : State := raise 1 0 2 0 { s with frm := { s.frm with ovr2Due := false, ovrFault := true } }

theorem overrunTold_frm (s : State) : (overrunTold s).frm = { s.frm with ovr2Due := false, ovrFault := true } :=
  raise_frm ..

theorem overrunTold_st (s : State) : (overrunTold s).st = s.st := raise_st ..

theorem overrunTold_pair (s : State) : (overrunTold s).pair = s.pair := raise_pair ..

theorem overrunTold_acts (s : State) : acts (overrunTold s) = acts s :=
  acts_role s _ (congrArg Pair.role (overrunTold_pair s))

theorem overrunTold_synced (s : State) : partnerSynced (overrunTold s) = partnerSynced s := by
  simp only [partnerSynced, overrunTold_pair]

theorem overrunTold_engines (s : State) :
    engines (overrunTold s) = { engines s with frm := { s.frm with ovr2Due := false, ovrFault := true } } :=
  raise_eng ..

theorem overrunTold_reported (s : State) : Reported 1 0 2 s (overrunTold s) :=
  raise_reported 1 0 2 0 { s with frm := { s.frm with ovr2Due := false, ovrFault := true } }

theorem frmOverrun2_idle (s : State) (h : s.frm.ovr2Due = false) : frmOverrun2 s = s := if_pos h

/-- What the reaction to a second overrun is, once it is told. -/
theorem frmOverrun2_due (s : State) (h : s.frm.ovr2Due = true) : frmOverrun2 s =
    (if acts s = false then overrunTold s
    else if s.st = .safeStop then injectSafeBlock 7 0 (overrunTold s).now (overrunTold s)
    else if s.st ≠ .running then overrunTold s
    else if s.pair.role = .active ∧ partnerSynced s = true then askHandover .overrun (overrunTold s)
    else injectSafeBlock 7 0 (overrunTold s).now (overrunTold s)) := by
  rw [← overrunTold_acts, ← overrunTold_st, ← overrunTold_synced, ← overrunTold_pair]
  exact if_neg (by simp [h])

/-- A device that does not act, and one in another state than RUNNING and SAFE_STOP, only reports. -/
theorem frmOverrun2_reports (s : State) (hdue : s.frm.ovr2Due = true)
    (h : acts s = false ∨ (s.st ≠ .safeStop ∧ s.st ≠ .running)) : frmOverrun2 s = overrunTold s := by
  rw [frmOverrun2_due s hdue]
  rcases h with ha | ⟨hstop, hrun⟩
  · rw [if_pos ha]
  · rw [if_neg hstop, if_pos hrun, ite_self]

/-- In SAFE_STOP, and in RUNNING without a synchronised partner, Safe Block starts. -/
theorem frmOverrun2_blocks (s : State) (hdue : s.frm.ovr2Due = true) (ha : acts s = true)
    (h : s.st = .safeStop ∨ (s.st = .running ∧ ¬ (s.pair.role = .active ∧ partnerSynced s = true))) :
    frmOverrun2 s = injectSafeBlock 7 0 (overrunTold s).now (overrunTold s) := by
  rw [frmOverrun2_due s hdue, if_neg (by simp [ha])]
  rcases h with hstop | ⟨hrun, htwin⟩
  · rw [if_pos hstop]
  · rw [if_neg (by simp [hrun]), if_neg (not_not_intro hrun), if_neg htwin]

/-- In RUNNING with a synchronised partner a hand-over is asked for. -/
theorem frmOverrun2_asks (s : State) (hdue : s.frm.ovr2Due = true) (hrun : s.st = .running)
    (htwin : s.pair.role = .active ∧ partnerSynced s = true) :
    frmOverrun2 s = askHandover .overrun (overrunTold s) := by
  have ha : acts s = true := by simp [acts, htwin.1]
  rw [frmOverrun2_due s hdue, if_neg (by simp [ha]), if_neg (by simp [hrun]), if_neg (not_not_intro hrun), if_pos htwin]

/-- After a hand-over is asked for, one is asked for or under way. -/
theorem askHandover_open (w : HoverWhy) (s : State) :
    (askHandover w s).pair.hoverReq.isSome = true ∨ (askHandover w s).pair.hover = true := by
  unfold askHandover
  split
  · assumption
  · exact Or.inl rfl

/-- Asking for a hand-over leaves the collector. -/
theorem askHandover_flt (w : HoverWhy) (s : State) : (askHandover w s).flt = s.flt := by
  unfold askHandover
  split <;> rfl

/-! ### Safe Block by the injected path (R301) -/

theorem injectSafeBlock_flt (cause detail t : Nat) (s : State) : (injectSafeBlock cause detail t s).flt = s.flt := by
  obtain ⟨_, _, _, _, _, h⟩ := injectSafeBlock_eq cause detail t s
  rw [h]

theorem injectSafeBlock_frm (cause detail t : Nat) (s : State) : (injectSafeBlock cause detail t s).frm = s.frm := by
  obtain ⟨_, _, _, _, _, h⟩ := injectSafeBlock_eq cause detail t s
  rw [h]

theorem injectSafeBlock_sbLatch (cause detail t : Nat) (s : State) :
    (injectSafeBlock cause detail t s).trp.sbLatch = true := by
  obtain ⟨_, _, _, _, _, h⟩ := injectSafeBlock_eq cause detail t s
  rw [h]

/-- In the states that it acts from, it is due. -/
theorem injectSafeBlock_due (cause detail t : Nat) (s : State)
    (hst : s.st = .ready ∨ s.st = .blocked ∨ s.st = .running ∨ s.st = .safeStop) :
    (injectSafeBlock cause detail t s).sbk.injDue.isSome = true := by
  obtain ⟨_, _, _, _, _, h⟩ := injectSafeBlock_eq cause detail t s
  rw [h]
  simp only [if_pos hst]
  cases s.sbk.injDue <;> rfl

theorem injectSafeBlock_engines (cause detail n : Nat) (s : State) :
    let t := injectSafeBlock cause detail n s
    engines t = { engines s with trp := t.trp, sbk := t.sbk, cells := t.cells, cev := t.cev, rnk := t.rnk } := by
  obtain ⟨_, _, _, _, _, h⟩ := injectSafeBlock_eq cause detail n s
  rw [h]
  rfl

/-- What the start of Safe Block by a second overrun leaves. -/
def OverrunBlocks (s t : State) : Prop :=
  (Reported 1 0 2 s t ∧ t.frm = { s.frm with ovr2Due := false, ovrFault := true }) ∧
    t.trp.sbLatch = true ∧ t.sbk.injDue.isSome = true ∧ Acted t ∧
    engines t = { engines s with frm := t.frm, trp := t.trp, sbk := t.sbk, cells := t.cells, cev := t.cev, rnk := t.rnk }

theorem overrunTold_blocks (s : State) (n : Nat) (hst : s.st = .running ∨ s.st = .safeStop) :
    OverrunBlocks s (settle (injectSafeBlock 7 0 n (overrunTold { s with out := [] }))) := by
  have hflt := injectSafeBlock_flt 7 0 n (overrunTold { s with out := [] })
  have hfrm := (injectSafeBlock_frm 7 0 n (overrunTold { s with out := [] })).trans (overrunTold_frm _)
  have hrep := (overrunTold_reported { s with out := [] }).of_flt hflt
  refine ⟨⟨hrep.settled rfl, hfrm⟩, injectSafeBlock_sbLatch .., injectSafeBlock_due _ _ _ _ ?_,
    (injectSafeBlock_acted ..).of_trp rfl, ?_⟩
  · rw [overrunTold_st]
    exact Or.inr (Or.inr hst)
  · rw [settle_eng, injectSafeBlock_engines, overrunTold_engines, settle_frm, hfrm]
    rfl

/-- Settles O41: the completion of a work, the verdict of the guard and the second overrun, case by case. -/
theorem framesAreJudged : Obligations.FramesAreJudged := by
  intro s
  refine ⟨fun time stages w more hw => ?_, fun time stages hw => ?_, fun hrun hrims hj => ⟨fun td hd ht => ?_,
    fun ht h128 => ?_⟩, fun hidle => ?_, fun hidle => ?_, fun hdue => ⟨fun hno => ?_, fun ha hst => ?_,
    fun ha hst htwin => ?_, fun hst htwin => ?_⟩⟩
  · refine (fabricComplete_does time stages s w more hw).imp fun t ⟨heng, hlow, hquiet⟩ => ?_
    have hf : t.frm = completed time stages w more s := congrArg Engines.frm heng
    refine ⟨engines_but_frm heng, ?_⟩
    rw [hf]
    refine ⟨rfl, rfl, rfl, rfl, stageTimes_length _, stageTimes_zero _, stageTimes_getD _,
      fun i hi => getD_map_range _ hi, rfl, fun h => hlow (of_decide_eq_true h), fun h => hquiet ?_⟩
    exact h.imp_left of_decide_eq_false
  · exact does_effect (fabricComplete_idle time stages { s with out := [] } hw) (settle_eng _)
  · exact does_effect (frmGuard_good { s with out := [] } hrun hrims hj td hd ht) (settle_eng _)
  · refine (frmGuard_overruns s hrun hrims hj ht h128).imp fun t ⟨hrep, late, heng⟩ => ?_
    have hf : t.frm = overrunFrm late s := congrArg Engines.frm heng
    refine ⟨engines_but_frm heng, hrep, ?_⟩
    rw [hf]
    exact ⟨rfl, rfl, rfl, rfl, rfl⟩
  · exact does_effect (frmGuard_idle { s with out := [] } hidle) (settle_eng _)
  · exact does_effect (frmOverrun2_idle { s with out := [] } hidle) (settle_eng _)
  · exact does_effect (frmOverrun2_reports { s with out := [] } hdue hno)
      ⟨⟨(overrunTold_reported _).settled rfl, overrunTold_frm _⟩,
        engines_but_frm ((settle_eng _).trans (overrunTold_engines _))⟩
  · exact does_effect (frmOverrun2_blocks { s with out := [] } hdue ha (.inl hst)) (overrunTold_blocks s _ (.inr hst))
  · exact does_effect (frmOverrun2_blocks { s with out := [] } hdue ha (.inr ⟨hst, htwin⟩))
      (overrunTold_blocks s _ (.inl hst))
  · refine does_effect (frmOverrun2_asks { s with out := [] } hdue hst htwin) ?_
    have heng := (settle_eng _).trans ((askHandover_eng .overrun _).trans (overrunTold_engines { s with out := [] }))
    exact ⟨⟨((overrunTold_reported _).of_flt (askHandover_flt ..)).settled rfl, congrArg Engines.frm heng⟩,
      engines_but_frm heng, askHandover_open ..⟩

/-! ### Doorbells (R367, R374) -/

/-- The access shows the link up and leaves the ring pairs `ps`; the blocks of the converter and the rest of the host
interface stay (R367). -/
def LeavesPairs (s : State) (ps : List RPair) (t : State) : Prop :=
  engines t = engines s ∧ t.hif.linkUp = true ∧
    t.hif = { s.hif with pairs := ps, linkUp := true, width := t.hif.width, speed := t.hif.speed }

/-- An access of the host changes the link state and draws open values alone. -/
theorem hostSeen_eq (s : State) : ∃ w v n, hostSeen s =
    { s with hif := { s.hif with linkUp := true, width := w, speed := v }, free := n } := by
  unfold hostSeen
  split
  · next h => exact ⟨_, _, _, by rw [← h]⟩
  · exact ⟨_, _, _, rfl⟩

/-- A change of one pair writes the changed pair back. -/
theorem modAt_eq_set {α : Type} {l : List α} {k : Nat} {x : α} (f : α → α) (h : l[k]? = some x) :
    modAt l k f = l.set k (f x) := by
  have hk : k < l.length := (List.getElem?_eq_some_iff.mp h).1
  refine List.ext_getElem? fun i => ?_
  rw [modAt, List.getElem?_modify, List.getElem?_set]
  by_cases hik : k = i
  · subst hik
    simp only [h, hk, if_true]
    rfl
  · simp only [hik, if_false]
    exact Option.map_id_apply

/-- A change that leaves the element it is given leaves the list. -/
theorem modAt_fixed {α : Type} {l : List α} {k : Nat} {f : α → α} (h : ∀ x, l[k]? = some x → f x = x) :
    modAt l k f = l := by
  refine List.ext_getElem? fun i => ?_
  rw [modAt, List.getElem?_modify]
  by_cases hik : k = i
  · subst hik
    cases hx : l[k]? with
    | none => rfl
    | some x => simp [h x hx]
  · simp [hik]

/-- What an access does: it shows the link up, and then has its own effect. -/
theorem access_does {c : Instr} {s : State} {P : State → Prop} (f : State → State)
    (he : effect c { s with out := [] } = f (hostSeen { s with out := [] }))
    (hP : ∀ w v n, P (settle (f { s with
      out := [], hif := { s.hif with linkUp := true, width := w, speed := v }, free := n }))) : Does c s P := by
  obtain ⟨w, v, n, hs⟩ := hostSeen_eq { s with out := [] }
  exact does_effect (he.trans (congrArg f hs)) (hP w v n)

/-- An access whose effect, after it shows the link up, is on one pair. -/
theorem access_modPair (c : Instr) (s : State) (k : Nat) (f : RPair → RPair)
    (he : effect c { s with out := [] } = (hostSeen { s with out := [] }).modPair k f) :
    Does c s (LeavesPairs s (modAt s.hif.pairs k f)) :=
  access_does (State.modPair k f) he fun _ _ _ => ⟨rfl, rfl, rfl⟩

/-- Such an access of a pair that stands. -/
theorem access_set (c : Instr) (s : State) (k : Nat) (f : RPair → RPair) (p p' : RPair)
    (he : effect c { s with out := [] } = (hostSeen { s with out := [] }).modPair k f)
    (hp : s.hif.pairs[k]? = some p) (hf : f p = p') : Does c s (LeavesPairs s (s.hif.pairs.set k p')) := by
  rw [← hf, ← modAt_eq_set f hp]
  exact access_modPair c s k f he

/-- An access in OFF changes nothing. -/
theorem access_off (c : Instr) (s : State) (he : effect c { s with out := [] } = { s with out := [] }) :
    Does c s (fun t => engines t = engines s ∧ t.hif = s.hif) :=
  does_effect he ⟨rfl, rfl⟩

/-- What DBk_CMD does to its pair. -/
def cmdBell (v : Nat) (p : RPair) : RPair :=
  if p.open_ then
    let n := idxDist p.cmdCons v
    if n ≤ p.cmdUnits ∧ idxDist p.cmdCons p.cmdProd ≤ n then { p with cmdProd := v % 2 ^ 16 } else badDoorbell p
  else p

/-- What DBk_RPL does to its pair. -/
def rplBell (v : Nat) (p : RPair) : RPair :=
  if p.open_ then
    if idxDist p.rplCons v ≤ idxDist p.rplCons p.rplProd then { p with rplCons := v % 2 ^ 16 } else badDoorbell p
  else p

theorem hifDbCmd_up (k v : Nat) (s : State) (h : s.st ≠ .off) :
    effect (.hifDbCmd k v) { s with out := [] } = (hostSeen { s with out := [] }).modPair k (cmdBell v) := if_neg h

theorem hifDbRpl_up (k v : Nat) (s : State) (h : s.st ≠ .off) :
    effect (.hifDbRpl k v) { s with out := [] } = (hostSeen { s with out := [] }).modPair k (rplBell v) := if_neg h

theorem hifDbClose_up (v : Nat) (s : State) (h : s.st ≠ .off) :
    effect (.hifDbClose v) { s with out := [] } =
      (hostSeen { s with out := [] }).modPair (v % 4) (fun p => { p with open_ := false, replies := [] }) := if_neg h

/-- A doorbell of a pair that is not open leaves the pairs. -/
theorem access_closed (c : Instr) (s : State) (k : Nat) (f : RPair → RPair)
    (he : effect c { s with out := [] } = (hostSeen { s with out := [] }).modPair k f)
    (hf : ∀ p, p.open_ = false → f p = p) (hk : (s.hif.pairs[k]?).map RPair.open_ ≠ some true) :
    Does c s (LeavesPairs s s.hif.pairs) := by
  have hfix : modAt s.hif.pairs k f = s.hif.pairs := modAt_fixed fun p hp => hf p (by simpa [hp] using hk)
  rw [← hfix]
  exact access_modPair c s k f he

/-- A word packed from two halves. -/
theorem pack_halves (hi lo : Nat) : pack [(16, hi), (0, lo)] = lo + hi * 2 ^ 16 := by
  simp [pack, Nat.add_comm]

/-- Settles O45: each doorbell is an access of its pair by the state of the pair and the place of the new index; the
others are accesses of a register. -/
theorem doorbellsMoveTheirIndices : Obligations.DoorbellsMoveTheirIndices := by
  intro s k v off
  refine ⟨fun hup => ⟨fun p hp ho => ⟨fun hin => ?_, fun hout => ?_, fun hin => ?_, fun hout => ?_⟩,
    fun hc => ⟨?_, ?_⟩, ?_, ?_, fun p hp => ?_, ?_, ?_⟩, fun hoff c hc => ?_⟩
  · exact access_set _ s k _ p _ (hifDbCmd_up k v s hup) hp (by simp [cmdBell, ho, hin])
  · exact access_set _ s k _ p _ (hifDbCmd_up k v s hup) hp
      (by simp only [cmdBell, ho, hout, if_true, if_false, badDoorbell])
  · exact access_set _ s k _ p _ (hifDbRpl_up k v s hup) hp (by simp [rplBell, ho, hin])
  · exact access_set _ s k _ p _ (hifDbRpl_up k v s hup) hp (by simp [rplBell, ho, Nat.not_le.mpr hout, badDoorbell])
  · exact access_closed _ s k _ (hifDbCmd_up k v s hup) (fun p h => by simp [cmdBell, h]) hc
  · exact access_closed _ s k _ (hifDbRpl_up k v s hup) (fun p h => by simp [rplBell, h]) hc
  · exact access_does (fun x => { x with hif := { x.hif with openLo := v % 2 ^ 32 } }) (if_neg hup)
      fun _ _ _ => ⟨rfl, rfl, rfl, rfl⟩
  · exact access_does (fun x => { x with hif := { x.hif with
      opening := some (v % 2 ^ 32 * 2 ^ 32 + x.hif.openLo) } }) (if_neg hup) fun _ _ _ => ⟨rfl, rfl, rfl⟩
  · exact access_set _ s (v % 4) _ p _ (hifDbClose_up v s hup) hp rfl
  · exact access_does id (if_neg hup) fun _ _ _ => ⟨rfl, rfl, rfl⟩
  · refine access_does (fun x => { x with frm := { x.frm with
      hiLatch := pack [(16, s.pub.frm.wrap % 2 ^ 16), (0, s.pub.frm.count / 2 ^ 32 % 2 ^ 16)] } }) (if_neg hup)
      fun _ _ _ => ?_
    rw [pack_halves]
    rfl
  · simp only [List.mem_cons, List.not_mem_nil, or_false] at hc
    rcases hc with rfl | rfl | rfl | rfl | rfl | rfl | rfl
    all_goals exact access_off _ s (if_pos hoff)

end Sys2Proof

/-! The analogue inputs: the latches of rods and triplets, the reactions of the control slots, and the calibration. -/

namespace Sys2Proof

open Sys2Proof.Machine

/-! ### Commands that report, and commands that find nothing to do -/

/-- A command whose effect is a raise reports it, and leaves the blocks of the converter as the raise finds them. -/
theorem raise_does {c : Instr} {s x : State} {e : Engines} {blk inst kind detail : Nat}
    (he : effect c { s with out := [] } = raise blk inst kind detail x) (hflt : x.flt = s.flt) (heng : engines x = e) :
    Does c s (fun t => Reported blk inst kind s t ∧ engines t = e) :=
  does_effect he ⟨Reported.settled (raise_reported ..) hflt, (settle_eng _).trans ((raise_eng ..).trans heng)⟩

/-- A command whose effect is no raise leaves the count of messages. -/
theorem quiet_does {c : Instr} {s x : State} {e : Engines} (he : effect c { s with out := [] } = x)
    (hflt : x.flt = s.flt) (heng : engines x = e) :
    Does c s (fun t => engines t = e ∧ t.flt.total = s.flt.total) :=
  does_effect he ⟨(settle_eng x).trans heng, (settle_total x).trans (congrArg Flt.total hflt)⟩

/-! ### ADC_ROD_DISC and ADC_PLAUS (R53, R62) -/

theorem discLatch_due (r : Nat) (s : State) (h : discDue s r = true) :
    discLatch r s = raise 2 r 3 ((s.pO (0x2300 + r)).getD 0)
      { s with adc := { s.adc with rods := modAt s.adc.rods r (fun x => { x with disc := true }) } } := if_pos h

theorem discLatch_idle (r : Nat) (s : State) (h : discDue s r = false) : discLatch r s = s :=
  if_neg (Bool.eq_false_iff.mp h)

theorem plausLatch_due (k : Nat) (s : State) (h : plausDue s k = true) :
    plausLatch k s = raise 2 k 5 (((triCh s k).getD 0 none).getD 0)
      { s with adc := { s.adc with tris := modAt s.adc.tris k (fun x => { x with fault := true }) } } := if_pos h

theorem plausLatch_idle (k : Nat) (s : State) (h : plausDue s k = false) : plausLatch k s = s :=
  if_neg (Bool.eq_false_iff.mp h)

/-! ### CTL_FE_REACTION (R105–R107) -/

/-- Slot `k` of the control engine. -/
def slotOf (s : State) (k : Nat) : Slot := s.ctl.slots.getD k Slot.reset

/-- The control engine after slot `k` has reacted by a code other than 0. -/
def feActed (k code : Nat) (s : State) : Ctl :=
  { s.ctl with
    slots := s.ctl.slots.set k { slotOf s k with
      due := false
      raised := true
      hold := (slotOf s k).hold || decide (code = 2)
      block := if code = 3 then s.p (0x4009 + 32 * k) else (slotOf s k).block }
    events := satAdd 32 s.ctl.events 1
    stopDue := s.ctl.stopDue || decide (code = 4)
    blockDue := s.ctl.blockDue || decide (code = 5) }

theorem feReact_idle (k : Nat) (s : State) (h : (slotOf s k).due = false) : feReact k s = s :=
  if_neg (Bool.eq_false_iff.mp h)

theorem feReact_none (k : Nat) (s : State) (h : (slotOf s k).due = true) (hc : s.p (0x4008 + 32 * k) = 0) :
    feReact k s = { s with ctl := { s.ctl with slots := s.ctl.slots.set k { slotOf s k with due := false } } } :=
  (if_pos h).trans (if_pos hc)

theorem feReact_acts (k : Nat) (s : State) (h : (slotOf s k).due = true) (hc : s.p (0x4008 + 32 * k) ≠ 0) :
    feReact k s = raiseSev 4 k 3 (if s.p (0x4008 + 32 * k) = 1 then 1 else 2) 0
      { s with ctl := feActed k (s.p (0x4008 + 32 * k)) s } :=
  (if_pos h).trans (if_neg hc)

/-- A raise of a given severity is counted, and active where that is an error or worse. -/
theorem raiseSev_reported (blk inst kind sev detail : Nat) (s : State) :
    min (s.flt.total + 1) (2 ^ 32 - 1) ≤ (raiseSev blk inst kind sev detail s).flt.total ∧
      (2 ≤ sev → isActive (raiseSev blk inst kind sev detail s) blk inst kind = true) :=
  have h := fltTake_reported ⟨blk, inst, kind, sev, detail, s.frm.count % 4096⟩ s.frm.count s
  ⟨h.1, h.2.1⟩

/-- A reaction is reported, as a warning by code 1 and as an error by every other. -/
theorem ctlFeReaction_acts (k : Nat) (s : State) (h : (slotOf s k).due = true) (hc : s.p (0x4008 + 32 * k) ≠ 0) :
    Does (.ctlFeReaction k) s (fun t =>
      min (s.flt.total + 1) (2 ^ 32 - 1) ≤ t.flt.total ∧
      (s.p (0x4008 + 32 * k) ≠ 1 → isActive t 4 k 3 = true) ∧
      engines t = { engines s with ctl := feActed k (s.p (0x4008 + 32 * k)) s }) := by
  obtain ⟨hcount, hactive⟩ := raiseSev_reported 4 k 3 (if s.p (0x4008 + 32 * k) = 1 then 1 else 2) 0
    { s with out := [], ctl := feActed k (s.p (0x4008 + 32 * k)) s }
  exact does_effect (feReact_acts k { s with out := [] } h hc)
    ⟨hcount, fun h1 => hactive (Nat.le_of_eq (if_neg h1).symm), (settle_eng _).trans (raiseSev_eng ..)⟩

/-! ### ADC_CAL_COMPLETE (R56–R59) -/

/-- The factors that a calibration of the converters `convs` accepts, by channel. -/
def calAccepted (convs : Nat) (sums : List CalSum) : List (Nat × Fact) :=
  (sums.filter (fun c => tb convs (c.ch / 16))).filterMap (fun c => (calFact c).map (fun f => (c.ch, f)))

/-- The channels of the converters `convs` without an accepted factor. -/
def calFailed (convs : Nat) (sums : List CalSum) : List Nat :=
  (List.range 192).filter (fun ch => tb convs (ch / 16) && !((calAccepted convs sums).any (fun x => x.1 == ch)))

/-- The converter interface once a calibration begun at `t0` has completed at `time`. -/
def calClosed (time t0 convs : Nat) (sums : List CalSum) (a : Adc) : Adc :=
  { a with
    cal := none, calSpan := some (t0, time, convs), newFact := calAccepted convs sums, calTime := (time - t0) / 1000
    calFail := maskOf (calFailed convs sums) }

/-- The report of every channel whose factors a calibration did not accept. -/
def calReports (bad : List Nat) (s : State) : State := bad.foldl (fun a ch => raise 2 (ch / 16) 4 ch a) s

theorem calReports_eng (bad : List Nat) (s : State) : engines (calReports bad s) = engines s :=
  eng_foldl _ _ _ fun _ _ => raise_eng ..

theorem calReports_hif (bad : List Nat) (s : State) : (calReports bad s).hif = s.hif :=
  foldl_kept (fun x => x.hif) _ _ _ fun _ _ => raise_hif ..

theorem calReports_pair (bad : List Nat) (s : State) : (calReports bad s).pair = s.pair :=
  foldl_kept (fun x => x.pair) _ _ _ fun _ _ => raise_pair ..

theorem calDone_idle (time : Nat) (sums : List CalSum) (s : State) (h : s.adc.cal = none) : calDone time sums s = s := by
  simp only [calDone, h]

/-- A calibration that runs completes with its reports, its record and its reply. -/
theorem calDone_running (time : Nat) (sums : List CalSum) (s : State) {h : CmdHdr} {op t0 convs : Nat}
    (hcal : s.adc.cal = some (h, op, t0, convs)) : ∃ words, calDone time sums s =
      finish { h := h, op := op } 0
        (calData convs (calFailed convs sums).length ((time - t0) / 1000) (maskOf (calFailed convs sums)))
        (jnlAdd (.adcFact words)
          (calReports (calFailed convs sums) { s with adc := calClosed time t0 convs sums s.adc })) := by
  have hbad : ((List.range 192).filter (fun ch => tb convs (ch / 16))).filter
      (fun ch => !((calAccepted convs sums).any (fun x => x.1 == ch))) = calFailed convs sums := by
    simp only [calFailed, List.filter_filter, Bool.and_comm]
  simp only [calAccepted] at hbad
  simp only [calDone, hcal, hbad]
  exact ⟨_, rfl⟩

/-- ADC_CAL_COMPLETE where no host command waits. -/
theorem adcCalComplete_effect (time : Nat) (sums : List CalSum) (s : State) (hheld : s.hif.held = []) :
    effect (.adcCalComplete time sums) { s with out := [] } = calDone time sums (State.at time { s with out := [] }) :=
  runHeld_none _ ((calDone_held ..).trans hheld)

theorem adcCalComplete_answers (time : Nat) (sums : List CalSum) (s : State) {h : CmdHdr} {op t0 convs : Nat}
    (hcal : s.adc.cal = some (h, op, t0, convs)) (ho : PairOpen s h.pair) (ha : acts s = true) (hheld : s.hif.held = []) :
    Does (.adcCalComplete time sums) s (fun t =>
      Answers op h 0
        (calData convs (calFailed convs sums).length ((time - t0) / 1000) (maskOf (calFailed convs sums))) s t ∧
      engines t = { engines s with adc := calClosed time t0 convs sums s.adc }) := by
  obtain ⟨words, hdone⟩ := calDone_running time sums (State.at time { s with out := [] }) hcal
  refine does_effect ((adcCalComplete_effect time sums s hheld).trans hdone) ?_
  generalize hy : jnlAdd (.adcFact words) _ = y
  have hhif : y.hif = s.hif := by rw [← hy, jnlAdd_pairs, calReports_hif]; rfl
  have hpair : y.pair = s.pair := by rw [← hy, jnlAdd_pair, calReports_pair]; rfl
  have hopen : PairOpen y h.pair := by rw [PairOpen, hhif]; exact ho
  have hdelivers : Delivers op y := by simp [Delivers, acts_role s y (by rw [hpair]), ha]
  have hreplies : repliesOf y h.pair = repliesOf s h.pair := by rw [repliesOf, hhif]; rfl
  refine ⟨?_, ?_⟩
  · rw [Answers, ← hreplies]
    exact finish_answers op h 0 _ y hopen hdelivers
  · rw [settle_eng, finish_eng, ← hy, jnlAdd_eng, calReports_eng]
    rfl

/-- Settles O42: each command latches, reports and answers where its condition stands, and is quiet where it does not.
That a calibration's reply does not wait for the commit of its record is the model's choice (log 28). -/
theorem signalFaultsAreLatched : Obligations.SignalFaultsAreLatched := by
  intro s r tri k
  refine ⟨fun hdue => ?_, fun hidle => ?_, fun hdue => ?_, fun hidle => ?_,
    ⟨fun hidle => ?_, fun hdue hnone => ?_, fun hdue hcode => ?_⟩,
    fun time sums h op t0 convs hcal ho ha hheld => ?_, fun time sums hnone hheld => ?_⟩
  · exact raise_does (discLatch_due r { s with out := [] } hdue) rfl rfl
  · exact quiet_does (discLatch_idle r { s with out := [] } hidle) rfl rfl
  · exact raise_does (plausLatch_due tri { s with out := [] } hdue) rfl rfl
  · exact quiet_does (plausLatch_idle tri { s with out := [] } hidle) rfl rfl
  · exact quiet_does (feReact_idle k { s with out := [] } hidle) rfl rfl
  · exact quiet_does (feReact_none k { s with out := [] } hdue hnone) rfl rfl
  · exact ctlFeReaction_acts k s hdue hcode
  · simpa only [calClosed, calFailed, calAccepted] using adcCalComplete_answers time sums s hcal ho ha hheld
  · exact quiet_does ((adcCalComplete_effect time sums s hheld).trans (calDone_idle _ _ _ hnone)) rfl rfl

/-! ### The states that a command is given for (R388) -/

/-- The own effect of a command, and before it the check of the device state. -/
def stateChecked (c : Ctx) (states : DevState → Bool) (own : State → State) (s : State) : State :=
  if states s.st = false then refuse c 0x0100 s else own s

/-- The check of the device state is the last before a command's own effect. -/
theorem checked_states (c : Ctx) (states : DevState → Bool) (own : State → State) :
    checked c states own = checked c stAny (stateChecked c states own) := rfl

/-- A command given for some states is one given for every state that checks the state itself. -/
theorem hostCmd_states (i : Instr) (c : Ctx) (states : DevState → Bool) (own : State → State) :
    hostCmd i c states own = hostCmd i c stAny (stateChecked c states own) := by
  funext s
  simp only [hostCmd, checked_states c states own]

theorem stateChecked_held (c : Ctx) (states : DevState → Bool) (own : State → State)
    (hown : ∀ x, heldOf (own x) = heldOf x) (s : State) : heldOf (stateChecked c states own s) = heldOf s := by
  unfold stateChecked
  split
  · exact refuse_held ..
  · exact hown s

theorem stateChecked_bad {c : Ctx} {states : DevState → Bool} {own : State → State} {s : State}
    (h : states s.st = false) : stateChecked c states own s = finish c 0x0100 [] s := if_pos h

theorem stateChecked_ok {c : Ctx} {states : DevState → Bool} {own : State → State} {s : State}
    (h : states s.st = true) : stateChecked c states own s = own s := if_neg (by rw [h]; exact Bool.noConfusion)

/-! ### ADC_CAL (R55) -/

theorem tb_maskOf (l : List Nat) (j : Nat) : tb (maskOf l) j = l.contains j := by
  rw [maskOf, tb_foldl_setB, tb, Nat.zero_testBit, Bool.false_or]

/-- With both converter domains off no converter is powered. -/
theorem convUp_dark (s : State) (h5 : tb s.pwr.on 5 = false) (h6 : tb s.pwr.on 6 = false) : convUp s = 0 := by
  have hdom : ∀ k, tb s.pwr.on (adcDom k) = false := fun k => by unfold adcDom; split <;> assumption
  have hnone : (List.range 12).filter (fun k => tb s.pwr.on (adcDom k) && s.frm.armed) = [] :=
    List.filter_eq_nil_iff.mpr fun k _ => by rw [hdom k, Bool.false_and]; exact Bool.false_ne_true
  exact congrArg maskOf hnone

/-- With the time base running, every converter of a domain that is on is powered. -/
theorem convUp_tb (s : State) (harmed : s.frm.armed = true) {k : Nat} (hk : k < 12)
    (hdom : tb s.pwr.on (adcDom k) = true) : tb (convUp s) k = true := by
  rw [convUp, tb_maskOf]
  simp [hk, hdom, harmed]

/-- With the time base running and a converter domain on, some converter is powered. -/
theorem convUp_ne_zero (s : State) (harmed : s.frm.armed = true) (hon : tb s.pwr.on 5 = true ∨ tb s.pwr.on 6 = true) :
    convUp s ≠ 0 := by
  have hbit : ∃ k, tb (convUp s) k = true := by
    rcases hon with h | h
    · exact ⟨0, convUp_tb s harmed (by decide) h⟩
    · exact ⟨6, convUp_tb s harmed (by decide) h⟩
  intro h0
  obtain ⟨k, hk⟩ := hbit
  rw [h0, tb, Nat.zero_testBit] at hk
  exact Bool.noConfusion hk

theorem adcCal_busy (c : Ctx) (s : State) (h : s.adc.cal.isSome = true) : adcCal c s = finish c 0x0301 [] s := if_pos h

theorem adcCal_dark (c : Ctx) (s : State) (h : s.adc.cal = none) (hup : convUp s = 0) :
    adcCal c s = finish c 0x0302 [] s :=
  (if_neg (by rw [h]; exact Bool.false_ne_true)).trans (if_pos hup)

theorem adcCal_starts (c : Ctx) (s : State) (h : s.adc.cal = none) (hup : convUp s ≠ 0) :
    adcCal c s = { s with adc := { s.adc with cal := some (c.h, c.op, c.h.time, convUp s) } } :=
  (if_neg (by rw [h]; exact Bool.false_ne_true)).trans (if_neg hup)

/-- The powered converters stand in the blocks of the converter. -/
theorem taken_convUp (c : Ctx) (s : State) : convUp (taken c s) = convUp s := by
  have hpwr : (taken c s).pwr = s.pwr := congrArg Engines.pwr (taken_engines c s)
  have hfrm : (taken c s).frm = s.frm := congrArg Engines.frm (taken_engines c s)
  rw [convUp, hpwr, hfrm]
  rfl

/-- What ADC_CAL does once its turn has come: the check of the state, then its own. -/
def calAsked (h : CmdHdr) : State → State :=
  stateChecked { h := h, op := 0x0C00 } (stIs .maintenance) (adcCal { h := h, op := 0x0C00 })

theorem adcCal_effect (h : CmdHdr) : effect (.adcCal h) =
    fun x => runHeld (hostCmd (.adcCal h) { h := h, op := 0x0C00 } stAny (calAsked h) x) := by
  funext x
  exact congrArg (fun f => runHeld (f x)) (hostCmd_states (.adcCal h) { h := h, op := 0x0C00 } _ _)

theorem calAsked_held (h : CmdHdr) (s : State) : heldOf (calAsked h s) = heldOf s :=
  stateChecked_held _ _ _ (adcCal_held _) s

theorem calAsked_elsewhere (h : CmdHdr) (s : State) (hst : s.st ≠ .maintenance) :
    calAsked h s = finish { h := h, op := 0x0C00 } 0x0100 [] s := stateChecked_bad (decide_eq_false hst)

theorem calAsked_maintenance (h : CmdHdr) (s : State) (hst : s.st = .maintenance) :
    calAsked h s = adcCal { h := h, op := 0x0C00 } s := stateChecked_ok (decide_eq_true hst)

/-- ADC_CAL that its checks refuse answers the status, and no block of the converter changes. -/
theorem adcCal_refused {s : State} {h : CmdHdr} (m : MayRun 0x0C00 h stAny s) (ho : PairOpen s h.pair)
    (ha : acts s = true) {st : Nat} (hown : ∀ x : State, engines x = engines s → convUp x = convUp s →
      calAsked h x = finish { h := h, op := 0x0C00 } st [] x) :
    Does (.adcCal h) s (fun t => Answers 0x0C00 h st [] s t ∧ engines t = engines s) :=
  host_answers _ _ h _ (calAsked h) s (adcCal_effect h) m (calAsked_held h) ho (by simp [Delivers, ha]) st []
    (hown _ (taken_engines ..) (taken_convUp ..))

/-- ADC_CAL that passes its checks runs over the powered converters from its instant on, and has no reply yet. -/
theorem adcCal_runs {s : State} {h : CmdHdr} (m : MayRun 0x0C00 h stAny s) (hst : s.st = .maintenance)
    (hcal : s.adc.cal = none) (hup : convUp s ≠ 0) :
    Does (.adcCal h) s (fun t =>
      t.adc.cal = some (h, 0x0C00, h.time, convUp s) ∧ repliesOf t h.pair = repliesOf s h.pair) := by
  refine ⟨_, host_next _ _ h _ (calAsked h) s (adcCal_effect h) m (calAsked_held h), ?_⟩
  have heng := taken_engines { h := h, op := 0x0C00 } { s with out := [] }
  have hconv : convUp (taken { h := h, op := 0x0C00 } { s with out := [] }) = convUp s := taken_convUp ..
  have hreplies := taken_repliesOf { h := h, op := 0x0C00 } { s with out := [] } h.pair
  generalize taken { h := h, op := 0x0C00 } { s with out := [] } = x at heng hconv hreplies ⊢
  rw [calAsked_maintenance h x ((congrArg Engines.st heng).trans hst),
    adcCal_starts _ x ((congrArg (fun e => e.adc.cal) heng).trans hcal) (hconv.symm ▸ hup), hconv]
  exact ⟨rfl, hreplies⟩

/-- Settles O59: the check of the state comes first, then those of ADC_CAL itself, and what passes them runs. -/
theorem calibrationRunsOnlyInMaintenance : Obligations.CalibrationRunsOnlyInMaintenance := by
  intro s h m ho ha
  refine ⟨fun hst => ?_, fun hst hbusy => ?_, fun hst hcal h5 h6 => ?_, fun hst hcal hon harmed => ?_⟩
  · exact adcCal_refused m ho ha fun x he _ => calAsked_elsewhere h x fun hm => hst ((congrArg Engines.st he).symm.trans hm)
  · refine adcCal_refused m ho ha fun x he _ => ?_
    rw [calAsked_maintenance h x ((congrArg Engines.st he).trans hst)]
    exact adcCal_busy _ x ((congrArg (fun e => e.adc.cal.isSome) he).trans hbusy)
  · refine adcCal_refused m ho ha fun x he hx => ?_
    rw [calAsked_maintenance h x ((congrArg Engines.st he).trans hst)]
    exact adcCal_dark _ x ((congrArg (fun e => e.adc.cal) he).trans hcal) (hx.trans (convUp_dark s h5 h6))
  · have hup := convUp_ne_zero s harmed hon
    exact (adcCal_runs m hst hcal hup).imp fun t ⟨hrun, hreplies⟩ => ⟨⟨_, hrun, hup⟩, hreplies⟩

end Sys2Proof

/-! The references: ramp entries that are queued, groups that are stopped or replaced, oscillator phases that are
loaded. -/

namespace Sys2Proof

open Sys2Proof.Machine

/-! ### Host commands of one own effect -/

/-- The command is a host command with the own effect `own`, which holds no command. -/
structure HostRow (c : Instr) (op : Nat) (h : CmdHdr) (states : DevState → Bool) (own : State → State) : Prop where
  runs : effect c = fun x => runHeld (hostCmd c { h := h, op := op } states own x)
  held : ∀ x, heldOf (own x) = heldOf x

namespace HostRow

variable {c : Instr} {op : Nat} {h : CmdHdr} {states : DevState → Bool} {own : State → State} {s : State}

/-- A command given for some states is one given for every state that checks the state itself (R388). -/
theorem ofStates (row : HostRow c op h states own) :
    HostRow c op h stAny (stateChecked { h := h, op := op } states own) :=
  ⟨row.runs.trans (funext fun x => congrArg (fun f => runHeld (f x)) (hostCmd_states c _ states own)),
    stateChecked_held _ _ _ row.held⟩

/-- An own effect that is a refusal answers it, and no block of the converter changes. -/
theorem refuses (row : HostRow c op h states own) (m : MayRun op h states s) (ho : PairOpen s h.pair)
    (ha : acts s = true) {st : Nat}
    (hown : ∀ x : State, engines x = engines s → own x = finish { h := h, op := op } st [] x) :
    Does c s (fun t => Answers op h st [] s t ∧ engines t = engines s) :=
  host_answers c op h states own s row.runs m row.held ho (by simp [Delivers, ha]) st [] (hown _ (taken_engines ..))

/-- An own effect that changes the references alone leaves the other blocks of the converter, and no reply is due. -/
theorem setsRef (row : HostRow c op h states own) (m : MayRun op h states s) {r : Ref}
    (hown : ∀ x : State, engines x = engines s → own x = { x with ref := r }) :
    Does c s (fun t => engines t = { engines s with ref := r } ∧ repliesOf t h.pair = repliesOf s h.pair) := by
  refine ⟨_, host_next c op h states own s row.runs m row.held, ?_⟩
  have heng := taken_engines { h := h, op := op } { s with out := [] }
  have hreplies := taken_repliesOf { h := h, op := op } { s with out := [] } h.pair
  generalize taken { h := h, op := op } { s with out := [] } = x at heng hreplies ⊢
  rw [hown x heng]
  exact ⟨congrArg (fun e : Engines => { e with ref := r }) heng, hreplies⟩

/-- An own effect that changes the references and then replies DONE answers with its data. -/
theorem setsRefAndAnswers (row : HostRow c op h states own) (m : MayRun op h states s) (ho : PairOpen s h.pair)
    (ha : acts s = true) {r : Ref} {data : List Byte}
    (hown : ∀ x : State, engines x = engines s → own x = finish { h := h, op := op } 0 data { x with ref := r }) :
    Does c s (fun t => engines t = { engines s with ref := r } ∧ Answers op h 0 data s t) := by
  have heng := taken_engines { h := h, op := op } { s with out := [] }
  have hopen := (taken_PairOpen { h := h, op := op } { s with out := [] } h.pair).mpr ho
  have hdel : Delivers op s := by simp [Delivers, ha]
  exact (host_ends c op h states own s row.runs m row.held 0 data _ (hown _ heng) (taken_repliesOf ..) hopen
    ((taken_Delivers op _ { s with out := [] }).mpr hdel)).imp fun t ⟨hans, ht, _⟩ =>
      ⟨ht.trans (congrArg (fun e : Engines => { e with ref := r }) heng), hans⟩

end HostRow

/-! ### The commands of the references group (R405, R409) -/

/-- The ramp entry that FCS-1 RAMP gives (R409). -/
def fcs1Entry (g mask dur : Nat) (ts : List Int) : RampArgs :=
  { group := g, mask := mask % 16, mode := 0, blend := 0, minDur := dur, start := 0
    targets := ts.take 4 ++ List.replicate 4 0 }

theorem hostRow_refQueue (h : CmdHdr) (e : RampArgs) :
    HostRow (.refQueue h e) 0x0300 h stRef (refQueue { h := h, op := 0x0300 } e) := ⟨rfl, refQueue_held _ _⟩

theorem hostRow_fcs1Ramp (h : CmdHdr) (g mask dur : Nat) (ts : List Int) :
    HostRow (.fcs1Ramp h g mask dur ts) 0x10030 h stRef
      (refQueue { h := h, op := 0x10030 } (fcs1Entry g mask dur ts)) := ⟨rfl, refQueue_held _ _⟩

theorem hostRow_refReplace (h : CmdHdr) (e : RampArgs) :
    HostRow (.refReplace h e) 0x0301 h stRef (refReplace { h := h, op := 0x0301 } e) := ⟨rfl, refReplace_held _ _⟩

theorem hostRow_refStop (h : CmdHdr) (g : Nat) :
    HostRow (.refStop h g) 0x0302 h stAny (refStop { h := h, op := 0x0302 } g) := ⟨rfl, refStop_held _ _⟩

theorem hostRow_fcs1RampStop (h : CmdHdr) (g : Nat) :
    HostRow (.fcs1RampStop h g) 0x10031 h stAny (refStop { h := h, op := 0x10031 } g) := ⟨rfl, refStop_held _ _⟩

theorem hostRow_refPhaseLoad (h : CmdHdr) (nco frame phase : Nat) :
    HostRow (.refPhaseLoad h nco frame phase) 0x0303 h stUp
      (refPhaseLoad { h := h, op := 0x0303 } nco frame phase) := ⟨rfl, refPhaseLoad_held _ _ _ _⟩

/-! ### What the commands do to the references -/

/-- The references with an entry at the end of a group's queue. -/
def refAppended (e : RampArgs) (seq rims : Nat) (r : Ref) : Ref :=
  { r with grps := modAt r.grps e.group fun q =>
      { q with queue := q.queue ++ [{ e := e, seq := seq, at_ := rims }] } }

/-- The entries that the groups `gs` hold, queued or waiting for their frame. -/
def entriesOf (gs : List Nat) (r : Ref) : Nat :=
  sumN (gs.map fun k => (r.grps.getD k Grp.reset).queue.length + b2n (r.grps.getD k Grp.reset).wait.isSome)

/-- The references with the entries of the groups `gs` discarded and counted, those that run to end in the next frame
(R83, R84). -/
def refCleared (gs : List Nat) (r : Ref) : Ref :=
  { r with
    flushed := satAdd 32 r.flushed (entriesOf gs r)
    grps := r.grps.mapIdx fun k q => if gs.contains k then { q with queue := [], wait := none, flush := true } else q }

/-- The references with a stop or replace that waits for its frame. -/
def refAwaiting (o : RefOp) (r : Ref) : Ref := { r with ops := r.ops ++ [o] }

/-- The references after a stop by GROUP `g` that names the groups `gs` (R84). -/
def refStopped (h : CmdHdr) (op g : Nat) (gs : List Nat) (r : Ref) : Ref :=
  refAwaiting { hdr := h, opcode := op, group := g, cnt := entriesOf gs r } (refCleared gs r)

/-- The references after a replace, whose entry is never blended, at the count `rims` of rims (R83). -/
def refReplaced (h : CmdHdr) (op : Nat) (e : RampArgs) (rims : Nat) (r : Ref) : Ref :=
  refAwaiting { hdr := h, opcode := op, group := e.group, cnt := entriesOf [e.group] r }
    (refAppended { e with blend := 0 } h.seq rims (refCleared [e.group] r))

/-- The references with a phase load that waits for its frame, counted where it is late (R71). -/
def refLoading (l : Load) (r : Ref) : Ref :=
  { r with loads := r.loads ++ [l], late := satAdd 32 r.late (b2n l.late) }

/-- The phase load of a command in frame number `n`; `fut` where the frame that it names lies ahead. -/
def loadOfCmd (h : CmdHdr) (nco frame phase n : Nat) (fut : Bool) : Load :=
  { hdr := h, nco := nco, phase := phase % 2 ^ 48, late := !fut
    frame := if fut then frame % 2 ^ 32 else (n + 1) % 2 ^ 32 }

theorem spAppend_eq (e : RampArgs) (seq : Nat) (s : State) :
    spAppend e seq s = { s with ref := refAppended e seq s.frm.rims s.ref } := rfl

theorem spClear_eq (gs : List Nat) (s : State) :
    spClear gs s = ({ s with ref := refCleared gs s.ref }, entriesOf gs s.ref) := rfl

section
variable {ctx : Ctx} {e : RampArgs} {g nco frame phase : Nat} {s : State}

theorem refQueue_bad (h : rampBad s true e = true) : refQueue ctx e s = finish ctx 0x0203 [] s := if_pos h

theorem refQueue_full (h : rampBad s true e = false) (hd : 16 ≤ spDepth s e.group) :
    refQueue ctx e s = finish ctx 0x0304 [] s := (if_neg (Bool.eq_false_iff.mp h)).trans (if_pos hd)

theorem refQueue_room (h : rampBad s true e = false) (hd : spDepth s e.group < 16) :
    refQueue ctx e s =
      finish ctx 0 (leBytes 1 e.group ++ leBytes 1 (spDepth (spAppend e ctx.h.seq s) e.group))
        { s with ref := refAppended e ctx.h.seq s.frm.rims s.ref } :=
  (if_neg (Bool.eq_false_iff.mp h)).trans (if_neg (Nat.not_le.mpr hd))

theorem refReplace_bad (h : rampBad s false e = true) : refReplace ctx e s = finish ctx 0x0203 [] s := if_pos h

theorem refReplace_ok (h : rampBad s false e = false) :
    refReplace ctx e s = { s with ref := refReplaced ctx.h ctx.op e s.frm.rims s.ref } :=
  if_neg (Bool.eq_false_iff.mp h)

/-- The groups that the GROUP of a stop names, where it names some (R84). -/
def StopGroups (g : Nat) (gs : List Nat) : Prop := (g ≤ 7 ∧ gs = [g]) ∨ (g = 0xFF ∧ gs = List.range 8)

theorem refStop_ok {gs : List Nat} (hg : StopGroups g gs) :
    refStop ctx g s = { s with ref := refStopped ctx.h ctx.op g gs s.ref } := by
  rcases hg with ⟨hle, rfl⟩ | ⟨rfl, rfl⟩
  · have hne : g ≠ 0xFF := by omega
    simp only [refStop, hle, hne, true_or, if_true, if_false, spClear_eq]
    rfl
  · rfl

theorem refStop_bad (h7 : 7 < g) (hall : g ≠ 0xFF) : refStop ctx g s = finish ctx 0x0203 [] s :=
  if_neg (not_or.mpr ⟨Nat.not_le.mpr h7, hall⟩)

theorem refPhaseLoad_ok (h : nco ≤ 3) : refPhaseLoad ctx nco frame phase s =
    { s with ref := refLoading (loadOfCmd ctx.h nco frame phase s.frm.count (ahead frame s.frm.count)) s.ref } :=
  if_neg (Nat.not_lt.mpr h)

theorem refPhaseLoad_bad (h : 3 < nco) : refPhaseLoad ctx nco frame phase s = finish ctx 0x0203 [] s := if_pos h

end

/-! ### What the checks read -/

/-- A parameter as written stands in the blocks of the converter. -/
theorem pWritten_of_engines {x s : State} (hx : engines x = engines s) : pWritten x = pWritten s := by
  have hp : x.params = s.params := congrArg Engines.params hx
  funext id
  simp only [pWritten, State.pI, pvI, hp]

/-- The check of an entry reads the parameters alone (R75, R87). -/
theorem rampBad_of_engines {x s : State} (hx : engines x = engines s) (b : Bool) (e : RampArgs) :
    rampBad x b e = rampBad s b e := by
  simp only [rampBad]
  rw [pWritten_of_engines hx]

theorem spDepth_of_ref {x s : State} (hx : x.ref = s.ref) (g : Nat) : spDepth x g = spDepth s g := by
  rw [spDepth, hx, spDepth]

/-! ### Queueing (R74–R76) -/

section
variable {c : Instr} {op : Nat} {h : CmdHdr} {e : RampArgs} {s : State}

/-- REF_QUEUE and FCS-1 RAMP of an entry that the check refuses. -/
theorem queue_bad (row : HostRow c op h stRef (refQueue { h := h, op := op } e)) (m : MayRun op h stRef s)
    (ho : PairOpen s h.pair) (ha : acts s = true) (hbad : rampBad s true e = true) :
    Does c s (fun t => Answers op h 0x0203 [] s t ∧ engines t = engines s) :=
  row.refuses m ho ha fun _ hx => refQueue_bad ((rampBad_of_engines hx _ _).trans hbad)

/-- REF_QUEUE and FCS-1 RAMP of an entry whose group's queue is full. -/
theorem queue_full (row : HostRow c op h stRef (refQueue { h := h, op := op } e)) (m : MayRun op h stRef s)
    (ho : PairOpen s h.pair) (ha : acts s = true) (hok : rampBad s true e = false) (hd : 16 ≤ spDepth s e.group) :
    Does c s (fun t => Answers op h 0x0304 [] s t ∧ engines t = engines s) :=
  row.refuses m ho ha fun _ hx => refQueue_full ((rampBad_of_engines hx _ _).trans hok)
    (Nat.le_trans hd (Nat.le_of_eq (spDepth_of_ref (congrArg Engines.ref hx) _).symm))

/-- REF_QUEUE and FCS-1 RAMP of an entry that its group's queue has room for. -/
theorem queue_room (row : HostRow c op h stRef (refQueue { h := h, op := op } e)) (m : MayRun op h stRef s)
    (ho : PairOpen s h.pair) (ha : acts s = true) (hok : rampBad s true e = false) (hd : spDepth s e.group < 16) :
    Does c s (fun t => engines t = { engines s with ref := refAppended e h.seq s.frm.rims s.ref } ∧
      Answers op h 0 (leBytes 1 e.group ++ leBytes 1 (spDepth t e.group)) s t) := by
  refine (row.setsRefAndAnswers m ho ha (r := refAppended e h.seq s.frm.rims s.ref)
    (data := leBytes 1 e.group ++ leBytes 1 (spDepth (spAppend e h.seq s) e.group)) fun x hx => ?_).imp
    fun t ⟨heng, hans⟩ => ⟨heng, ?_⟩
  · have href : x.ref = s.ref := congrArg Engines.ref hx
    have hrims : x.frm.rims = s.frm.rims := congrArg (fun y => y.frm.rims) hx
    have hroom : spDepth x e.group < 16 := Nat.lt_of_le_of_lt (Nat.le_of_eq (spDepth_of_ref href _)) hd
    rw [refQueue_room ((rampBad_of_engines hx _ _).trans hok) hroom]
    simp only [spAppend_eq, spDepth, href, hrims]
  · rwa [spDepth_of_ref (x := t) (s := spAppend e h.seq s) (congrArg Engines.ref heng)]

end

/-- Settles O24: both commands are one queueing, of an entry refused, without room, or appended. -/
theorem rampsAreQueuedInOrder : Obligations.RampsAreQueuedInOrder := by
  intro s h a g mask dur ts ho ha x hx m
  have row : HostRow x.1 x.2.1 h stRef (refQueue { h := h, op := x.2.1 } x.2.2) := by
    simp only [List.mem_cons, List.not_mem_nil, or_false] at hx
    rcases hx with rfl | rfl
    · exact hostRow_refQueue h a
    · exact hostRow_fcs1Ramp h g mask dur ts
  exact ⟨queue_bad row m ho ha, queue_full row m ho ha, queue_room row m ho ha⟩

/-! ### Stopping and replacing (R83, R84) -/

/-- REF_STOP and FCS-1 RAMP_STOP clear the groups that they name and wait for their frame with the count. -/
theorem stop_waits {c : Instr} {op : Nat} {h : CmdHdr} {g : Nat} {s : State}
    (row : HostRow c op h stAny (refStop { h := h, op := op } g)) (m : MayRun op h stAny s) {gs : List Nat}
    (hg : StopGroups g gs) :
    Does c s (fun t => engines t = { engines s with ref := refStopped h op g gs s.ref } ∧
      repliesOf t h.pair = repliesOf s h.pair) :=
  row.setsRef m fun x hx => by
    have href : x.ref = s.ref := congrArg Engines.ref hx
    rw [refStop_ok hg, href]

/-- REF_REPLACE of an entry that checks clears its group, appends the entry without a blend and waits for its frame with
the count. -/
theorem replace_waits {h : CmdHdr} {e : RampArgs} {s : State} (m : MayRun 0x0301 h stRef s)
    (hok : rampBad s false e = false) :
    Does (.refReplace h e) s (fun t =>
      engines t = { engines s with ref := refReplaced h 0x0301 e s.frm.rims s.ref } ∧
      repliesOf t h.pair = repliesOf s h.pair) :=
  (hostRow_refReplace h e).setsRef m fun x hx => by
    have href : x.ref = s.ref := congrArg Engines.ref hx
    have hrims : x.frm.rims = s.frm.rims := congrArg (fun y => y.frm.rims) hx
    rw [refReplace_ok ((rampBad_of_engines hx _ _).trans hok), href, hrims]

/-- REF_PHASE_LOAD of an oscillator waits for its frame. -/
theorem phaseLoad_waits {h : CmdHdr} {nco frame phase : Nat} {s : State} (m : MayRun 0x0303 h stUp s) (hn : nco ≤ 3) :
    Does (.refPhaseLoad h nco frame phase) s (fun t =>
      engines t = { engines s with
        ref := refLoading (loadOfCmd h nco frame phase s.frm.count (ahead frame s.frm.count)) s.ref } ∧
      repliesOf t h.pair = repliesOf s h.pair) :=
  (hostRow_refPhaseLoad h nco frame phase).setsRef m fun x hx => by
    have href : x.ref = s.ref := congrArg Engines.ref hx
    have hcount : x.frm.count = s.frm.count := congrArg (fun y => y.frm.count) hx
    rw [refPhaseLoad_ok hn, href, hcount]

/-- The two commands that stop groups are one stop. -/
theorem hostRow_stop {h : CmdHdr} {g : Nat} {x : Instr × Nat}
    (hx : x ∈ [(Instr.refStop h g, 0x0302), (.fcs1RampStop h g, 0x10031)]) :
    HostRow x.1 x.2 h stAny (refStop { h := h, op := x.2 } g) := by
  simp only [List.mem_cons, List.not_mem_nil, or_false] at hx
  rcases hx with rfl | rfl
  · exact hostRow_refStop h g
  · exact hostRow_fcs1RampStop h g

/-- Settles O25: each command waits for its frame with its change of the references, or is refused by its operand. -/
theorem replacesStopsAndLoadsWait : Obligations.ReplacesStopsAndLoadsWait := by
  intro s h a g nco frame phase
  refine ⟨fun x hx m => ⟨fun gs hg => stop_waits (hostRow_stop hx) m hg, fun h7 hall ho ha => ?_⟩,
    fun m => ⟨replace_waits m, fun hbad ho ha => ?_⟩, fun m => ⟨fun fut hfut hn => ?_, fun hn ho ha => ?_⟩⟩
  · exact (hostRow_stop hx).refuses m ho ha fun _ _ => refStop_bad h7 hall
  · exact (hostRow_refReplace h a).refuses m ho ha fun _ hx =>
      refReplace_bad ((rampBad_of_engines hx _ _).trans hbad)
  · subst hfut
    exact phaseLoad_waits m hn
  · exact (hostRow_refPhaseLoad h nco frame phase).refuses m ho ha fun _ _ => refPhaseLoad_bad hn

/-! ### Refusal by state (R76) -/

theorem stRef_safe {d : DevState} (hd : d = .safeStop ∨ d = .safeBlocked) : stRef d = false := by
  rcases hd with rfl | rfl <;> rfl

/-- The groups that a stop names have no entry queued afterwards. -/
theorem refCleared_queue {gs : List Nat} {r : Ref} {k : Nat} (hk : k < (refCleared gs r).grps.length) (hgs : k ∈ gs) :
    ((refCleared gs r).grps.getD k Grp.reset).queue = [] := by
  have hlen : k < r.grps.length := by simpa [refCleared] using hk
  simp [refCleared, hlen, hgs]

/-- A GROUP of 0 to 7 or 0xFF names groups, among them every group that it stands for. -/
theorem stopGroups_exists {g : Nat} (hg : g ≤ 7 ∨ g = 0xFF) :
    ∃ gs, StopGroups g gs ∧ ∀ k, k < 8 → g = 0xFF ∨ g = k → k ∈ gs := by
  rcases hg with h7 | rfl
  · refine ⟨[g], .inl ⟨h7, rfl⟩, fun k _ hk => List.mem_singleton.mpr ?_⟩
    omega
  · exact ⟨List.range 8, .inr ⟨rfl, rfl⟩, fun k hk _ => List.mem_range.mpr hk⟩

/-- Settles O60: the check of the state refuses the three commands in a safe state, whatever their entry; a stop has no
such check, and clears the groups that it names. -/
theorem rampsAreRefusedInASafeState : Obligations.RampsAreRefusedInASafeState := by
  intro s h a g mask dur ts ho ha
  refine ⟨fun x hx m hst => ?_, fun x hx m hg => ?_⟩
  · have row : ∃ own, HostRow x.1 x.2 h stRef own := by
      simp only [List.mem_cons, List.not_mem_nil, or_false] at hx
      rcases hx with rfl | rfl | rfl
      · exact ⟨_, hostRow_refQueue h a⟩
      · exact ⟨_, hostRow_fcs1Ramp h g mask dur ts⟩
      · exact ⟨_, hostRow_refReplace h a⟩
    obtain ⟨own, row⟩ := row
    refine row.ofStates.refuses m ho ha fun y hy => stateChecked_bad ?_
    rw [show y.st = s.st from congrArg Engines.st hy]
    exact stRef_safe hst
  · obtain ⟨gs, hgs, hmem⟩ := stopGroups_exists hg
    refine (stop_waits (hostRow_stop hx) m hgs).imp fun t ⟨heng, _⟩ => ?_
    have href : t.ref = refStopped h x.2 g gs s.ref := congrArg Engines.ref heng
    rw [href]
    exact ⟨⟨entriesOf gs s.ref, rfl⟩, fun k hk hlen hnamed => refCleared_queue hlen (hmem k hk hnamed)⟩

end Sys2Proof

/-! The cell table: ranges outside the table, the rules that propose a state, and what the observer keeps of an entry. -/

namespace Sys2Proof

open Sys2Proof.Machine

/-! ### Entries under a write -/

/-- A value other than the default is read where it is written, whatever the table's form. -/
theorem get_set_of_ne_default {α : Type} [DecidableEq α] {d v : α} (hv : v ≠ d) (k : Nat) (t : Tab α) :
    Tab.get d (Tab.set d k v t) k = v := by
  induction t with
  | nil => simp [Tab.set, Tab.get, hv]
  | cons x t ih =>
    obtain ⟨i, y⟩ := x
    rcases Nat.lt_trichotomy k i with hlt | rfl | hgt
    · simp [Tab.set, Tab.get, hlt, hv]
    · simp [Tab.set, Tab.get, hv]
    · have hi : i ≠ k := Nat.ne_of_lt hgt
      simp [Tab.set, Tab.get, Nat.not_lt.mpr (Nat.le_of_lt hgt), hi, hi.symm, ih]

theorem ne_reset_of_bound {e : Entry} (hb : e.bound = true) : e ≠ Entry.reset := by
  rintro rfl
  exact absurd hb (by decide)

/-- Where the table is that of a state with a bound entry written, that entry reads as written and every other as before. -/
theorem ent_of_cells {s t : State} {k : Nat} {e : Entry} (hb : e.bound = true) (hcells : t.cells = (s.setEnt k e).cells) :
    t.ent k = e ∧ ∀ j, j ≠ k → t.ent j = s.ent j := by
  simp only [State.ent, hcells, State.setEnt]
  exact ⟨get_set_of_ne_default (ne_reset_of_bound hb) k s.cells, fun j hj => Tab.get_set_other _ _ _ _ _ hj⟩

/-! ### The rules that propose a state (R117, R120, R147) -/

/-- Of the change that stands proposed for an entry and a new one, the one that stands: the stronger, and of two alike
the one whose rule comes first in R117. -/
def standingRule (st cause : Nat) : Option (Nat × Nat) → Option (Nat × Nat)
  | some (st0, c0) =>
    if ruleRank st0 < ruleRank st ∨ (ruleRank st0 = ruleRank st ∧ cause < c0) then some (st, cause) else some (st0, c0)
  | none => some (st, cause)

/-- An entry with a change proposed for it. -/
def proposedEntry (st cause : Nat) (e : Entry) : Entry := { e with nxt := standingRule st cause e.nxt }

theorem proposedEntry_none {st cause : Nat} {e : Entry} (h : e.nxt = none) :
    proposedEntry st cause e = { e with nxt := some (st, cause) } := by
  rw [proposedEntry, h, standingRule]

theorem proposedEntry_some {st cause st0 c0 : Nat} {e : Entry} (h : e.nxt = some (st0, c0)) :
    proposedEntry st cause e =
      if ruleRank st0 < ruleRank st ∨ (ruleRank st0 = ruleRank st ∧ cause < c0) then { e with nxt := some (st, cause) }
      else e := by
  rw [proposedEntry, h, standingRule]
  split
  · rfl
  · rw [← h]

theorem propose_eq (k st cause : Nat) (s : State) :
    propose k st cause s = s.setEnt k (proposedEntry st cause (s.ent k)) := by
  simp only [propose, State.modEnt]
  refine congrArg (fun e => s.setEnt k e) ?_
  split
  next st0 c0 h => exact (proposedEntry_some h).symm
  next h => exact (proposedEntry_none h).symm

/-- The command proposes a state for entry `k`, with a cause, where the entry is bound and `due`, and else does nothing. -/
def ProposesWhen (c : Instr) (k : Nat) (due : State → Bool) (st cause : Nat) : Prop :=
  ∀ s, effect c s = if ((s.ent k).bound && due s) = true then propose k st cause s else s

theorem suspectTimeout_proposes (k : Nat) : ProposesWhen (.suspectTimeout k) k
    (fun s => decide ((s.ent k).st = 3) && decide (s.p 0x6883 ≤ (s.ent k).susp)) 6 0x0C := fun s => by
  simp only [effect, suspectTimeout, Bool.and_eq_true, decide_eq_true_eq]

theorem suspectRecover_proposes (k : Nat) : ProposesWhen (.suspectRecover k) k
    (fun s => decide ((s.ent k).st = 3) && decide (s.p 0x6882 ≤ (s.ent k).good)) 2 0x0B := fun s => by
  simp only [effect, suspectRecover, Bool.and_eq_true, decide_eq_true_eq]

theorem missedLimit_proposes (k : Nat) : ProposesWhen (.missedLimit k) k
    (fun s => decide ((s.ent k).st = 2) && decide (s.p 0x5040 ≤ (s.ent k).missed)) 3 0x09 := fun s => by
  simp only [effect, missedLimit, Bool.and_eq_true, decide_eq_true_eq]

theorem skipLimit_proposes (k : Nat) : ProposesWhen (.skipLimit k) k
    (fun s => decide ((s.ent k).st = 2) && decide (3 ≤ (s.ent k).skips)) 3 0x08 := fun s => by
  simp only [effect, skipLimit, Bool.and_eq_true, decide_eq_true_eq]

section
variable {c : Instr} {k st cause : Nat} {due : State → Bool} {s : State}

theorem ProposesWhen.does (hc : ProposesWhen c k due st cause) (hb : (s.ent k).bound = true)
    (hd : due { s with out := [] } = true) :
    Does c s (fun t => t.ent k = proposedEntry st cause (s.ent k) ∧ (∀ j, j ≠ k → t.ent j = s.ent j) ∧
      engines t = { engines s with cells := t.cells }) := by
  have hboth : ((State.ent { s with out := [] } k).bound && due { s with out := [] }) = true :=
    Bool.and_eq_true_iff.mpr ⟨hb, hd⟩
  have hdoes : Does c s (fun t => engines t =
      { engines s with cells := (s.setEnt k (proposedEntry st cause (s.ent k))).cells }) :=
    does_effect ((hc { s with out := [] }).trans ((if_pos hboth).trans (propose_eq ..))) rfl
  refine hdoes.imp fun t heng => ?_
  have hcells : t.cells = (s.setEnt k (proposedEntry st cause (s.ent k))).cells := congrArg Engines.cells heng
  obtain ⟨hk, hothers⟩ := ent_of_cells (show (proposedEntry st cause (s.ent k)).bound = true from hb) hcells
  exact ⟨hk, hothers, heng.trans (by rw [hcells])⟩

theorem ProposesWhen.idle (hc : ProposesWhen c k due st cause)
    (hno : (s.ent k).bound = false ∨ due { s with out := [] } = false) :
    Does c s (fun t => engines t = engines s) := by
  have hnot : ¬ ((State.ent { s with out := [] } k).bound && due { s with out := [] }) = true :=
    Bool.eq_false_iff.mp (Bool.and_eq_false_iff.mpr hno)
  exact does_effect ((hc { s with out := [] }).trans (if_neg hnot)) (settle_eng _)

end

/-- Settles O43: each of the four commands proposes its state for an entry that is bound and at the limit, and does
nothing else. -/
theorem cellRulesAreProposed : Obligations.CellRulesAreProposed := by
  intro s k e x hx
  have row : ∃ due : State → Bool, due { s with out := [] } = x.2.1 ∧ ProposesWhen x.1 k due x.2.2.1 x.2.2.2 := by
    simp only [List.mem_cons, List.not_mem_nil, or_false] at hx
    rcases hx with rfl | rfl | rfl | rfl
    · exact ⟨_, rfl, suspectTimeout_proposes k⟩
    · exact ⟨_, rfl, suspectRecover_proposes k⟩
    · exact ⟨_, rfl, missedLimit_proposes k⟩
    · exact ⟨_, rfl, skipLimit_proposes k⟩
  obtain ⟨due, hdue, hprop⟩ := row
  rw [← hdue]
  exact ⟨hprop.does, hprop.idle⟩

/-! ### OBS_RESEED (R146) -/

/-- The observer with a reseed counted. -/
def reseedCounted (o : Obs) : Obs := { o with reseeds := satAdd 32 o.reseeds 1 }

/-- An entry reseeded from the run of its implausible reports. -/
def reseeded (s : State) (e : Entry) : Entry := (e.seedFrom s e.runT e.runV).noLearn

theorem obsReseed_due (k : Nat) (s : State) (hb : (s.ent k).bound = true) (hst : (s.ent k).st = 3)
    (hon : s.p 0x5042 ≠ 0) (hrun : s.p 0x5042 ≤ (s.ent k).run) :
    obsReseed k s = raise 0x05 (s.ent k).rod 2 k
      { s.setEnt k (reseeded s (s.ent k)) with obs := reseedCounted s.obs } := if_pos ⟨hb, hst, hon, hrun⟩

theorem obsReseed_idle (k : Nat) (s : State)
    (h : (s.ent k).bound = false ∨ (s.ent k).st ≠ 3 ∨ s.p 0x5042 = 0 ∨ (s.ent k).run < s.p 0x5042) :
    obsReseed k s = s := by
  refine if_neg fun ⟨hb, hst, hon, hrun⟩ => ?_
  rcases h with hub | hother | hoff | hshort
  · exact Bool.eq_false_iff.mp hub hb
  · exact hother hst
  · exact hon hoff
  · exact Nat.not_le.mpr hshort hrun

theorem obsReseed_does (k : Nat) (s : State) (hb : (s.ent k).bound = true) (hst : (s.ent k).st = 3)
    (hon : s.p 0x5042 ≠ 0) (hrun : s.p 0x5042 ≤ (s.ent k).run) :
    Does (.obsReseed k) s (fun t => Reported 5 (s.ent k).rod 2 s t ∧ t.ent k = reseeded s (s.ent k) ∧
      (∀ j, j ≠ k → t.ent j = s.ent j) ∧
      engines t = { engines s with cells := t.cells, obs := reseedCounted s.obs }) := by
  refine (raise_does (c := .obsReseed k) (s := s) (obsReseed_due k { s with out := [] } hb hst hon hrun)
    rfl rfl).imp fun t ⟨hrep, heng⟩ => ?_
  have hcells : t.cells = (s.setEnt k (reseeded s (s.ent k))).cells := congrArg Engines.cells heng
  obtain ⟨hk, hothers⟩ := ent_of_cells (show (reseeded s (s.ent k)).bound = true from hb) hcells
  exact ⟨hrep, hk, hothers, heng.trans (by rw [hcells]; rfl)⟩

/-! ### OBS_CL_BLOCK (R150) -/

/-- An entry whose block of learning has ended. -/
def blockEnded (e : Entry) : Entry := { e with sqq := 0, sqv := 0, nq := 0 }

/-- An entry whose block has given the estimate `c`, of which C_EST takes its share. -/
def blockAccepted (s : State) (c : Int) (e : Entry) : Entry :=
  Entry.touch { blockEnded e with cEst := satU 32 (e.cEst + rdiv (c - e.cEst) (2 ^ s.p 0x5046)), blkAcc := true }

/-- The observer with an accepted, and with a rejected block counted. -/
def acceptCounted (o : Obs) : Obs := { o with clBlocks := satAdd 32 o.clBlocks 1 }
def rejectCounted (o : Obs) : Obs := { o with clRej := satAdd 32 o.clRej 1 }

section
variable {k : Nat} {s : State}

theorem obsClBlock_accepts (hb : (s.ent k).bound = true) (hn : s.p 0x5045 ≤ (s.ent k).nq) {c : Int}
    (hc : blockEst s (s.ent k) = some c) : obsClBlock k s =
      markDirty [k] { s.setEnt k (blockAccepted s c (s.ent k)) with obs := acceptCounted s.obs } := by
  simp only [obsClBlock, hb, hn, hc, true_and, if_true]
  rfl

theorem obsClBlock_rejects (hb : (s.ent k).bound = true) (hn : s.p 0x5045 ≤ (s.ent k).nq)
    (hc : blockEst s (s.ent k) = none) : obsClBlock k s = raise 0x05 (s.ent k).rod 3 k
      { s.setEnt k (blockEnded (s.ent k)) with obs := rejectCounted s.obs } := by
  simp only [obsClBlock, hb, hn, hc, true_and, if_true]
  rfl

theorem obsClBlock_idle (h : (s.ent k).bound = false ∨ (s.ent k).nq < s.p 0x5045) : obsClBlock k s = s := by
  refine if_neg fun ⟨hb, hn⟩ => ?_
  rcases h with hub | hfew
  · exact Bool.eq_false_iff.mp hub hb
  · exact Nat.not_le.mpr hfew hn

/-- An entry that is marked for the next batch stands among those marked. -/
theorem mem_markDirty (k : Nat) (s : State) : k ∈ (markDirty [k] s).rnk.dirty := by
  by_cases h : k ∈ s.rnk.dirty <;> simp [markDirty, h]

theorem obsClBlock_accepts_does (hb : (s.ent k).bound = true) (hn : s.p 0x5045 ≤ (s.ent k).nq) {c : Int}
    (hc : blockEst s (s.ent k) = some c) : Does (.obsClBlock k) s (fun t =>
      t.ent k = blockAccepted s c (s.ent k) ∧ (∀ j, j ≠ k → t.ent j = s.ent j) ∧ k ∈ t.rnk.dirty ∧
      engines t = { engines s with cells := t.cells, rnk := t.rnk, obs := acceptCounted s.obs }) := by
  have hdoes : Does (.obsClBlock k) s (fun t => engines t = { engines s with
      cells := (s.setEnt k (blockAccepted s c (s.ent k))).cells, rnk := (markDirty [k] s).rnk
      obs := acceptCounted s.obs }) :=
    does_effect (obsClBlock_accepts (s := { s with out := [] }) hb hn hc) rfl
  refine hdoes.imp fun t heng => ?_
  have hcells : t.cells = (s.setEnt k (blockAccepted s c (s.ent k))).cells := congrArg Engines.cells heng
  have hrnk : t.rnk = (markDirty [k] s).rnk := congrArg Engines.rnk heng
  obtain ⟨hk, hothers⟩ := ent_of_cells (show (blockAccepted s c (s.ent k)).bound = true from hb) hcells
  exact ⟨hk, hothers, hrnk ▸ mem_markDirty k s, heng.trans (by rw [hcells, hrnk])⟩

theorem obsClBlock_rejects_does (hb : (s.ent k).bound = true) (hn : s.p 0x5045 ≤ (s.ent k).nq)
    (hc : blockEst s (s.ent k) = none) : Does (.obsClBlock k) s (fun t =>
      Reported 5 (s.ent k).rod 3 s t ∧ t.ent k = blockEnded (s.ent k) ∧ (∀ j, j ≠ k → t.ent j = s.ent j) ∧
      engines t = { engines s with cells := t.cells, obs := rejectCounted s.obs }) := by
  refine (raise_does (c := .obsClBlock k) (s := s) (obsClBlock_rejects (s := { s with out := [] }) hb hn hc)
    rfl rfl).imp fun t ⟨hrep, heng⟩ => ?_
  have hcells : t.cells = (s.setEnt k (blockEnded (s.ent k))).cells := congrArg Engines.cells heng
  obtain ⟨hk, hothers⟩ := ent_of_cells (show (blockEnded (s.ent k)).bound = true from hb) hcells
  exact ⟨hrep, hk, hothers, heng.trans (by rw [hcells]; rfl)⟩

end

/-! ### TREND_POINT (R153) -/

/-- Below the lowest key of a canonical table the default is read. -/
theorem get_below {α : Type} [DecidableEq α] {d : α} {lo k : Nat} {t : Tab α} (h : Tab.wfFrom d lo t = true)
    (hk : k < lo) : Tab.get d t k = d := by
  induction t generalizing lo with
  | nil => rfl
  | cons x t ih =>
    obtain ⟨i, y⟩ := x
    simp only [Tab.wfFrom, Bool.and_eq_true, decide_eq_true_eq] at h
    obtain ⟨⟨hlo, -⟩, ht⟩ := h
    have hi : i ≠ k := by omega
    simp only [Tab.get, hi, if_false]
    exact ih ht (by omega)

/-- A change of every listed entry of a canonical table is one of every entry, where it leaves the reset entry. -/
theorem get_mapCells {f : Nat → Entry → Entry} (hf : ∀ j, f j Entry.reset = Entry.reset) {lo : Nat} {t : Tab Entry}
    (h : Tab.wfFrom Entry.reset lo t = true) (j : Nat) :
    Tab.get Entry.reset (mapCells f t) j = f j (Tab.get Entry.reset t j) := by
  induction t generalizing lo with
  | nil => exact (hf j).symm
  | cons x t ih =>
    obtain ⟨i, y⟩ := x
    simp only [Tab.wfFrom, Bool.and_eq_true] at h
    obtain ⟨-, ht⟩ := h
    have hcons : mapCells f ((i, y) :: t) =
        if f i y = Entry.reset then mapCells f t else (i, f i y) :: mapCells f t := by
      by_cases hd : f i y = Entry.reset <;> simp [mapCells, hd]
    by_cases hij : i = j
    · subst hij
      rw [hcons]
      split
      next hd => rw [ih ht, get_below ht (Nat.lt_succ_self i), hf]; simp [Tab.get, hd]
      next => simp [Tab.get]
    · rw [hcons]
      split <;> simp [Tab.get, hij, ih ht]

/-- A trend point for a bound entry; an unbound one stays. -/
def trended (hours : Nat) (e : Entry) : Entry := if e.bound = true then e.trendPoint hours else e

theorem trended_reset (hours : Nat) : trended hours Entry.reset = Entry.reset := rfl

theorem trendPoint_ent (s : State) (h : Tab.wf Entry.reset s.cells = true) (j : Nat) :
    (trendPoint s).ent j = trended (s.p 0x504C) (s.ent j) :=
  get_mapCells (f := fun _ => trended (s.p 0x504C)) (fun _ => trended_reset _) h j

/-! ### TALLY_BATCH (R131) -/

theorem parts_ne_nil {α : Type} {n fuel : Nat} {l : List α} (h : l ≠ []) : parts n (fuel + 1) l ≠ [] := by
  cases l with
  | nil => exact absurd rfl h
  | cons x l => exact List.cons_ne_nil _ _

theorem raiseIf_jnl (c : Bool) (blk inst kind detail : Nat) (s : State) :
    (raiseIf c blk inst kind detail s).jnl = s.jnl := by
  unfold raiseIf
  split
  · obtain ⟨f, e, h⟩ := raise_eq blk inst kind detail s
    rw [h]
  · rfl

theorem jnlFullCheck_batchNum (s : State) : (jnlFullCheck s).jnl.batchNum = s.jnl.batchNum := by
  rw [jnlFullCheck, raiseIf_jnl]

/-- A batch over some entries takes the next number, and no entry stays marked. -/
theorem jnlBatch_of_ne_nil (ckpt : Bool) {ks : List Nat} (s : State) (h : ks ≠ []) :
    ∃ j : Jnl, j.batchNum = (s.jnl.batchNum + 1) % 2 ^ 32 ∧
      jnlBatch ckpt ks s = jnlFullCheck { s with jnl := j, rnk := { s.rnk with dirty := [] } } := by
  have hparts : parts 256 24 (ks.map (batchEnt s)) ≠ [] := parts_ne_nil (fun hm => h (List.map_eq_nil_iff.mp hm))
  simp only [jnlBatch, hparts, if_false]
  exact ⟨_, rfl, rfl⟩

theorem tallyBatch_idle (s : State) (h : jnlTakes s = false ∨ s.rnk.dirty = []) : tallyBatch s = s := by
  unfold tallyBatch
  rcases h with htakes | hnone
  · rw [htakes]
    exact if_neg Bool.false_ne_true
  · rw [hnone]
    exact ite_self s

theorem tallyBatch_does (s : State) (htakes : jnlTakes s = true) (hsome : s.rnk.dirty ≠ []) :
    Does .tallyBatch s (fun t => engines t = { engines s with rnk := { s.rnk with dirty := [] } } ∧
      t.jnl.batchNum = (s.jnl.batchNum + 1) % 2 ^ 32) := by
  obtain ⟨j, hnum, hbatch⟩ := jnlBatch_of_ne_nil false { s with out := [] } hsome
  exact does_effect ((if_pos htakes).trans hbatch)
    ⟨(settle_eng _).trans (jnlFullCheck_eng _), (jnlFullCheck_batchNum _).trans hnum⟩

/-- Settles O44: each command changes the entries and counts of its rule where its condition stands, and nothing
where it does not. -/
theorem cellEstimatesAreKept : Obligations.CellEstimatesAreKept := by
  intro s k
  refine ⟨fun hb hst hon hrun => obsReseed_does k s hb hst hon hrun, fun hidle => ?_, fun hb hn => ⟨fun c hc =>
    obsClBlock_accepts_does hb hn hc, fun hc => obsClBlock_rejects_does hb hn hc⟩, fun hidle => ?_, fun hwf => ?_,
    fun htakes hsome => tallyBatch_does s htakes hsome, fun hidle => ?_⟩
  · exact does_effect (obsReseed_idle k { s with out := [] } hidle) (settle_eng _)
  · exact does_effect (obsClBlock_idle (s := { s with out := [] }) hidle) (settle_eng _)
  · exact does_effect rfl ⟨trendPoint_ent s hwf, rfl⟩
  · exact does_effect (tallyBatch_idle { s with out := [] } hidle) ⟨settle_eng _, rfl⟩

/-! ### Ranges outside the table (R133, R407) -/

/-- Of one command in one state only one final reply is the answer. -/
theorem Does.answers_inj {c : Instr} {s : State} {op st st' : Nat} {h : CmdHdr} {data data' : List Byte}
    (hd : Does c s (Answers op h st data s)) (hd' : Does c s (Answers op h st' data' s)) :
    mkReply { h := h, op := op } st data = mkReply { h := h, op := op } st' data' := by
  obtain ⟨t, ht, ha⟩ := hd
  obtain ⟨t', ht', ha'⟩ := hd'
  cases ht.symm.trans ht'
  exact List.singleton_inj.mp (List.append_cancel_left (ha.symm.trans ha'))

/-- A host command whose own effect is its final reply answers it. -/
theorem HostRow.answers {c : Instr} {op : Nat} {h : CmdHdr} {states : DevState → Bool} {own : State → State} {s : State}
    (row : HostRow c op h states own) (m : MayRun op h states s) (ho : PairOpen s h.pair) (ha : acts s = true)
    {st : Nat} {data : List Byte} (hown : ∀ x, own x = finish { h := h, op := op } st data x) :
    Does c s (Answers op h st data s) :=
  (host_answers c op h states own s row.runs m row.held ho (by simp [Delivers, ha]) st data (hown _)).imp
    fun _ hans => hans.1

theorem hostRow_cellBlock (h : CmdHdr) (first count : Nat) :
    HostRow (.cellBlock h first count) 0x0402 h stUp (cellBlock { h := h, op := 0x0402 } first count) :=
  ⟨rfl, cellBlock_held _ _ _⟩

theorem hostRow_cellClear (h : CmdHdr) (first count : Nat) :
    HostRow (.cellClear h first count) 0x0408 h stAny (cellClear { h := h, op := 0x0408 } first count) :=
  ⟨rfl, cellClear_held _ _ _⟩

section
variable {first count : Nat}

/-- The refusal of a range outside the table names the first entry of the range (log 60). -/
theorem cellBlock_outside (hout : spanOk first count = false) (c : Ctx) (s : State) :
    cellBlock c first count s = finish c 0x0203 (leBytes 2 first) s := if_pos hout

theorem cellClear_outside (hout : spanOk first count = false) (c : Ctx) (s : State) :
    cellClear c first count s = finish c 0x0203 (leBytes 2 first) s := if_neg (Bool.eq_false_iff.mp hout)

end

/-- A single device in READY with the first ring pair open and no command before. -/
def soloReady : State :=
  { State.reset with
    st := .ready
    hif := { Hif.reset with pairs := { RPair.reset with open_ := true } :: List.replicate 3 RPair.reset } }

/-- A command of the first pair without FORCE. -/
def plainHdr : CmdHdr := { pair := 0, seq := 0, tag := 0, force := false, rsvd := false, time := 0 }

theorem soloReady_open : PairOpen soloReady plainHdr.pair := rfl

theorem soloReady_acts : acts soloReady = true := rfl

theorem soloReady_mayRun (op : Nat) {states : DevState → Bool} (hst : states .ready = true) :
    MayRun op plainHdr states soloReady where
  notOff := by decide
  alone := rfl
  turn := ite_self _
  serial := Bool.and_false _
  rsvd := rfl
  force := fun hf => absurd hf Bool.false_ne_true
  role := rfl
  state := hst

/-- Refutes O26: CELL_BLOCK of entry 6144, one past the table, answers 0x0203 with that entry in its data (log 60),
where the statement has no data. -/
theorem not_cellRangesAreCheckedAndWait : ¬ Obligations.CellRangesAreCheckedAndWait := by
  intro hall
  have hmay := soloReady_mayRun 0x0402 (states := stUp) rfl
  obtain ⟨-, hrefused⟩ := hall soloReady plainHdr 6144 1 _ (List.mem_append_left _ (.tail _ (.head _))) hmay
  obtain ⟨hblank, -, -⟩ := hrefused soloReady_open soloReady_acts
  have hnamed := (hostRow_cellBlock plainHdr 6144 1).answers hmay soloReady_open soloReady_acts
    (cellBlock_outside rfl _)
  have hreply := ((hblank rfl).imp fun _ hans => hans.1).answers_inj hnamed
  exact absurd (congrArg Reply.data hreply) (by decide)

/-- Refutes O27: CELL_CLEAR of entry 6144, one past the table, answers 0x0203 with that entry in its data (log 60),
where the statement has no data. -/
theorem not_cellEntriesAreCheckedAndWait : ¬ Obligations.CellEntriesAreCheckedAndWait := by
  intro hall
  have hmay := soloReady_mayRun 0x0408 (states := stAny) rfl
  obtain ⟨-, -, -, -, hclear⟩ := hall soloReady plainHdr
    { entry := 0, rod := 0, lane := 0, slot := 0, kind := 0, minInt := 0, cNom := 1, cellId := 0 } 6144 0 0 0 0 1 []
  obtain ⟨hblank, -⟩ := hclear hmay
  have hnamed := (hostRow_cellClear plainHdr 6144 1).answers hmay soloReady_open soloReady_acts
    (cellClear_outside rfl _)
  have hreply := ((hblank rfl soloReady_open soloReady_acts).imp fun _ hans => hans.1).answers_inj hnamed
  exact absurd (congrArg Reply.data hreply) (by decide)

end Sys2Proof

/-! Test edges: one that is queued for a legal cell, the tests that end with their pending edges, the hold. -/

namespace Sys2Proof

open Sys2Proof.Machine

/-! ### What a test edge does to the firing block (R202–R204) -/

/-- The entry and the level of a test edge check: a place in the table, and a level that the cell's kind has (R202). -/
def EdgeOk (k code : Nat) (e : Entry) : Prop :=
  k < 6144 ∧ (code = 0 ∨ code = 1 ∨ code = 4 ∨ (code = 2 ∧ e.fb = true))

/-- The cell is bound and in a state that takes tests (R202). -/
def TakesTests (e : Entry) : Prop := e.bound = true ∧ e.st ≠ 0 ∧ e.st ≠ 5 ∧ e.st ≠ 6

/-- A test edge as it is queued. -/
def newEdge (h : CmdHdr) (k code time : Nat) : TestEdge :=
  { hdr := h, entry := k, code := code, time := time, late := false, del := false }

/-- The firing block with an edge behind those pending and its cell under test, at block where it was not before. -/
def edgeQueued (te : TestEdge) (f : Fir) : Fir :=
  { f with
    cells := if f.cells.any (fun c => c.entry == te.entry && !c.ended) then f.cells
      else f.cells ++ [{ entry := te.entry, level := 4, last := 0, ended := false }]
    tests := f.tests ++ [te] }

/-- The firing block with the tests of the selected cells ended and their pending edges discarded (R204). -/
def testsEnded (sel : Nat → Bool) (f : Fir) : Fir :=
  { f with
    cells := f.cells.map (fun c => if sel c.entry then { c with ended := true } else c)
    tests := f.tests.filter (fun te => !sel te.entry) }

theorem edgeQueued_underTest (te : TestEdge) (f : Fir) :
    ∃ c ∈ (edgeQueued te f).cells, c.entry = te.entry ∧ c.ended = false := by
  by_cases h : f.cells.any (fun c => c.entry == te.entry && !c.ended) = true
  · rw [edgeQueued, if_pos h]
    simpa using h
  · rw [edgeQueued, if_neg h]
    exact ⟨_, List.mem_append_right _ (List.mem_singleton_self _), rfl, rfl⟩

section
variable {c : Ctx} {k code time : Nat} {s : State}

/-- The first check, of the entry, and the second, of the level, refuse alike. -/
theorem firTestEdge_bad (h : ¬ EdgeOk k code (s.ent k)) : firTestEdge c k code time s = finish c 0x0203 [] s := by
  by_cases hk : 6144 ≤ k
  · exact if_pos hk
  · refine (if_neg hk).trans (if_pos ?_)
    by_cases htwo : code = 2
    · refine .inr ⟨htwo, Bool.eq_false_iff.mpr fun hfb => h ⟨Nat.not_le.mp hk, ?_⟩⟩
      exact .inr (.inr (.inr ⟨htwo, hfb⟩))
    · exact .inl fun hlevel => h ⟨Nat.not_le.mp hk, by omega⟩

/-- An edge that checks passes the first two checks. -/
theorem firTestEdge_checked (h : EdgeOk k code (s.ent k)) : firTestEdge c k code time s =
    if (s.ent k).bound = false ∨ (s.ent k).st = 0 ∨ (s.ent k).st = 5 ∨ (s.ent k).st = 6 then finish c 0x0110 [] s
    else if 64 ≤ s.fir.tests.length then finish c 0x0304 [] s
    else { s with fir := edgeQueued (newEdge c.h k code time) s.fir } := by
  obtain ⟨hk, hlevel⟩ := h
  refine (if_neg (Nat.not_le.mpr hk)).trans (if_neg fun hbad => ?_)
  rcases hbad with hno | ⟨htwo, hfb⟩
  · exact hno (by omega)
  · have hkind : (s.ent k).fb = true := by simpa [htwo] using hlevel
    exact Bool.eq_false_iff.mp hfb hkind

theorem takesTests_iff (e : Entry) : TakesTests e ↔ ¬ (e.bound = false ∨ e.st = 0 ∨ e.st = 5 ∨ e.st = 6) := by
  simp [TakesTests]

theorem firTestEdge_illegal (h : EdgeOk k code (s.ent k)) (hno : ¬ TakesTests (s.ent k)) :
    firTestEdge c k code time s = finish c 0x0110 [] s :=
  (firTestEdge_checked h).trans (if_pos (Classical.not_not.mp (mt (takesTests_iff _).mpr hno)))

theorem firTestEdge_full (h : EdgeOk k code (s.ent k)) (hlegal : TakesTests (s.ent k))
    (hfull : 64 ≤ s.fir.tests.length) : firTestEdge c k code time s = finish c 0x0304 [] s :=
  (firTestEdge_checked h).trans ((if_neg ((takesTests_iff _).mp hlegal)).trans (if_pos hfull))

theorem firTestEdge_room (h : EdgeOk k code (s.ent k)) (hlegal : TakesTests (s.ent k))
    (hroom : s.fir.tests.length < 64) :
    firTestEdge c k code time s = { s with fir := edgeQueued (newEdge c.h k code time) s.fir } :=
  (firTestEdge_checked h).trans ((if_neg ((takesTests_iff _).mp hlegal)).trans (if_neg (Nat.not_le.mpr hroom)))

theorem firTestEnd_named (h : k < 6144 ∨ k = 0xFFFF) :
    firTestEnd c k s = done c [] (testEnd (fun j => decide (k = 0xFFFF) || j == k) s) := if_pos h

theorem firTestEnd_unnamed (hout : 6144 ≤ k) (hone : k ≠ 0xFFFF) : firTestEnd c k s = finish c 0x0203 [] s :=
  if_neg (not_or.mpr ⟨Nat.not_lt.mpr hout, hone⟩)

/-- The replies of the discarded edges leave the blocks of the converter. -/
theorem testAbort_eng (sel : TestEdge → Bool) (s : State) : engines (testAbort sel s) =
    { engines s with fir := { s.fir with tests := s.fir.tests.filter (fun te => !sel te) } } :=
  eng_foldl _ _ _ fun _ _ => finish_eng ..

theorem testEnd_eng (sel : Nat → Bool) (s : State) :
    engines (testEnd sel s) = { engines s with fir := testsEnded sel s.fir } := testAbort_eng ..

end

/-! ### The commands -/

/-- A host command that may run does what its own effect, with the pins that follow, does. -/
theorem HostRow.does {c : Instr} {op : Nat} {h : CmdHdr} {states : DevState → Bool} {own : State → State} {s : State}
    (row : HostRow c op h states own) (m : MayRun op h states s) {P : State → Prop}
    (hown : ∀ x : State, engines x = engines s → (∀ j, repliesOf x j = repliesOf s j) → P (settle (own x))) :
    Does c s P :=
  ⟨_, host_next c op h states own s row.runs m row.held, hown _ (taken_engines ..) fun _ => taken_repliesOf ..⟩

theorem hostRow_firTestEdge (h : CmdHdr) (k code time : Nat) :
    HostRow (.firTestEdge h k code time) 0x0F20 h stMaint (firTestEdge { h := h, op := 0x0F20 } k code time) :=
  ⟨rfl, firTestEdge_held _ _ _ _⟩

theorem hostRow_firTestEnd (h : CmdHdr) (k : Nat) :
    HostRow (.firTestEnd h k) 0x0F21 h stMaint (firTestEnd { h := h, op := 0x0F21 } k) := ⟨rfl, firTestEnd_held _ _⟩

theorem ent_of_engines {x s : State} (hx : engines x = engines s) (k : Nat) : x.ent k = s.ent k :=
  congrArg (fun y : Engines => Tab.get Entry.reset y.cells k) hx

/-- Where the firing block alone has changed, the blocks of the converter are the old ones with it. -/
theorem fir_of_engines {s t : State} {f : Fir} (ht : engines t = { engines s with fir := f }) :
    t.fir = f ∧ engines t = { engines s with fir := t.fir } := by
  have hfir : t.fir = f := congrArg Engines.fir ht
  exact ⟨hfir, hfir ▸ ht⟩

section
variable {h : CmdHdr} {k code time : Nat} {s : State}

theorem firTestEdge_refuses (m : MayRun 0x0F20 h stMaint s) (ho : PairOpen s h.pair) (ha : acts s = true) {st : Nat}
    (hown : ∀ x : State, x.ent k = s.ent k → x.fir = s.fir →
      firTestEdge { h := h, op := 0x0F20 } k code time x = finish { h := h, op := 0x0F20 } st [] x) :
    Does (.firTestEdge h k code time) s (fun t => Answers 0x0F20 h st [] s t ∧ engines t = engines s) :=
  (hostRow_firTestEdge h k code time).refuses m ho ha fun x hx =>
    hown x (ent_of_engines hx k) (congrArg Engines.fir hx)

/-- FIR_TEST_EDGE of a legal cell with room for its edge queues it, and no reply is due. -/
theorem firTestEdge_queues (m : MayRun 0x0F20 h stMaint s) (hok : EdgeOk k code (s.ent k))
    (hlegal : TakesTests (s.ent k)) (hroom : s.fir.tests.length < 64) :
    Does (.firTestEdge h k code time) s (fun t =>
      engines t = { engines s with fir := edgeQueued (newEdge h k code time) s.fir } ∧
      repliesOf t h.pair = repliesOf s h.pair) :=
  (hostRow_firTestEdge h k code time).does m fun x hx hreplies => by
    have hent : x.ent k = s.ent k := ent_of_engines hx k
    have hfir : x.fir = s.fir := congrArg Engines.fir hx
    rw [firTestEdge_room (hent ▸ hok) (hent ▸ hlegal) (hfir ▸ hroom), hfir]
    exact ⟨congrArg (fun y : Engines => { y with fir := edgeQueued (newEdge h k code time) s.fir }) hx, hreplies _⟩

/-- FIR_TEST_END of one cell or of all ends the tests that it names. -/
theorem firTestEnd_ends (m : MayRun 0x0F21 h stMaint s) (hk : k < 6144 ∨ k = 0xFFFF) :
    Does (.firTestEnd h k) s (fun t =>
      engines t = { engines s with fir := testsEnded (fun j => decide (k = 0xFFFF) || j == k) s.fir }) :=
  (hostRow_firTestEnd h k).does m fun x hx _ => by
    have hfir : x.fir = s.fir := congrArg Engines.fir hx
    rw [firTestEnd_named hk, settle_eng, done_eng, testEnd_eng, hx, hfir]

/-- FIR_TEST_HOLD_EXPIRE of a cell whose hold has passed ends its tests (R204). -/
theorem firTestHoldExpire_ends (hover : holdOver s k = true) : Does (.firTestHoldExpire k) s (fun t =>
    engines t = { engines s with fir := testsEnded (fun j => j == k) s.fir }) :=
  does_effect (if_pos hover) ((settle_eng _).trans (testEnd_eng _ _))

theorem firTestHoldExpire_idle (hheld : holdOver s k = false) :
    Does (.firTestHoldExpire k) s (fun t => engines t = engines s) :=
  does_effect (if_neg (Bool.eq_false_iff.mp hheld)) (settle_eng _)

end

/-- Settles O36: an edge is refused by the first check that fails, or queued; FIR_TEST_END and the hold end the tests
that they name. -/
theorem testEdgesAreQueuedAndEnded : Obligations.TestEdgesAreQueuedAndEnded := by
  intro s h k code time
  refine ⟨fun m => ⟨fun ho ha => ⟨fun hbad => ?_, fun hok hno => ?_, fun hok hlegal hfull => ?_⟩,
    fun hok hlegal hroom => ?_⟩, fun m ho ha => ⟨fun hk => ?_, fun hout hone => ?_⟩, fun hover => ?_,
    firTestHoldExpire_idle⟩
  · exact firTestEdge_refuses m ho ha fun x hent _ => firTestEdge_bad (hent ▸ hbad)
  · exact firTestEdge_refuses m ho ha fun x hent _ => firTestEdge_illegal (hent ▸ hok) (hent ▸ hno)
  · exact firTestEdge_refuses m ho ha fun x hent hfir => firTestEdge_full (hent ▸ hok) (hent ▸ hlegal) (hfir ▸ hfull)
  · refine (firTestEdge_queues m hok hlegal hroom).imp fun t ⟨ht, hreplies⟩ => ?_
    obtain ⟨hfir, heng⟩ := fir_of_engines ht
    exact ⟨congrArg Fir.tests hfir, hfir ▸ edgeQueued_underTest _ _, heng, hreplies⟩
  · exact (firTestEnd_ends m hk).imp fun _ => fir_of_engines
  · exact (hostRow_firTestEnd h k).refuses m ho ha fun _ _ => firTestEnd_unnamed hout hone
  · exact (firTestHoldExpire_ends hover).imp fun _ => fir_of_engines

end Sys2Proof

/-! The reset state: its pins and its memories. -/

namespace Sys2Proof

open Sys2Proof.Machine

/-! ### The pins after a reset (R213, R418, R479) -/

/-- A lane in its reset state is DISABLED, which shows no laser (R225). -/
theorem laserOn_reset (s : State) (k : Nat) : laserOn s k LaneS.reset = false := by simp [laserOn, LaneS.reset]

theorem reset_dark : Dark State.reset := fun k l hl => by
  rw [List.eq_of_mem_replicate (n := 24) hl]
  exact laserOn_reset _ k

/-- In a dark device whose lanes all stand with the laser off, the lasers are where R213 has them. -/
theorem lasersOk_of_dark {s : State} (hdark : Dark s) (hoff : ∀ l ∈ s.lnk.lanes, l.laser = false) : LasersOk s := by
  refine List.ext_getElem (by simp [settledLanes]) fun i hi _ => ?_
  have hmem : s.lnk.lanes[i] ∈ s.lnk.lanes := List.getElem_mem hi
  have hfollow : s.lnk.lanes[i] = { s.lnk.lanes[i] with laser := false } := by rw [← hoff _ hmem]
  simp only [settledLanes, List.getElem_mapIdx, hdark i _ hmem]
  exact hfollow

theorem reset_pinsOk : PinsOk State.reset := by
  refine ⟨rfl, lasersOk_of_dark reset_dark fun l hl => ?_⟩
  rw [List.eq_of_mem_replicate (n := 24) hl]
  rfl

/-- Settles O3: no lane of the reset state shows a laser, the journal that is not restored holds FAULT_N low, and the
memories are empty. The values of the reset state, the canonical form and the queue are the model's choice (logs 8, 9
and 10). -/
theorem resetPinsAndMemories : Obligations.ResetPinsAndMemories :=
  ⟨reset_pinsOk, ⟨rfl, rfl⟩, rfl, reset_dark, rfl, rfl⟩

end Sys2Proof

/-! The restart of lanes by command. -/

namespace Sys2Proof

open Sys2Proof.Machine

/-- What stands when a command's own effect begins has the lanes' receivers as they were. -/
theorem taken_lnk (c : Ctx) (s : State) : (taken c s).lnk = s.lnk := by
  obtain ⟨fly, q, n, e, out, htaken⟩ := taken_eq c s
  rw [htaken]

section
variable {c : Instr} {op : Nat} {h : CmdHdr} {states : DevState → Bool} {own : State → State} {s : State}

/-- A host command that may run does what its own effect does to the blocks of the converter, the lanes' receivers and
the replies. -/
theorem HostRow.doesLnk (row : HostRow c op h states own) (m : MayRun op h states s) {P : State → Prop}
    (hown : ∀ x : State, engines x = engines s → x.lnk = s.lnk → (∀ j, repliesOf x j = repliesOf s j) →
      P (settle (own x))) : Does c s P :=
  ⟨_, host_next c op h states own s row.runs m row.held,
    hown _ (taken_engines ..) (taken_lnk ..) fun _ => taken_repliesOf ..⟩

/-- An own effect that the lanes' receivers make a refusal answers it, and no block of the converter changes. -/
theorem HostRow.refusesLnk (row : HostRow c op h states own) (m : MayRun op h states s) (ho : PairOpen s h.pair)
    (ha : acts s = true) {st : Nat}
    (hown : ∀ x : State, engines x = engines s → x.lnk = s.lnk → own x = finish { h := h, op := op } st [] x) :
    Does c s (fun t => Answers op h st [] s t ∧ engines t = engines s) :=
  host_answers c op h states own s row.runs m row.held ho (by simp [Delivers, ha]) st []
    (hown _ (taken_engines ..) (taken_lnk ..))

end

/-! ### What LNK_RESTART does (R230, R231) -/

/-- The restart that waits for the rim. -/
def newRestart (h : CmdHdr) (op mask : Nat) (forced : Bool) : Restart :=
  { hdr := h, opcode := op, mask := mask, forced := forced }

/-- A lane of the mask has no power. -/
def someOff (mask : Nat) (s : State) : Bool := (lanesIn mask).any (fun k => decide ((s.ln k).st = 0))

/-- In RUNNING the restart would leave a supervised rod SHORT. -/
def leavesShort (mask : Nat) (s : State) : Bool := decide (s.st = .running) && lanesShort s mask

section
variable {c : Ctx} {mask : Nat} {s : State}

theorem lnkRestart_off (hoff : someOff mask s = true) : lnkRestart c mask s = finish c 0x0113 [] s := if_pos hoff

theorem lnkRestart_short (hoff : someOff mask s = false) (hshort : leavesShort mask s = true)
    (hforce : c.h.force = false) : lnkRestart c mask s = finish c 0x0111 [] s :=
  (if_neg (Bool.eq_false_iff.mp hoff)).trans ((if_pos hshort).trans (if_neg (Bool.eq_false_iff.mp hforce)))

/-- Where the restart leaves no rod SHORT, or is forced, it waits; what it forces stands with it. -/
theorem lnkRestart_waits (hoff : someOff mask s = false) (hmay : leavesShort mask s = false ∨ c.h.force = true) :
    lnkRestart c mask s = { s with lnk := { s.lnk with
      restarts := s.lnk.restarts ++ [newRestart c.h c.op mask (leavesShort mask s)] } } := by
  refine (if_neg (Bool.eq_false_iff.mp hoff)).trans ?_
  cases hshort : leavesShort mask s with
  | false => exact if_neg (Bool.eq_false_iff.mp hshort)
  | true =>
    have hforce : c.h.force = true := hmay.resolve_left (by simp [hshort])
    exact (if_pos hshort).trans (if_pos hforce)

end

/-- The power of the lanes stands in the lanes' receivers. -/
theorem someOff_of_lnk {x s : State} (hx : x.lnk = s.lnk) (mask : Nat) : someOff mask x = someOff mask s := by
  have hln : x.ln = s.ln := by funext k; rw [State.ln, hx, State.ln]
  rw [someOff, hln, someOff]

/-- Which rods a restart leaves SHORT stands in the blocks of the converter (R128). -/
theorem leavesShort_of_engines {x s : State} (hx : engines x = engines s) (mask : Nat) :
    leavesShort mask x = leavesShort mask s := by
  have hst : x.st = s.st := congrArg Engines.st hx
  have hcells : x.cells = s.cells := congrArg Engines.cells hx
  have hparams : x.params = s.params := congrArg Engines.params hx
  have hpI : x.pI = s.pI := by funext id; simp only [State.pI, pvI, hparams]
  have hp : x.p = s.p := by funext id; simp only [State.p, pv, pvI, hparams]
  unfold leavesShort lanesShort wouldShort State.rodL spareOf
  rw [hst, hcells, hpI, hp]

/-- LNK_RESTART and FCS-1 LINK_RESET are one restart. -/
theorem hostRow_restart {h : CmdHdr} {mask : Nat} {x : Instr × Nat}
    (hx : x ∈ [(Instr.lnkRestart h mask, 0x0502), (.fcs1LinkReset h mask, 0x10050)]) :
    HostRow x.1 x.2 h stUp (lnkRestart { h := h, op := x.2 } mask) := by
  simp only [List.mem_cons, List.not_mem_nil, or_false] at hx
  rcases hx with rfl | rfl <;> exact ⟨rfl, lnkRestart_held _ _⟩

/-- A restart that may be waits for the rim, and no reply is due. -/
theorem restart_waits {c : Instr} {op : Nat} {h : CmdHdr} {mask : Nat} {s : State}
    (row : HostRow c op h stUp (lnkRestart { h := h, op := op } mask)) (m : MayRun op h stUp s)
    (hoff : someOff mask s = false) (hmay : leavesShort mask s = false ∨ h.force = true) : Does c s (fun t =>
      t.lnk.restarts = s.lnk.restarts ++ [newRestart h op mask (leavesShort mask s)] ∧
      engines t = engines s ∧ repliesOf t h.pair = repliesOf s h.pair) :=
  row.doesLnk m fun x heng hlnk hreplies => by
    have hshort := leavesShort_of_engines heng mask
    have hnew := lnkRestart_waits (c := { h := h, op := op }) ((someOff_of_lnk hlnk mask).trans hoff)
      (hmay.imp_left hshort.trans)
    rw [hnew, hshort, hlnk]
    exact ⟨rfl, heng, hreplies _⟩

/-- Settles O28: both commands are one restart, which waits or is refused by the lanes' power and the rods it leaves. -/
theorem linkRestartsWait : Obligations.LinkRestartsWait := by
  intro s h mask x hx m
  have row := hostRow_restart hx
  refine ⟨restart_waits row m, fun ho ha => ⟨fun hoff => ?_, fun hoff hshort hforce => ?_⟩⟩
  · exact row.refusesLnk m ho ha fun y _ hy => lnkRestart_off ((someOff_of_lnk hy mask).trans hoff)
  · exact row.refusesLnk m ho ha fun y heng hy => lnkRestart_short ((someOff_of_lnk hy mask).trans hoff)
      ((leavesShort_of_engines heng mask).trans hshort) hforce

end Sys2Proof

/-! The bring-up of a lane: what an event of one lane leaves alone, its failures, its loss, and the light without a row to
train on. -/

namespace Sys2Proof

open Sys2Proof.Machine

/-! ### What an event of a lane leaves alone -/

/-- No other lane changes, and of the other blocks only event parameters, cells, the cell protocol and the rank. -/
def LaneRest (k : Nat) (s t : State) : Prop :=
  (∀ j, j ≠ k → LaneSame (t.ln j) (s.ln j)) ∧
    engines t = { engines s with params := t.params, cells := t.cells, cev := t.cev, rnk := t.rnk }

/-- Nothing changes in the converter and its lanes. -/
def LanesUnmoved (s t : State) : Prop := engines t = engines s ∧ ∀ j, LaneSame (t.ln j) (s.ln j)

/-- The lane waits for its retry after a failure of its bring-up (R227). -/
def LaneFailed (k cause : Nat) (s t : State) : Prop :=
  LaneRest k s t ∧ (t.ln k).st = 8 ∧ (t.ln k).cause = cause ∧
    (t.ln k).retries = satAdd 4 (s.ln k).retries 1 ∧ (t.ln k).caps = []

/-- The pins follow a lane's state without changing it otherwise. -/
theorem settle_ln_of_eq {x : State} {j : Nat} {l : LaneS} (h : x.ln j = l) : LaneSame ((settle x).ln j) l :=
  h ▸ settle_ln x j

theorem LaneForm.rest {k : Nat} {s x : State} (h : LaneForm k s x) : LaneRest k s (settle x) :=
  ⟨fun _ hj => settle_ln_of_eq (h.other hj), (settle_eng x).trans h.engines⟩

/-- A command without an effect on the blocks of the converter and the lanes' receivers. -/
theorem unmoved_does {c : Instr} {s x : State} (he : effect c { s with out := [] } = x) (heng : engines x = engines s)
    (hlnk : x.lnk = s.lnk) : Does c s (LanesUnmoved s) :=
  does_effect he ⟨(settle_eng x).trans heng, fun j =>
    settle_ln_of_eq (congrArg (fun n => n.lanes.getD j LaneS.reset) hlnk)⟩

/-- A command without an effect. -/
theorem idle_does {c : Instr} {s : State} (he : effect c { s with out := [] } = { s with out := [] }) :
    Does c s (LanesUnmoved s) := unmoved_does he rfl rfl

/-- A command that changes the state of one lane alone. -/
theorem modLn_does {c : Instr} {s : State} {k : Nat} {f : LaneS → LaneS}
    (he : effect c { s with out := [] } = State.modLn k f { s with out := [] }) (hk : k < s.lnk.lanes.length) :
    Does c s (fun t => engines t = engines s ∧ LaneSame (t.ln k) (f (s.ln k)) ∧ LaneRest k s t) :=
  does_effect he ⟨(settle_eng _).trans (State_modLn_eng ..), settle_ln_of_eq (modLn_self f hk),
    (modLn_form k f _).rest⟩

/-! ### Failures of the bring-up (R225, R227, R264) -/

/-- A lane whose bring-up fails waits for its retry. -/
theorem laneFail_settled {k cause : Nat} {s : State} (hk : k < s.lnk.lanes.length) :
    LaneFailed k cause s (settle (laneFail k cause s)) := by
  have hself := settle_ln (laneFail k cause s) k
  obtain ⟨hst, hcause, hretries, hcaps⟩ := laneFail_ln k cause s hk
  exact ⟨(laneFail_form k cause s).rest, (congrArg LaneS.st hself).trans hst, (congrArg LaneS.cause hself).trans hcause,
    (congrArg LaneS.retries hself).trans hretries, (congrArg LaneS.caps hself).trans hcaps⟩

theorem laneFail_does {c : Instr} {s : State} {k cause : Nat}
    (he : effect c { s with out := [] } = laneFail k cause { s with out := [] }) (hst : (s.ln k).st ≠ 0) :
    Does c s (LaneFailed k cause s) :=
  does_effect he (laneFail_settled (s := { s with out := [] }) (lane_lt hst))

section
variable {k : Nat} {s : State}

theorem capsTo_idle (h : (s.ln k).st ≠ 4 ∨ (s.ln k).caps ≠ [] ∨ (s.cv k).conc.isSome = true) : capsTo k s = s := by
  refine if_neg fun ⟨_, hst, hcaps, hconc⟩ => ?_
  rcases h with hother | hsome | hown
  · exact hother hst
  · exact hsome hcaps
  · rw [Option.isNone_iff_eq_none.mp hconc] at hown
    exact Bool.noConfusion hown

theorem discTo_idle (h : (s.ln k).st ≠ 5 ∨ (s.ln k).roundOk = true) : discTo k s = s := by
  refine if_neg fun ⟨_, hst, hround⟩ => ?_
  rcases h with hother | hdone
  · exact hother hst
  · exact Bool.eq_false_iff.mp hround hdone

/-- Every assigned cell of the lane has been ranged or has used up its attempts (R264). -/
def triedOut (s : State) (k : Nat) : Bool :=
  (assigned s k).all (fun e => e.2.ranged || decide (s.p 0x9021 ≤ e.2.tries))

/-- A cell of the lane has been ranged. -/
def someRanged (s : State) (k : Nat) : Bool := (assigned s k).any (fun e => e.2.ranged)

/-- What the first round of a tree gives once it is over (R264). -/
theorem discRound_tree (hst : (s.ln k).st = 5) (hgen : (s.ln k).gen ≠ 1) (hround : (s.ln k).roundOk = false) :
    discRound k s = if triedOut s k = false then s
      else if someRanged s k = true then s.modLn k (fun x => { x with roundOk := true }) else laneFail k 5 s := by
  simp only [discRound, hgen, hst, hround, decide_false, Bool.false_eq_true, if_false, ne_eq, not_true_eq_false, false_or,
    or_false]
  rfl

theorem discRoundEnd_effect (hk : k < 24) : effect (.lnkDiscRoundEnd k) s = discRound k s := if_pos hk

end

/-! ### Loss of signal (R228) -/

section
variable {k : Nat} {s : State}

theorem lnkLos_idle (h : (s.ln k).st ≠ 6) : lnkLos k s = s := if_pos (.inr h)

theorem lnkLos_one (hk : k < 24) (hst : (s.ln k).st = 6) (hgen : (s.ln k).gen = 1) :
    lnkLos k s = s.modLn k (fun x => { x with due := some (1, 6) }) :=
  (if_neg (by omega)).trans (if_pos hgen)

theorem lnkLos_tree (hk : k < 24) (hst : (s.ln k).st = 6) (hgen : (s.ln k).gen ≠ 1)
    (hrun : s.p 0x8207 ≤ (s.ln k).losRun) : lnkLos k s = laneLost k s :=
  (if_neg (by omega)).trans ((if_neg hgen).trans (if_pos hrun))

theorem laneToDetect_downs (k st : Nat) (s : State) : (laneToDetect k st s).lnk.downs = s.lnk.downs := by
  obtain ⟨c, v, hleave⟩ := laneLeave_eq k s
  rw [laneToDetect, hleave]
  rfl

/-- A loss is counted. -/
theorem laneLost_downs (k : Nat) (s : State) : (laneLost k s).lnk.downs = satAdd 32 s.lnk.downs 1 := by
  obtain ⟨f, e, hraise⟩ := raise_eq 0x08 k 3 6 { s with lnk := { s.lnk with downs := satAdd 32 s.lnk.downs 1 } }
  rw [laneLost, State.modLn, laneToDetect_downs, hraise]

theorem lnkLos_loses (hk : k < 24) (hst : (s.ln k).st = 6) (hgen : (s.ln k).gen ≠ 1)
    (hrun : s.p 0x8207 ≤ (s.ln k).losRun) : Does (.lnkLos k) s (fun t =>
      LaneRest k s t ∧ (t.ln k).st = 1 ∧ (t.ln k).cause = 6 ∧ t.lnk.downs = satAdd 32 s.lnk.downs 1) := by
  refine does_effect (lnkLos_tree (s := { s with out := [] }) hk hst hgen hrun) ?_
  have hself := settle_ln (laneLost k { s with out := [] }) k
  obtain ⟨hdet, hcause⟩ := laneLost_ln k { s with out := [] } (lane_lt (s := s) (by omega))
  exact ⟨(laneLost_form k { s with out := [] }).rest, (congrArg LaneS.st hself).trans hdet,
    (congrArg LaneS.cause hself).trans hcause, laneLost_downs k { s with out := [] }⟩

end

/-- Settles O38: each time-out fails the bring-up in its own state of the lane alone, the first round by what it has
ranged; a loss takes the lane out of ACTIVE, on Cevel-1 at the next rim. -/
theorem laneTimeoutsAndLosses : Obligations.LaneTimeoutsAndLosses := by
  intro s k hk
  refine ⟨fun hst => ?_, fun hst => ?_, fun hst hcaps hconc => ?_, fun hidle => ?_, fun hst hround => ?_,
    fun hidle => ?_, fun hst hgen hround => ?_, lnkLos_loses hk, fun hst hgen => ?_, fun hst => ?_⟩
  · exact laneFail_does (if_pos ⟨hk, hst⟩) (by omega)
  · exact idle_does (if_neg fun h => hst h.2)
  · exact laneFail_does (if_pos ⟨hk, hst, hcaps, Option.isNone_iff_eq_none.mpr hconc⟩) (by omega)
  · exact idle_does (capsTo_idle hidle)
  · exact laneFail_does (if_pos ⟨hk, hst, hround⟩) (by omega)
  · exact idle_does (discTo_idle hidle)
  · have hend := (discRoundEnd_effect hk).trans (discRound_tree (s := { s with out := [] }) hst hgen hround)
    have hended : triedOut s k = true → triedOut { s with out := [] } k ≠ false :=
      fun hover hopen => Bool.noConfusion (hover.symm.trans hopen)
    refine ⟨fun hover hany => ?_, fun hover hnone => ?_, fun hopen => idle_does (hend.trans (if_pos hopen))⟩
    · have hdone := hend.trans ((if_neg (hended hover)).trans (if_pos hany))
      exact modLn_does (c := .lnkDiscRoundEnd k) hdone (lane_lt (by omega))
    · have hfail := hend.trans ((if_neg (hended hover)).trans (if_neg (Bool.eq_false_iff.mp hnone)))
      exact laneFail_does (c := .lnkDiscRoundEnd k) hfail (by omega)
  · exact (modLn_does (c := .lnkLos k) (lnkLos_one (s := { s with out := [] }) hk hst hgen) (lane_lt (by omega))).imp
      fun t ⟨_, hself, hrest⟩ => ⟨hrest, hself⟩
  · exact idle_does (lnkLos_idle hst)

/-! ### Light without a row to train on (R221, R223, R225) -/

/-- The parameters of TRAIN of a lane: its rows, the dwell and the least figure. -/
def trainParams (k i : Nat) : Bool := inRun i (0x8000 + 8 * k) 8 || decide (i = 0x8200) || decide (i = 0x8201)

/-- A lane that has found light: the parameters of TRAIN in force, every valid row to be measured. -/
def trainStart (k : Nat) (s : State) : State :=
  (fireP (trainParams k) s).modLn k (fun l => { l with
    st := if acts s then 2 else 1, light := true, foms := List.replicate 8 FomRow.reset
    rows := validRows (fireP (trainParams k) s) k, dsErr := false, adopted := false, noLight := false })

/-- Without a valid row none is eligible: the bring-up fails with cause 2, EQ_NONE (R223). -/
theorem lightDetect_noRows {k : Nat} {s : State} (hk : k < 24) (hst : (s.ln k).st = 1) (hlight : (s.ln k).light = false)
    (hrows : validRows (fireP (trainParams k) s) k = []) : lightDetect k s = laneFail k 2 (trainStart k s) :=
  (if_pos ⟨hk, hst, hlight⟩).trans (if_pos hrows)

/-- A lane in DETECT with no valid row waits for its retry when it finds light. -/
theorem lnkLightDetect_noRows {k : Nat} {s : State} (hk : k < 24) (hst : (s.ln k).st = 1)
    (hlight : (s.ln k).light = false) (hrows : validRows (fireP (trainParams k) s) k = []) :
    Does (.lnkLightDetect k) s (fun t => (t.ln k).st = 8) := by
  refine does_effect (lightDetect_noRows (s := { s with out := [] }) hk hst hlight hrows) ?_
  have hlen : k < (trainStart k { s with out := [] }).lnk.lanes.length :=
    Nat.lt_of_lt_of_eq (lane_lt (s := s) (by omega)) (modAt_length ..).symm
  obtain ⟨_, h8, _⟩ := laneFail_settled (cause := 2) hlen
  exact h8

/-- What a command does in two ways it does in one state. -/
theorem Does.common {c : Instr} {s : State} {P Q : State → Prop} (hP : Does c s P) (hQ : Does c s Q) :
    ∃ t, P t ∧ Q t := by
  obtain ⟨t, ht, hPt⟩ := hP
  obtain ⟨u, hu, hQu⟩ := hQ
  cases ht.symm.trans hu
  exact ⟨t, hPt, hQu⟩

/-- A single device in READY with lane 0 in DETECT, whose row 0, alone valid by default, is written not valid. -/
def rowlessDetect : State :=
  { soloReady with
    params := { soloReady.params with vals := [(0x8000, some 0)] }
    lnk := { Lnk.reset with lanes := { LaneS.reset with st := 1 } :: List.replicate 23 LaneS.reset } }

theorem rowlessDetect_noRows : validRows (fireP (trainParams 0) rowlessDetect) 0 = [] := by decide

/-- Refutes O37: light on a lane in DETECT that has no valid row puts it into its retry wait (state 8) with EQ_NONE,
where the statement has it in TRAIN over no row. R221 refuses the write that leaves an enabled lane so, but the statement
is about every state and has no such premise. -/
theorem not_laneBringUpAdvances : ¬ Obligations.LaneBringUpAdvances := by
  intro hall
  obtain ⟨hlight, -⟩ := hall rowlessDetect 0 (by decide)
  obtain ⟨htrains, -⟩ := hlight rfl rfl
  obtain ⟨t, ⟨-, htrain, -⟩, hretry⟩ :=
    htrains.common (lnkLightDetect_noRows (by decide) rfl rfl rowlessDetect_noRows)
  have h82 : 8 = 2 := hretry.symm.trans htrain
  exact absurd h82 (by decide)

end Sys2Proof

/-! Ranging, beacons, announcements and capabilities. -/

namespace Sys2Proof

open Sys2Proof.Machine

/-! ### What a lane hears (R216, R228) -/

/-- A lane is changed where it is one of the lanes. -/
theorem modLn_cases (k : Nat) (f : LaneS → LaneS) (s : State) :
    (s.modLn k f).ln k = f (s.ln k) ∨ (s.modLn k f).ln k = s.ln k := by
  rcases Nat.lt_or_ge k s.lnk.lanes.length with hk | hk
  · exact .inl (modLn_self f hk)
  · exact .inr (by simp only [State.ln, State.modLn, modAt, List.modify_eq_self hk])

/-- What a change leaves of every lane state it leaves of the lane. -/
theorem modLn_kept {β : Type} (π : LaneS → β) (k : Nat) (f : LaneS → LaneS) (s : State)
    (h : ∀ l, π (f l) = π l) : π ((s.modLn k f).ln k) = π (s.ln k) := by
  rcases modLn_cases k f s with hset | hkept
  · rw [hset, h]
  · rw [hkept]

/-- The lane of an event may have a burst heard; the rest of its state, the other lanes and the blocks of the converter
stay. -/
structure Hears (k : Nat) (s x : State) : Prop where
  eng    : engines x = engines s
  length : x.lnk.lanes.length = s.lnk.lanes.length
  other  : ∀ j, j ≠ k → x.ln j = s.ln j
  self   : ∃ b, x.ln k = { s.ln k with locked := b }

/-- A lane with a burst heard. -/
def heard (k : Nat) (s : State) : State := s.modLn k (fun x => { x with locked := true })

section
variable {k : Nat} {s x : State}

theorem hears_of_lnk (heng : engines x = engines s) (hlnk : x.lnk = s.lnk) : Hears k s x := by
  have hln : x.ln = s.ln := by funext j; rw [State.ln, hlnk, State.ln]
  exact ⟨heng, by rw [hlnk], fun j _ => by rw [hln], (s.ln k).locked, by rw [hln]⟩

theorem heard_hears (heng : engines x = engines s) (hlnk : x.lnk = s.lnk) : Hears k s (heard k x) := by
  obtain ⟨_, hlen, hother, _⟩ := hears_of_lnk (k := k) heng hlnk
  have hself : x.ln k = s.ln k := by rw [State.ln, hlnk, State.ln]
  refine ⟨(State_modLn_eng ..).trans heng, (modAt_length ..).trans hlen,
    fun j hj => (modLn_ne x _ hj).trans (hother j hj), ?_⟩
  rcases modLn_cases k (fun l => { l with locked := true }) x with hset | hkept
  · exact ⟨true, hset.trans (by rw [hself])⟩
  · exact ⟨(s.ln k).locked, hkept.trans hself⟩

namespace Hears

variable (hx : Hears k s x)
include hx

theorem st : (x.ln k).st = (s.ln k).st := by obtain ⟨b, hb⟩ := hx.self; rw [hb]

theorem gen : (x.ln k).gen = (s.ln k).gen := by obtain ⟨b, hb⟩ := hx.self; rw [hb]

theorem caps : (x.ln k).caps = (s.ln k).caps := by obtain ⟨b, hb⟩ := hx.self; rw [hb]

theorem cev : x.cev = s.cev := congrArg Engines.cev hx.eng

theorem cv (j : Nat) : x.cv j = s.cv j := by rw [State.cv, hx.cev, State.cv]

theorem cells : x.cells = s.cells := congrArg Engines.cells hx.eng

theorem p (i : Nat) : x.p i = s.p i := by
  have hparams : x.params = s.params := congrArg Engines.params hx.eng
  simp only [State.p, pv, pvI, hparams]

/-- What the rules of the lane change from there, they change from the state before. -/
theorem rest {t : State} (h : LaneRest k x t) : LaneRest k s t := by
  obtain ⟨hothers, heng⟩ := h
  exact ⟨fun j hj => hx.other j hj ▸ hothers j hj, by rw [heng, hx.eng]⟩

end Hears

end

/-! ### What the assignment of cells changes (R261) -/

/-- Cells, the cell protocol, and what a fault leaves in the collector and the event recorder. -/
def CellForm (s t : State) : Prop := ∃ c v f e, t = { s with cells := c, cev := v, flt := f, evr := e }

theorem CellForm.refl (s : State) : CellForm s s := ⟨_, _, _, _, rfl⟩

theorem CellForm.trans {a b c : State} (h1 : CellForm a b) (h2 : CellForm b c) : CellForm a c := by
  obtain ⟨_, _, _, _, e1⟩ := h1
  obtain ⟨_, _, _, _, e2⟩ := h2
  exact ⟨_, _, _, _, by rw [e2, e1]⟩

theorem CellForm.lane {s t : State} (h : CellForm s t) (k : Nat) : LaneForm k s t := by
  obtain ⟨_, _, _, _, e⟩ := h
  rw [e]
  exact ⟨_, _, _, _, _, _, _, _, rfl, rfl, fun _ _ => rfl⟩

theorem CellForm.lnk {s t : State} (h : CellForm s t) : t.lnk = s.lnk := by
  obtain ⟨_, _, _, _, e⟩ := h
  rw [e]

theorem CellForm.foldl {α : Type} {f : State → α → State} (hf : ∀ s x, CellForm s (f s x)) (l : List α) (s : State) :
    CellForm s (l.foldl f s) := foldl_form CellForm.refl (fun _ _ _ => CellForm.trans) f hf l s

section
variable (k i : Nat) (s : State)

theorem setEnt_cellForm (e : Entry) : CellForm s (s.setEnt i e) := ⟨_, _, _, _, rfl⟩

theorem raise_cellForm (blk inst kind detail : Nat) : CellForm s (raise blk inst kind detail s) := by
  obtain ⟨_, _, h⟩ := raise_eq blk inst kind detail s
  exact ⟨_, _, _, _, h⟩

theorem mgtSend_cellForm (m : Mgt) : CellForm s (mgtSend k m s) := by
  unfold mgtSend
  simp only
  split
  · exact ⟨_, _, _, _, rfl⟩
  · exact CellForm.refl s

theorem assignTo_cellForm (c : Seen) : CellForm s (assignTo k i c s) := by
  unfold assignTo
  simp only
  split
  · split
    · exact (setEnt_cellForm ..).trans (setEnt_cellForm ..)
    · exact setEnt_cellForm ..
  · exact (setEnt_cellForm ..).trans (mgtSend_cellForm ..)

theorem assignPass_cellForm (byId : Bool) : CellForm s (assignPass k byId s) := by
  refine CellForm.foldl (fun a c => ?_) _ s
  split
  · exact assignTo_cellForm ..
  · exact CellForm.refl a

theorem assignLane_cellForm : CellForm s (assignLane k s) := by
  unfold assignLane
  split
  · refine ((assignPass_cellForm ..).trans (assignPass_cellForm ..)).trans (CellForm.foldl (fun a c => ?_) _ _)
    split
    · exact CellForm.refl a
    · refine CellForm.trans ⟨_, _, _, _, rfl⟩ (raise_cellForm ..)
  · exact CellForm.refl s

end

/-! ### Cells gathered (R225, R261, R263) -/

/-- The capabilities of a lane with a cell's own data taken in: a new identity other than 0, in rising order. -/
def capsWith (port : Nat) (c : Seen) (caps : List (Nat × Seen)) : List (Nat × Seen) :=
  if c.id = 0 ∨ caps.any (fun x => x.2.id == c.id) = true then caps
  else insertBy (fun a b => decide (a.2.id < b.2.id)) (port, c) caps

/-- The cell's own data is among the capabilities of the lane, which stays in its state. -/
def CapsGathered (k port : Nat) (c : Seen) (s t : State) : Prop :=
  LaneRest k s t ∧ (t.ln k).st = (s.ln k).st ∧ (t.ln k).caps = capsWith port c (s.ln k).caps

section
variable {k port : Nat} {c : Seen} {s : State}

theorem gather_form : LaneForm k s (gather k port c s) := by
  unfold gather
  split
  · exact LaneForm.refl k s
  · exact (modLn_form k _ s).trans ((assignLane_cellForm ..).lane k)

theorem gather_ln (hk : k < s.lnk.lanes.length) :
    (gather k port c s).ln k = { s.ln k with caps := capsWith port c (s.ln k).caps } := by
  unfold gather capsWith
  split
  · rfl
  · rw [State.ln, (assignLane_cellForm ..).lnk]
    exact modLn_self _ hk

/-- A command that gathers a cell after its burst is heard. -/
theorem gather_does {i : Instr} {x : State} (he : effect i { s with out := [] } = gather k port c x) (hx : Hears k s x)
    (hk : k < s.lnk.lanes.length) : Does i s (CapsGathered k port c s) := by
  have hself := settle_ln_of_eq (gather_ln (port := port) (c := c) (Nat.lt_of_lt_of_eq hk hx.length.symm))
  exact does_effect he ⟨hx.rest gather_form.rest, (congrArg LaneS.st hself).trans hx.st,
    (congrArg LaneS.caps hself).trans (congrArg (capsWith port c) hx.caps)⟩

end

/-! ### Rangings (R262–R265, R269) -/

/-- What a lane's protocol keeps when the lane leaves its active state. -/
def forgotten (c : CevLane) : CevLane :=
  { c with weave := none, next := none, ranging := none, mgt := [], late := [], seen := [], unknown := [], conc := none
           concTries := 0, concDelay := none, nblk := 0 }

/-- No ranging is open on the lane, and so many are counted as done and as failed. -/
def RangeIdle (k done failed : Nat) (s : State) : Prop :=
  (s.cv k).ranging = none ∧ (s.cv k).done = done ∧ (s.cv k).failed = failed

theorem RangeIdle.of_cv {k : Nat} {s : State} {c : CevLane} (h : s.cv k = c) (hc : c.ranging = none) :
    RangeIdle k c.done c.failed s := by
  subst h
  exact ⟨hc, rfl, rfl⟩

/-- The protocol of a lane after a failed attempt, on Cevel-1 one of the concentrator. -/
def attemptFailed (gen : Nat) (c : CevLane) : CevLane :=
  { c with ranging := none, failed := satAdd 16 c.failed 1
           concTries := if gen = 1 then c.concTries + 1 else c.concTries }

/-- The protocol of a lane after an accepted delay, on Cevel-1 that of the concentrator. -/
def attemptDone (gen d : Nat) (c : CevLane) : CevLane :=
  { c with ranging := none, done := satAdd 16 c.done 1, concDelay := if gen = 1 then some d else c.concDelay }

section
variable {k : Nat} {s : State}

theorem modCv_self (f : CevLane → CevLane) (h : k < s.cev.lanes.length) : (s.modCv k f).cv k = f (s.cv k) :=
  modAt_getD_self _ _ _ _ h

theorem laneLeave_cev (k : Nat) (s : State) :
    (laneLeave k s).cev = { s.cev with lanes := modAt s.cev.lanes k forgotten } := by
  have hprop : ∀ (l : List Nat) (x : State), (l.foldl
      (fun a i => if 1 ≤ (a.ent i).st ∧ (a.ent i).st ≤ 4 then propose i 0 0x13 a else a) x).cev = x.cev :=
    fun l x => foldl_kept (fun y => y.cev) l _ x fun a i => by split <;> rfl
  have hforget : ∀ (l : List Nat) (x : State), (l.foldl (fun a i => a.modEnt i (fun e =>
      { e with seen := none, ranged := false, tries := 0, echoed := false, cfgDue := false })) x).cev = x.cev :=
    fun l x => foldl_kept (fun y => y.cev) l _ x fun _ _ => rfl
  simp only [laneLeave, State.modCv, State.modLn, hforget, hprop]
  rfl

theorem raiseIf_cev (q : Bool) (blk inst kind detail : Nat) (s : State) :
    (raiseIf q blk inst kind detail s).cev = s.cev := congrArg Engines.cev (raiseIf_eng q blk inst kind detail s)

theorem raise_cev (blk inst kind detail : Nat) (s : State) : (raise blk inst kind detail s).cev = s.cev :=
  congrArg Engines.cev (raise_eng blk inst kind detail s)

theorem laneFail_cev (k cause : Nat) (s : State) : (laneFail k cause s).cev = (laneLeave k s).cev := by
  simp only [laneFail, raiseIf_cev, raise_cev]
  rfl

theorem ite_ite_cases {α : Type} (p q : Prop) [Decidable p] [Decidable q] (a b c : α) :
    (if p then a else if q then b else c) = a ∨ (if p then a else if q then b else c) = b ∨
      (if p then a else if q then b else c) = c := by
  by_cases hp : p <;> by_cases hq : q <;> simp [hp, hq]

/-- The end of a round leaves the lane, marks it, or fails its bring-up. -/
theorem discRound_cases (k : Nat) (s : State) : discRound k s = s ∨
    discRound k s = s.modLn k (fun x => { x with roundOk := true }) ∨ discRound k s = laneFail k 5 s :=
  ite_ite_cases ..

theorem discRound_form (k : Nat) (s : State) : LaneForm k s (discRound k s) := by
  rcases discRound_cases k s with h | h | h <;> rw [h]
  · exact LaneForm.refl k s
  · exact modLn_form k _ s
  · exact laneFail_form k 5 s

theorem discRound_elsewhere (h : (s.ln k).st ≠ 5) : discRound k s = s := if_pos (.inl h)

/-- The end of a round opens no ranging and counts none. -/
theorem discRound_rangeIdle {done failed : Nat} (hk : k < s.cev.lanes.length) (h : RangeIdle k done failed s) :
    RangeIdle k done failed (discRound k s) := by
  rcases discRound_cases k s with hr | hr | hr <;> rw [hr]
  · exact h
  · exact h
  · have hcv : (laneFail k 5 s).cv k = forgotten (s.cv k) := by
      rw [State.cv, laneFail_cev, laneLeave_cev]
      exact modAt_getD_self _ _ _ _ hk
    obtain ⟨_, hdone, hfailed⟩ := h
    rw [RangeIdle, hcv]
    exact ⟨rfl, hdone, hfailed⟩

/-- A failed attempt is counted on the lane and in the cell's entry, and may end the round. -/
theorem rangeFail_open {rg : Ranging} (h : (s.cv k).ranging = some rg) :
    ∃ c, rangeFail k s = discRound k { s.modCv k (attemptFailed (s.ln k).gen) with cells := c } := by
  unfold attemptFailed
  by_cases hone : (s.ln k).gen = 1
  · exact ⟨s.cells, by simp only [rangeFail, h, hone, if_true]; rfl⟩
  · simp only [rangeFail, h, hone, if_false]
    split
    · exact ⟨_, rfl⟩
    · exact ⟨s.cells, rfl⟩

/-- The entry with a new DELAY, whose CFG is due. -/
def delayedEntry (gen d : Nat) (e : Entry) : Entry :=
  { e with delay := d, ranged := true, cfgTag := (e.cfgTag + 1) % 16, cfgDue := true, echoed := decide (gen = 1) }

theorem setDelay_eq (k i d : Nat) (s : State) : ∃ far : Bool,
    setDelay k i d s = raiseIf far 0x09 k 2 i (s.setEnt i (delayedEntry (s.ln k).gen d (s.ent i))) := ⟨_, rfl⟩

theorem setDelay_cellForm (k i d : Nat) (s : State) : CellForm s (setDelay k i d s) := by
  obtain ⟨far, h⟩ := setDelay_eq k i d s
  rw [h, raiseIf]
  split
  · exact (setEnt_cellForm ..).trans (raise_cellForm ..)
  · exact setEnt_cellForm ..

theorem setDelay_cev (k i d : Nat) (s : State) : (setDelay k i d s).cev = s.cev := raiseIf_cev ..

/-- The entry takes its DELAY. -/
theorem setDelay_ent (k i d : Nat) (s : State) :
    (setDelay k i d s).ent i = delayedEntry (s.ln k).gen d (s.ent i) := by
  obtain ⟨far, h⟩ := setDelay_eq k i d s
  have hcells : (setDelay k i d s).cells = (s.setEnt i (delayedEntry (s.ln k).gen d (s.ent i))).cells := by
    rw [h]
    exact congrArg Engines.cells (raiseIf_eng ..)
  have hranged : delayedEntry (s.ln k).gen d (s.ent i) ≠ Entry.reset := fun hr =>
    Bool.noConfusion (show true = false from congrArg Entry.ranged hr)
  rw [State.ent, hcells]
  exact get_set_of_ne_default hranged i s.cells

/-- The entries of an accepted ranging take its DELAY one after the other. -/
def takeDelay (k d : Nat) (l : List Nat) (s : State) : State := l.foldl (fun a i => setDelay k i d a) s

theorem takeDelay_cellForm (k d : Nat) (l : List Nat) (s : State) : CellForm s (takeDelay k d l s) :=
  CellForm.foldl (fun _ _ => setDelay_cellForm ..) l s

theorem takeDelay_cev (k d : Nat) (l : List Nat) (s : State) : (takeDelay k d l s).cev = s.cev :=
  foldl_kept (fun y => y.cev) l _ s fun _ _ => setDelay_cev ..

/-- The phase cache of a tree's slot takes what the burst ended with. -/
def seedCache (k slot : Nat) (pc : Option PcE) (s : State) : State :=
  pc.elim s fun x => s.modLn k (fun l => { l with pc := Tab.set PcE.reset slot x l.pc })

theorem seedCache_form (k slot : Nat) (pc : Option PcE) (s : State) : LaneForm k s (seedCache k slot pc s) := by
  cases pc with
  | none => exact LaneForm.refl k s
  | some x => exact modLn_form k _ s

theorem seedCache_eng (k slot : Nat) (pc : Option PcE) (s : State) : engines (seedCache k slot pc s) = engines s := by
  cases pc <;> rfl

theorem seedCache_st (k slot : Nat) (pc : Option PcE) (s : State) : ((seedCache k slot pc s).ln k).st = (s.ln k).st := by
  cases pc with
  | none => rfl
  | some x => exact modLn_kept LaneS.st k _ s fun _ => rfl

/-- The entries that an accepted ranging of a slot is for: on Cevel-1 all that are assigned, on a tree the slot's. -/
def rangedEntries (s : State) (k slot : Nat) : List Nat :=
  if (s.ln k).gen = 1 then (assigned s k).map Prod.fst else ((s.entAt k slot).map Prod.fst).toList

/-- An accepted ranging before it may end the round. -/
def rangeTaken (k slot d : Nat) (pc : Option PcE) (s : State) : State :=
  seedCache k slot pc (takeDelay k d (rangedEntries s k slot) (s.modCv k (attemptDone (s.ln k).gen d)))

theorem rangeAccept_open {d : Nat} {pc : Option PcE} {rg : Ranging} (h : (s.cv k).ranging = some rg) :
    rangeAccept k d pc s = discRound k (rangeTaken k rg.slot d pc s) := by
  have hent : ∀ f : CevLane → CevLane, (s.modCv k f).entAt k rg.slot = s.entAt k rg.slot := fun _ => rfl
  have hasg : ∀ f : CevLane → CevLane, assigned (s.modCv k f) k = assigned s k := fun _ => rfl
  unfold rangeTaken rangedEntries attemptDone
  by_cases hone : (s.ln k).gen = 1
  · simp only [rangeAccept, h, hone, if_true]
    cases pc <;> rfl
  · simp only [rangeAccept, h, hone, if_false, hent]
    cases s.entAt k rg.slot <;> cases pc <;> rfl

theorem rangeTaken_form {d slot : Nat} {pc : Option PcE} : LaneForm k s (rangeTaken k slot d pc s) :=
  (modCv_form k k _ s).trans (((takeDelay_cellForm ..).lane k).trans (seedCache_form ..))

theorem rangeTaken_cev {d slot : Nat} {pc : Option PcE} :
    (rangeTaken k slot d pc s).cev = (s.modCv k (attemptDone (s.ln k).gen d)).cev :=
  (congrArg Engines.cev (seedCache_eng ..)).trans (takeDelay_cev ..)

/-- An accepted ranging on a tree outside DISCOVER ends no round, and leaves the entry of its slot with the DELAY. -/
theorem rangeTaken_ent {d slot i : Nat} {e : Entry} {pc : Option PcE} (hgen : (s.ln k).gen ≠ 1)
    (hent : s.entAt k slot = some (i, e)) :
    (rangeTaken k slot d pc s).ent i = delayedEntry (s.ln k).gen d (s.ent i) := by
  have hlist : rangedEntries s k slot = [i] := by simp [rangedEntries, hgen, hent]
  have hcells := congrArg Engines.cells (seedCache_eng k slot pc
    (takeDelay k d [i] (s.modCv k (attemptDone (s.ln k).gen d))))
  rw [rangeTaken, hlist, State.ent]
  exact (congrArg (fun t => Tab.get Entry.reset t i) hcells).trans (setDelay_ent ..)

theorem rangeTaken_st {d slot : Nat} {pc : Option PcE} : ((rangeTaken k slot d pc s).ln k).st = (s.ln k).st := by
  rw [rangeTaken, seedCache_st, State.ln, (takeDelay_cellForm ..).lnk]
  rfl

end

/-- A ranging failed: none is open on the lane, and one more is counted as failed. -/
def RangingFailed (k : Nat) (s t : State) : Prop :=
  LaneRest k s t ∧ (t.cv k).ranging = none ∧ (t.cv k).failed = satAdd 16 (s.cv k).failed 1

/-- A ranging of a slot gave a delay: none is open on the lane, one more is counted as done, and on a tree outside
DISCOVER the slot's entry has the delay, its CFG due. -/
def RangingDone (k slot d : Nat) (s t : State) : Prop :=
  LaneRest k s t ∧ (t.cv k).ranging = none ∧ (t.cv k).done = satAdd 16 (s.cv k).done 1 ∧
    ((s.ln k).st ≠ 5 → (s.ln k).gen ≠ 1 → ∀ i e, s.entAt k slot = some (i, e) →
      (t.ent i).delay = d ∧ (t.ent i).ranged = true ∧ (t.ent i).cfgDue = true)

section
variable {i : Instr} {k : Nat} {s x : State} {rg : Ranging}

theorem rangeFail_does (he : effect i { s with out := [] } = rangeFail k x) (hx : Hears k s x)
    (hk : k < s.cev.lanes.length) (hrg : (s.cv k).ranging = some rg) : Does i s (RangingFailed k s) := by
  obtain ⟨c, hfail⟩ := rangeFail_open ((congrArg CevLane.ranging (hx.cv k)).trans hrg)
  have hkx : k < x.cev.lanes.length := hx.cev ▸ hk
  have hcv : (x.modCv k (attemptFailed (x.ln k).gen)).cv k = attemptFailed (x.ln k).gen (s.cv k) :=
    (modCv_self _ hkx).trans (congrArg _ (hx.cv k))
  have hform : LaneForm k x (discRound k { x.modCv k (attemptFailed (x.ln k).gen) with cells := c }) :=
    LaneForm.trans ⟨_, _, _, _, _, _, _, _, rfl, rfl, fun _ _ => rfl⟩ (discRound_form ..)
  obtain ⟨hnone, _, hcount⟩ := discRound_rangeIdle (k := k) (done := (s.cv k).done)
    (failed := satAdd 16 (s.cv k).failed 1) (s := { x.modCv k (attemptFailed (x.ln k).gen) with cells := c })
    (Nat.lt_of_lt_of_eq hkx (modAt_length ..).symm) (RangeIdle.of_cv hcv rfl)
  exact does_effect (he.trans hfail) ⟨hx.rest hform.rest, hnone, hcount⟩

theorem rangeAccept_does {d : Nat} {pc : Option PcE} (he : effect i { s with out := [] } = rangeAccept k d pc x)
    (hx : Hears k s x) (hk : k < s.cev.lanes.length) (hrg : (s.cv k).ranging = some rg) :
    Does i s (RangingDone k rg.slot d s) := by
  have hkx : k < x.cev.lanes.length := hx.cev ▸ hk
  have hcv : (rangeTaken k rg.slot d pc x).cv k = attemptDone (x.ln k).gen d (s.cv k) := by
    rw [State.cv, rangeTaken_cev]
    exact (modCv_self _ hkx).trans (congrArg _ (hx.cv k))
  have hlen : k < (rangeTaken k rg.slot d pc x).cev.lanes.length := by
    rw [rangeTaken_cev]
    exact Nat.lt_of_lt_of_eq hkx (modAt_length ..).symm
  obtain ⟨hnone, hcount, _⟩ := discRound_rangeIdle (k := k) (done := satAdd 16 (s.cv k).done 1)
    (failed := (s.cv k).failed) hlen (RangeIdle.of_cv hcv rfl)
  refine does_effect (he.trans (rangeAccept_open ((congrArg CevLane.ranging (hx.cv k)).trans hrg)))
    ⟨hx.rest (rangeTaken_form.trans (discRound_form ..)).rest, hnone, hcount, fun hst hgen j e hent => ?_⟩
  have hstays : discRound k (rangeTaken k rg.slot d pc x) = rangeTaken k rg.slot d pc x :=
    discRound_elsewhere (by rwa [rangeTaken_st, hx.st])
  have hentry : (rangeTaken k rg.slot d pc x).ent j = delayedEntry (x.ln k).gen d (x.ent j) :=
    rangeTaken_ent (e := e) (by rwa [hx.gen]) (by rw [State.entAt, hx.cells]; exact hent)
  have hread : (settle (discRound k (rangeTaken k rg.slot d pc x))).ent j = delayedEntry (x.ln k).gen d (x.ent j) := by
    rw [hstays]
    exact hentry
  rw [hread]
  exact ⟨rfl, rfl, rfl⟩

end

end Sys2Proof

/-! The bursts and messages of rangings and capabilities. -/

namespace Sys2Proof

open Sys2Proof.Machine

/-! ### Rangings judged (R262, R269) -/

/-- A delay in the ranging window of the lane. -/
def InWindow (k : Nat) (s : State) (d : Int) : Prop := 0 ≤ d ∧ d < 16 * (s.p (0x9000 + k) : Int)

section
variable {i : Instr} {k tLock : Nat} {asym lag : Int} {pc : Option PcE} {s x : State} {rg : Ranging}

theorem rangeJudge_open (h : (s.cv k).ranging = some rg) : rangeJudge k tLock asym lag pc s =
    let d := rangeDelay (s.ln k).gen tLock rg.dAt (s.cv k).latDev asym lag
    if 0 ≤ d ∧ d < 16 * (s.p (0x9000 + k) : Int) then rangeAccept k d.toNat pc s else rangeFail k s := by
  simp only [rangeJudge, h]

/-- A ranging judged by its delay is done, or failed. -/
theorem rangeJudge_does (he : effect i { s with out := [] } = rangeJudge k tLock asym lag pc x) (hx : Hears k s x)
    (hk : k < s.cev.lanes.length) (hrg : (s.cv k).ranging = some rg) {d : Int}
    (hd : rangeDelay (s.ln k).gen tLock rg.dAt (s.cv k).latDev asym lag = d) :
    (InWindow k s d → Does i s (RangingDone k rg.slot d.toNat s)) ∧
      (¬ InWindow k s d → Does i s (RangingFailed k s)) := by
  have hjudge := he.trans (rangeJudge_open ((congrArg CevLane.ranging (hx.cv k)).trans hrg))
  simp only [hx.gen, hx.cv, hx.p, hd] at hjudge
  exact ⟨fun hin => rangeAccept_does (hjudge.trans (if_pos hin)) hx hk hrg,
    fun hout => rangeFail_does (hjudge.trans (if_neg hout)) hx hk hrg⟩

theorem not_inWindow {d : Int} (h : d < 0 ∨ 16 * (s.p (0x9000 + k) : Int) ≤ d) : ¬ InWindow k s d :=
  fun ⟨h0, hwin⟩ => by omega

end

/-! ### RANGING_BURST (R262) -/

/-- What a ranging burst leaves in the phase cache. -/
def burstCache (b : Burst) : PcE := { phase := b.phase, thr := b.thr, valid := true, miss := 0 }

/-- The burst is a ranging answer of the cell with the identity. -/
def answersAs (b : Burst) (id : Nat) : Bool := burstShape b 2 0 && decide ((burstSelf b).id = id)

theorem burstOn_lock {b : Burst} {l : LaneS} (h : burstOn b l = true) : b.lock ≠ .fail := by
  intro hfail
  simp [burstOn, hfail] at h

/-- A burst that is locked, or inverted, is no failure of its lane (R216). -/
theorem burstErr_locked {b : Burst} {s : State} (h : b.lock ≠ .fail) : burstErr b s = s := if_neg fun hfail => h hfail.1

section
variable {b : Burst} {s : State} {rg : Ranging}

/-- A burst under the lane's polarity while a ranging is open is judged, where it is the cell's, and fails the ranging
otherwise. -/
theorem rangingBurst_heard (hk : b.lane < 24) (hgen : (s.ln b.lane).gen ≠ 1) (hopen : rangeOpen s b.lane = true)
    (hon : burstOn b (s.ln b.lane) = true) (hrg : (s.cv b.lane).ranging = some rg) : rangingBurst b s =
      if answersAs b rg.id = true then
        rangeJudge b.lane b.tLock (burstSelf b).asym 0 (some (burstCache b)) (heard b.lane (s.at b.time))
      else rangeFail b.lane (heard b.lane (s.at b.time)) := by
  have hcond : b.lane < 24 ∧ ((s.at b.time).ln b.lane).gen ≠ 1 ∧ rangeOpen (s.at b.time) b.lane = true :=
    ⟨hk, hgen, hopen⟩
  have hon' : burstOn b ((s.at b.time).ln b.lane) = true := hon
  have hrg' : ((s.at b.time).cv b.lane).ranging = some rg := hrg
  simp only [rangingBurst, burstErr_locked (burstOn_lock hon), hcond, hon', hrg', answersAs, Bool.and_eq_true,
    decide_eq_true_eq, if_true, and_self, not_false_eq_true, ne_eq]
  rfl

theorem rangingBurst_does (hk : b.lane < 24) (hgen : (s.ln b.lane).gen ≠ 1) (hopen : rangeOpen s b.lane = true)
    (hon : burstOn b (s.ln b.lane) = true) (hrg : (s.cv b.lane).ranging = some rg)
    (hlen : b.lane < s.cev.lanes.length) {d : Int}
    (hd : rangeDelay (s.ln b.lane).gen b.tLock rg.dAt (s.cv b.lane).latDev (burstSelf b).asym 0 = d) :
    (answersAs b rg.id = true → InWindow b.lane s d →
      Does (.rangingBurst b) s (RangingDone b.lane rg.slot d.toNat s)) ∧
    (answersAs b rg.id = false ∨ ¬ InWindow b.lane s d → Does (.rangingBurst b) s (RangingFailed b.lane s)) := by
  have he := rangingBurst_heard (s := { s with out := [] }) hk hgen hopen hon hrg
  have hx : Hears b.lane s (heard b.lane (State.at b.time { s with out := [] })) := heard_hears rfl rfl
  have hjudge := fun hmine : answersAs b rg.id = true =>
    rangeJudge_does (i := .rangingBurst b) (he.trans (if_pos hmine)) hx hlen hrg hd
  refine ⟨fun hmine => (hjudge hmine).1, fun hbad => ?_⟩
  cases hmine : answersAs b rg.id with
  | true => exact (hjudge hmine).2 (hbad.resolve_left (by simp [hmine]))
  | false => exact rangeFail_does (i := .rangingBurst b) (he.trans (if_neg (Bool.eq_false_iff.mp hmine))) hx hlen hrg

end

/-! ### C1_RANGING_ANSWER (R269, R271) -/

/-- The message is a ranging answer of a concentrator with its checksum. -/
def isC1Answer (b : List Byte) : Bool :=
  decide (b.length = 7) && decide (crc8 (b.take 6) = fld b 6 1) && decide (fld b 0 1 = 0xFF)

section
variable {b : List Byte} {k tLock : Nat} {s : State} {rg : Ranging}

theorem isC1Answer_iff :
    isC1Answer b = true ↔ b.length = 7 ∧ crc8 (b.take 6) = fld b 6 1 ∧ fld b 0 1 = 0xFF := by
  simp only [isC1Answer, Bool.and_eq_true, decide_eq_true_eq, and_assoc]

theorem c1Answer_heard (hk : k < 24) (hgen : (s.ln k).gen = 1) (hopen : rangeOpen s k = true) : c1Answer k b tLock s =
    if isC1Answer b = true then
      rangeJudge k tLock (((s.cv k).conc.map Seen.asym).getD 0) (fld b 1 1 : Nat) none (heard k s)
    else rangeFail k (heard k s) := by
  refine (if_pos ⟨hk, hgen, hopen⟩).trans ?_
  by_cases hanswer : isC1Answer b = true
  · obtain ⟨hlen, hcrc, hown⟩ := isC1Answer_iff.mp hanswer
    have hgood : ¬ (b.length ≠ 7 ∨ crc8 (b.take 6) ≠ fld b 6 1 ∨ fld b 0 1 ≠ 0xFF) :=
      not_or.mpr ⟨not_not_intro hlen, not_or.mpr ⟨not_not_intro hcrc, not_not_intro hown⟩⟩
    exact (if_neg hgood).trans (if_pos hanswer).symm
  · have hbad : b.length ≠ 7 ∨ crc8 (b.take 6) ≠ fld b 6 1 ∨ fld b 0 1 ≠ 0xFF := by
      rwa [isC1Answer_iff, Classical.not_and_iff_not_or_not, Classical.not_and_iff_not_or_not] at hanswer
    exact (if_pos hbad).trans (if_neg hanswer).symm

theorem c1Answer_does (hk : k < 24) (hgen : (s.ln k).gen = 1) (hopen : rangeOpen s k = true)
    (hrg : (s.cv k).ranging = some rg) (hlen : k < s.cev.lanes.length) {d : Int}
    (hd : rangeDelay 1 tLock rg.dAt (s.cv k).latDev (((s.cv k).conc.map Seen.asym).getD 0) (fld b 1 1 : Nat) = d) :
    (isC1Answer b = true → InWindow k s d → Does (.c1RangingAnswer k b tLock) s (RangingDone k rg.slot d.toNat s)) ∧
    (isC1Answer b = false ∨ ¬ InWindow k s d → Does (.c1RangingAnswer k b tLock) s (RangingFailed k s)) := by
  have he := c1Answer_heard (b := b) (tLock := tLock) (s := { s with out := [] }) hk hgen hopen
  have hx : Hears k s (heard k { s with out := [] }) := heard_hears rfl rfl
  have hd' : rangeDelay (s.ln k).gen tLock rg.dAt (s.cv k).latDev (((s.cv k).conc.map Seen.asym).getD 0)
      (fld b 1 1 : Nat) = d := by rw [hgen, hd]
  have hjudge := fun hmine : isC1Answer b = true =>
    rangeJudge_does (i := .c1RangingAnswer k b tLock) (he.trans (if_pos hmine)) hx hlen hrg hd'
  refine ⟨fun hmine => (hjudge hmine).1, fun hbad => ?_⟩
  cases hmine : isC1Answer b with
  | true => exact (hjudge hmine).2 (hbad.resolve_left (by simp [hmine]))
  | false =>
    exact rangeFail_does (i := .c1RangingAnswer k b tLock) (he.trans (if_neg (Bool.eq_false_iff.mp hmine))) hx hlen hrg

end

/-! ### BEACON and ANNOUNCE (R216, R220, R263) -/

/-- The lane of a burst with its failure to lock counted. -/
def burstMissed (b : Burst) (l : LaneS) : LaneS :=
  { l with errs := if b.lock = .fail ∧ 1 ≤ l.st then satAdd 32 l.errs 1 else l.errs }

/-- A burst of which at most a failure to lock is counted. -/
def BurstMissed (b : Burst) (s t : State) : Prop :=
  engines t = engines s ∧ (∀ j, j ≠ b.lane → LaneSame (t.ln j) (s.ln j)) ∧
    LaneSame (t.ln b.lane) (burstMissed b (s.ln b.lane))

section
variable {i : Instr} {b : Burst} {s : State}

theorem burstErr_eng (b : Burst) (s : State) : engines (burstErr b s) = engines s := by
  unfold burstErr
  split
  · exact State_modLn_eng ..
  · rfl

theorem burstErr_ne {j : Nat} (hj : j ≠ b.lane) : (burstErr b s).ln j = s.ln j := by
  unfold burstErr
  split
  · exact modLn_ne _ _ hj
  · rfl

theorem burstErr_self (hlen : b.lane < s.lnk.lanes.length) :
    (burstErr b s).ln b.lane = burstMissed b (s.ln b.lane) := by
  unfold burstErr burstMissed
  split
  · exact modLn_self _ hlen
  · rfl

theorem missed_does (he : effect i { s with out := [] } = burstErr b (State.at b.time { s with out := [] }))
    (hlen : b.lane < s.lnk.lanes.length) : Does i s (BurstMissed b s) :=
  does_effect he ⟨(settle_eng _).trans (burstErr_eng ..), fun _ hj => settle_ln_of_eq (burstErr_ne hj),
    settle_ln_of_eq (burstErr_self hlen)⟩

/-- The burst is a beacon. -/
def isBeacon (b : Burst) : Bool := decide (b.lock ≠ .fail) && burstShape b 1 0 && decide (bits 15 8 (bu b 0) = 0xFF)

theorem beacon_unfit (h : isBeacon b = false) : beacon b s = burstErr b (s.at b.time) := by
  refine if_pos (.inr (.inr ?_))
  by_cases hlock : b.lock = .fail
  · exact .inl hlock
  · refine .inr ?_
    cases hshape : burstShape b 1 0 with
    | false => exact .inl rfl
    | true => exact .inr (by simpa [isBeacon, hlock, hshape] using h)

/-- What a beacon does on a tree. -/
theorem beacon_fit (hk : b.lane < 24) (hgen : (s.ln b.lane).gen ≠ 1) (h : isBeacon b = true) : beacon b s =
    if (s.ln b.lane).st = 2 then
      if tb (bu b 1) 58 = true ∧ (s.ln b.lane).rows.head? = some (bits 61 59 (bu b 1)) then
        (s.at b.time).modLn b.lane (fun x => { x with dsErr := true }) else s.at b.time
    else if (s.ln b.lane).st = 4 ∧ burstOn b (s.ln b.lane) = true then gather b.lane 0 (burstSelf b) (s.at b.time)
    else s.at b.time := by
  simp only [isBeacon, Bool.and_eq_true, decide_eq_true_eq] at h
  obtain ⟨⟨hlock, hshape⟩, hslot⟩ := h
  simp only [beacon, burstErr_locked hlock]
  refine if_neg fun hunfit => ?_
  rcases hunfit with hout | hone | hfail | hother | hself
  · exact Nat.not_le.mpr hk hout
  · exact hgen hone
  · exact hlock hfail
  · rw [hshape] at hother
    exact Bool.noConfusion hother
  · exact hself hslot

theorem announce_off (hon : burstOn b (s.ln b.lane) = false) : announce b s = burstErr b (s.at b.time) := by
  refine if_neg fun ⟨_, _, hheard, _⟩ => ?_
  have hsame : burstOn b ((burstErr b (s.at b.time)).ln b.lane) = burstOn b (s.ln b.lane) := by
    have hinv : ((burstErr b (s.at b.time)).ln b.lane).rxInv = (s.ln b.lane).rxInv := by
      unfold burstErr
      split
      · exact modLn_kept LaneS.rxInv _ _ (s.at b.time) fun _ => rfl
      · rfl
    simp only [burstOn, hinv]
  rw [hsame, hon] at hheard
  exact Bool.noConfusion hheard

/-- An announcement in the first frame of its window is gathered. -/
theorem announce_gathers {w : Nat} (hk : b.lane < 24) (hgen : (s.ln b.lane).gen ≠ 1)
    (hrole : roleOf s b.lane s.frm.rims = .window 1 w true) (hon : burstOn b (s.ln b.lane) = true)
    (hshape : burstShape b 3 0 = true) (hslot : bits 15 8 (bu b 0) = 0xFF) :
    announce b s = gather b.lane 0 (burstSelf b) (heard b.lane (s.at b.time)) := by
  have hrole' : roleOf (s.at b.time) b.lane (s.at b.time).frm.rims = .window 1 w true := hrole
  have hcond : b.lane < 24 ∧ ((s.at b.time).ln b.lane).gen ≠ 1 ∧ burstOn b ((s.at b.time).ln b.lane) = true :=
    ⟨hk, hgen, hon⟩
  simp only [announce, burstErr_locked (burstOn_lock hon), hrole', hcond, hshape, hslot, decide_true, Bool.and_self,
    and_self, if_true, ne_eq, not_false_eq_true]
  rfl

end

/-! ### C1_CAPABILITY (R271) -/

/-- The message is a capability with its checksum. -/
def IsC1Capability (b : List Byte) : Prop := b.length = 11 ∧ crc8 (b.take 10) = fld b 10 1

/-- What a Cevel-1 capability says of its port or of the concentrator. -/
def c1Self (b : List Byte) : Seen :=
  { id := fld b 1 6, fb := false, gen := 1, hw := fld b 7 1 % 16, asym := sext 16 (fld b 8 2) }

section
variable {b : List Byte} {k time : Nat} {s : State}

theorem c1Capability_bad (h : b.length ≠ 11 ∨ crc8 (b.take 10) ≠ fld b 10 1) :
    c1Capability k b time s = s.at time := by
  refine if_neg fun ⟨_, _, _, _, hlen, hcrc⟩ => ?_
  exact h.elim (fun hl => hl hlen) fun hc => hc hcrc

theorem c1Capability_good (hk : k < 24) (hgen : (s.ln k).gen = 1) (h4 : 4 ≤ (s.ln k).st) (h6 : (s.ln k).st ≤ 6)
    (h : IsC1Capability b) : c1Capability k b time s =
      if fld b 0 1 = 0xFF then (heard k (s.at time)).modCv k (fun x => { x with conc := some (c1Self b) })
      else gather k (fld b 0 1 % 32) (c1Self b) (heard k (s.at time)) :=
  if_pos ⟨hk, hgen, h4, h6, h.1, h.2⟩

end

/-- Settles O40: an open ranging ends with its answer, done or failed by the delay; beacons, announcements and Cevel-1
capabilities are gathered, and what is none of them counts at most as a failure to lock. -/
theorem rangingAndCapabilities : Obligations.RangingAndCapabilities := by
  intro s k hk
  refine ⟨fun rg hrg hlen hopen => ⟨fun b hb hgen hon => ?_, fun b tLock hgen => ?_⟩,
    fun b hb hgen hlen => ⟨fun hfit hst hon => ?_, fun hfit hst herr hrow => ?_, fun hunfit => ?_,
      fun j w hrole hon hshape hslot hj => ?_, fun hoff => ?_⟩,
    fun b time hgen h4 h6 => ⟨fun hlen hcrc => ⟨fun hport => ?_, fun hown => ?_⟩, fun hbad => ?_⟩⟩
  · subst hb
    obtain ⟨hdone, hfail⟩ := rangingBurst_does hk hgen hopen hon hrg hlen rfl
    exact ⟨fun hmine h0 hwin => hdone hmine ⟨h0, hwin⟩, fun hbad => hfail (hbad.imp_right not_inWindow)⟩
  · obtain ⟨hdone, hfail⟩ := c1Answer_does (b := b) (tLock := tLock) hk hgen hopen hrg hlen rfl
    refine ⟨fun hmine h0 hwin => (hdone hmine ⟨h0, hwin⟩).imp fun t ⟨hrest, hnone, hcount, _⟩ => ?_,
      fun hbad => hfail (hbad.imp_right not_inWindow)⟩
    exact ⟨hrest, hnone, hcount, fun _ htree => absurd hgen htree⟩
  · subst hb
    have hbeacon := beacon_fit (s := { s with out := [] }) hk hgen hfit
    have hgather := hbeacon.trans ((if_neg fun h2 => absurd (hst.symm.trans h2) (by decide)).trans (if_pos ⟨hst, hon⟩))
    exact gather_does (i := .beacon b) hgather (hears_of_lnk rfl rfl) hlen
  · subst hb
    have hbeacon := beacon_fit (s := { s with out := [] }) hk hgen hfit
    have hmark := hbeacon.trans ((if_pos hst).trans (if_pos ⟨herr, hrow⟩))
    exact does_effect (c := .beacon b) hmark ⟨rfl, settle_ln_of_eq (modLn_self _ hlen)⟩
  · subst hb
    exact missed_does (i := .beacon b) (beacon_unfit hunfit) hlen
  · subst hb hj
    exact gather_does (i := .announce b) (announce_gathers (s := { s with out := [] }) hk hgen hrole hon hshape hslot)
      (heard_hears rfl rfl) hlen
  · subst hb
    exact missed_does (i := .announce b) (announce_off (s := { s with out := [] }) hoff) hlen
  · have hgather := (c1Capability_good (s := { s with out := [] }) (time := time) hk hgen h4 h6 ⟨hlen, hcrc⟩).trans
      (if_neg hport)
    exact gather_does (i := .c1Capability k b time) hgather (heard_hears rfl rfl) (lane_lt (by omega))
  · have hkeep := (c1Capability_good (s := { s with out := [] }) (time := time) hk hgen h4 h6 ⟨hlen, hcrc⟩).trans
      (if_pos hown)
    refine does_effect (c := .c1Capability k b time) hkeep ⟨?_, rfl⟩
    exact ((modLn_form k _ (State.at time { s with out := [] })).trans (modCv_form k k _ _)).rest
  · exact unmoved_does (c := .c1Capability k b time) (c1Capability_bad (s := { s with out := [] }) hbad) rfl rfl

end Sys2Proof

/-! Reports: what is taken in, what is missing, and the phase cache of a slot. -/

namespace Sys2Proof

open Sys2Proof.Machine

/-! ### What a report leaves alone (R216, R217, R266, R271) -/

/-- No other lane changes, and of the blocks of the converter only the observer, the cells and the cell protocol. -/
def ReportRest (k : Nat) (s t : State) : Prop :=
  (∀ j, j ≠ k → LaneSame (t.ln j) (s.ln j)) ∧
    engines t = { engines s with obs := t.obs, cells := t.cells, cev := t.cev }

/-- The lane's state is changed; beside it the observer, the cells, the cell protocol, what the pair keeps of its lanes
and the clock. -/
def ReportForm (k : Nat) (f : LaneS → LaneS) (o : Obs) (s t : State) : Prop :=
  ∃ c v p n, t = { s.modLn k f with obs := o, cells := c, cev := v, pair := p, now := n }

theorem ReportForm.rest {k : Nat} {f : LaneS → LaneS} {o : Obs} {s x : State} (h : ReportForm k f o s x) :
    ReportRest k s (settle x) := by
  obtain ⟨_, _, _, _, rfl⟩ := h
  exact ⟨fun j hj => settle_ln_of_eq (modLn_ne s f hj), rfl⟩

theorem ReportForm.obs {k : Nat} {f : LaneS → LaneS} {o : Obs} {s x : State} (h : ReportForm k f o s x) :
    (settle x).obs = o := by
  obtain ⟨_, _, _, _, rfl⟩ := h
  rfl

theorem ReportForm.self {k : Nat} {f : LaneS → LaneS} {o : Obs} {s x : State} (h : ReportForm k f o s x)
    (hk : k < s.lnk.lanes.length) : LaneSame ((settle x).ln k) (f (s.ln k)) := by
  obtain ⟨_, _, _, _, rfl⟩ := h
  exact settle_ln_of_eq (modLn_self f hk)

/-! ### The phase cache of a slot (R217) -/

/-- The entry of a slot becomes invalid with as many misses as the limit. -/
def cacheAged (lim slot : Nat) (pc : Tab PcE) : Tab PcE :=
  if lim ≤ (Tab.get PcE.reset pc slot).miss then
    Tab.set PcE.reset slot { Tab.get PcE.reset pc slot with valid := false } pc
  else pc

/-- The entry of a slot with one more miss. -/
def cacheMissed (slot : Nat) (pc : Tab PcE) : Tab PcE :=
  Tab.set PcE.reset slot
    { Tab.get PcE.reset pc slot with miss := satAdd 3 (Tab.get PcE.reset pc slot).miss 1 } pc

/-- A lane whose slot is judged by its misses, and one whose slot failed to lock. -/
def slotAged (lim slot : Nat) (l : LaneS) : LaneS := { l with pc := cacheAged lim slot l.pc }
def slotUnlocked (lim slot : Nat) (l : LaneS) : LaneS :=
  { l with errs := satAdd 32 l.errs 1, pc := cacheAged lim slot (cacheMissed slot l.pc) }

theorem slotAged_stale {lim slot : Nat} {l : LaneS} (h : lim ≤ (Tab.get PcE.reset l.pc slot).miss) :
    (slotAged lim slot l).pc = Tab.set PcE.reset slot { Tab.get PcE.reset l.pc slot with valid := false } l.pc := if_pos h

theorem slotAged_fresh {lim slot : Nat} {l : LaneS} (h : (Tab.get PcE.reset l.pc slot).miss < lim) :
    slotAged lim slot l = l := by
  rw [slotAged, cacheAged, if_neg (Nat.not_le.mpr h)]

theorem pcStale_eq {k slot : Nat} {s : State} (hk : k < 24) :
    pcStale k slot s = s.modLn k (slotAged (s.p 0x8208) slot) := by
  refine (if_pos hk).trans (congrArg (fun f => s.modLn k f) (funext fun l => ?_))
  rcases Nat.lt_or_ge (Tab.get PcE.reset l.pc slot).miss (s.p 0x8208) with hfresh | hstale
  · rw [slotAged_fresh hfresh]
    exact if_neg (Nat.not_le.mpr hfresh)
  · refine (if_pos hstale).trans ?_
    rw [slotAged, cacheAged, if_pos hstale]

theorem modLn_modLn (k : Nat) (f g : LaneS → LaneS) (s : State) :
    (s.modLn k f).modLn k g = s.modLn k (fun l => g (f l)) := by
  simp only [State.modLn, modAt, List.modify_modify_eq]
  rfl

/-! ### Missing reports (R147, R216, R266) -/

/-- The observer with the report of an entry missing where it was expected. -/
def missingNoted (i : Nat) (e : Entry) (o : Obs) : Obs :=
  { o with missing := if reportDue e = true then o.missing ++ [i] else o.missing }

theorem missingNoted_due {i : Nat} {e : Entry} (h : reportDue e = true) (o : Obs) :
    missingNoted i e o = { o with missing := o.missing ++ [i] } := by rw [missingNoted, if_pos h]

theorem missingNoted_idle {i : Nat} {e : Entry} (h : reportDue e = false) (o : Obs) : missingNoted i e o = o := by
  rw [missingNoted, if_neg (Bool.eq_false_iff.mp h)]

theorem reportBad_eq {k i slot : Nat} {s : State} {e : Entry} (he : s.ent i = e) :
    ∃ v, reportBad k i slot s = { s with cev := v, obs := missingNoted i e s.obs } := by
  subst he
  cases hdue : reportDue (s.ent i) with
  | true =>
    rw [missingNoted_due hdue]
    exact ⟨_, if_pos hdue⟩
  | false =>
    rw [missingNoted_idle hdue]
    exact ⟨_, if_neg (Bool.eq_false_iff.mp hdue)⟩

/-- A failure to lock in the slot of an assigned cell counts on the lane and in the slot's entry, and the report is
missing. -/
theorem lockFail_form {k i slot : Nat} {s : State} {e : Entry} (hk : k < 24) (hent : s.entAt k slot = some (i, e))
    (he : s.ent i = e) (hseen : e.seen.isSome = true) :
    ReportForm k (slotUnlocked (s.p 0x8208) slot) (missingNoted i e s.obs) s (lockFail k slot s) := by
  have hslot : ∀ g : LaneS → LaneS, (fun l => slotAged (s.p 0x8208) slot (g l)) = slotUnlocked (s.p 0x8208) slot →
      pcStale k slot (s.modLn k g) = s.modLn k (slotUnlocked (s.p 0x8208) slot) := fun g hg => by
    rw [pcStale_eq hk]
    exact (modLn_modLn ..).trans (congrArg (fun f => s.modLn k f) hg)
  simp only [lockFail, hent, hseen, if_true]
  rw [hslot _ rfl]
  split
  · obtain ⟨v, hbad⟩ := reportBad_eq (k := k) (i := i) (slot := slot)
      (s := s.modLn k (slotUnlocked (s.p 0x8208) slot)) (e := e) he
    exact ⟨_, _, _, _, hbad⟩
  · next hidle =>
    rw [missingNoted_idle (Bool.eq_false_iff.mpr hidle)]
    exact ⟨_, _, _, _, rfl⟩

/-! ### Reports of a tree (R216, R266) -/

/-- A lane with a clean burst of a slot heard, which fills the slot's cache. -/
def slotHeard (b : Burst) (l : LaneS) : LaneS :=
  { l with locked := true, pc := Tab.set PcE.reset b.slot (burstCache b) l.pc }

/-- The burst is a report of its slot under the lane's polarity, its envelope in order. -/
def isReport (b : Burst) (l : LaneS) : Bool :=
  burstOn b l && burstShape b 0 (if l.gen = 2 then 2 else 4) && decide (bits 15 8 (bu b 0) = b.slot)

/-- The instant that a report names (R266). -/
def reportTm (b : Burst) (s : State) : Option Int := tmOf s 16 (bits 47 32 (bu b 0)) (bits 60 48 (bu b 0))

/-- An instant that a report names stands in the frame and the windows that the observer keeps. -/
theorem tmOf_of_engines {x s : State} (hx : engines x = engines s) (w tm ns : Nat) : tmOf x w tm ns = tmOf s w tm ns := by
  have hfrm : x.frm = s.frm := congrArg Engines.frm hx
  have hobs : x.obs = s.obs := congrArg Engines.obs hx
  unfold tmOf tmFrame periodNs
  rw [hfrm, hobs]

theorem reportTm_of_engines {x s : State} (hx : engines x = engines s) (b : Burst) : reportTm b x = reportTm b s :=
  tmOf_of_engines hx ..

/-- The report of entry `i` for an instant as the burst spells it. -/
def reportOf (b : Burst) (i : Nat) (m : Int) : Rpt :=
  Rpt.mk i m b.time (bits 23 0 (bu b 1) * 2 ^ 7) (bits 27 24 (bu b 1)) (tb (bu b 0) 24) (tb (bu b 0) 25) (tb (bu b 0) 26)

/-- The observer with a report taken in. -/
def reportTaken (r : Rpt) (o : Obs) : Obs := { o with intake := o.intake ++ [r] }

/-- A slot of an assigned cell that the present schedule position holds, not yet judged, on a lane that reports. -/
structure SlotDue (s : State) (k slot i : Nat) (e : Entry) : Prop where
  lane : k < 24
  up   : (s.ln k).st = 6 ∨ (s.ln k).st = 7
  acts : acts s = true
  ent  : s.ent i = e
  seen : e.seen.isSome = true
  at_  : s.entAt k slot = some (i, e)
  now  : slotNow s k slot = true
  new  : (s.cv k).seen.contains slot = false

section
variable {b : Burst} {s : State} {k slot i : Nat} {e : Entry}

theorem SlotDue.length (h : SlotDue s k slot i e) : k < s.lnk.lanes.length :=
  lane_lt (by rcases h.up with h6 | h7 <;> omega)

/-- The command's own effect begins in the same slot. -/
theorem SlotDue.begun (h : SlotDue s k slot i e) : SlotDue { s with out := [] } k slot i e :=
  ⟨h.lane, h.up, h.acts, h.ent, h.seen, h.at_, h.now, h.new⟩

theorem SlotDue.clocked (h : SlotDue s k slot i e) (time : Nat) : SlotDue (s.at time) k slot i e :=
  ⟨h.lane, h.up, h.acts, h.ent, h.seen, h.at_, h.now, h.new⟩

theorem burstLockFail_due (h : SlotDue s k slot i e) : burstLockFail k slot s = lockFail k slot s :=
  if_pos ⟨h.lane, h.up, h.now, h.new⟩

/-- Nothing keeps a tree's burst from a slot that is due. -/
theorem SlotDue.admits (h : SlotDue s k slot i e) (hgen : (s.ln k).gen ≠ 1) :
    ¬ (24 ≤ k ∨ (s.ln k).gen = 1 ∨ ¬ ((s.ln k).st = 6 ∨ (s.ln k).st = 7) ∨
      (Machine.acts s = true ∧ e.seen.isNone = true) ∨ slotNow s k slot = false ∨
      (s.cv k).seen.contains slot = true) := by
  rintro (hout | hone | hdown | ⟨_, hnone⟩ | hlate | hjudged)
  · exact Nat.not_le.mpr h.lane hout
  · exact hgen hone
  · exact hdown h.up
  · exact absurd h.seen (by simp [Option.isNone_iff_eq_none.mp hnone])
  · exact Bool.noConfusion (hlate.symm.trans h.now)
  · exact Bool.noConfusion (hjudged.symm.trans h.new)

theorem reportBurst_unlocked (h : SlotDue s b.lane b.slot i e) (hgen : (s.ln b.lane).gen ≠ 1) (hlock : b.lock = .fail) :
    reportBurst b s = lockFail b.lane b.slot (s.at b.time) := by
  have hclock := h.clocked b.time
  simp only [reportBurst, hclock.at_]
  exact (if_neg (hclock.admits hgen)).trans (if_pos hlock)

/-- A standby's sample of a lane is kept with the pair (R325). -/
theorem deltaTake_eq (b : Burst) (s : State) : ∃ p, deltaTake b s = { s with pair := p } := by
  unfold deltaTake
  split <;> exact ⟨_, rfl⟩

/-- What taking in a report changes beside the observer. -/
theorem reportTake_eq (k i : Nat) (r : Rpt) (g : CevLane → CevLane) (h : Entry → Entry) (s : State) :
    ∃ c v, reportTake k r ((s.modEnt i h).modCv k g) = { s with obs := reportTaken r s.obs, cells := c, cev := v } :=
  ⟨_, _, rfl⟩

/-- A report in order is taken in. -/
theorem reportBurst_good (h : SlotDue s b.lane b.slot i e) (hgen : (s.ln b.lane).gen ≠ 1) (hlock : b.lock ≠ .fail)
    (hgood : isReport b (s.ln b.lane) = true) {m : Int} (htm : reportTm b s = some m) :
    ReportForm b.lane (slotHeard b) (reportTaken (reportOf b i m) s.obs) s (reportBurst b s) := by
  have hclock := h.clocked b.time
  have hgood' : isReport b ((s.at b.time).ln b.lane) = true := hgood
  have htm' : reportTm b (s.at b.time) = some m := (reportTm_of_engines (State_at_eng ..) b).trans htm
  unfold isReport at hgood'
  unfold reportTm at htm'
  simp only [reportBurst, hclock.at_, hgood', htm']
  rw [if_neg (hclock.admits hgen), if_neg hlock]
  obtain ⟨p, hdelta⟩ := deltaTake_eq b _
  obtain ⟨c, v, htake⟩ := reportTake_eq b.lane i _ _ _ ((s.at b.time).modLn b.lane (slotHeard b))
  exact ⟨c, v, p, max s.now b.time, hdelta.trans (congrArg (fun t : State => { t with pair := p }) htake)⟩

/-- A report with a fault in its content is missing where it was expected. -/
theorem reportBurst_bad (h : SlotDue s b.lane b.slot i e) (hgen : (s.ln b.lane).gen ≠ 1) (hlock : b.lock ≠ .fail)
    (hbad : isReport b (s.ln b.lane) = false ∨ reportTm b s = none) :
    ReportForm b.lane (slotHeard b) (missingNoted i e s.obs) s (reportBurst b s) := by
  have hclock := h.clocked b.time
  have hjudge : reportBurst b s = reportBad b.lane i b.slot ((s.at b.time).modLn b.lane (slotHeard b)) := by
    have hbad' : isReport b ((s.at b.time).ln b.lane) = false ∨ reportTm b (s.at b.time) = none :=
      hbad.imp_right (reportTm_of_engines (State_at_eng ..) b).trans
    unfold isReport reportTm at hbad'
    simp only [reportBurst, hclock.at_]
    rw [if_neg (hclock.admits hgen), if_neg hlock]
    split
    · next hgood htm => simp [hgood, htm] at hbad'
    · rfl
  obtain ⟨v, hmiss⟩ := reportBad_eq (k := b.lane) (i := i) (slot := b.slot)
    (s := (s.at b.time).modLn b.lane (slotHeard b)) (e := e) h.ent
  exact ⟨s.cells, v, s.pair, max s.now b.time, hjudge.trans hmiss⟩

end

/-! ### Reports of a concentrator (R271) -/

/-- Missing reports are noted, whatever the cell protocol counts. -/
def Misses (s t : State) : Prop :=
  ∃ v m, t = { s with cev := v, obs := { s.obs with missing := s.obs.missing ++ m } }

theorem Misses.refl (s : State) : Misses s s := ⟨s.cev, [], by rw [List.append_nil]⟩

theorem Misses.trans {a b c : State} (h1 : Misses a b) (h2 : Misses b c) : Misses a c := by
  obtain ⟨_, m, e1⟩ := h1
  obtain ⟨_, n, e2⟩ := h2
  exact ⟨_, m ++ n, by rw [e2, e1, ← List.append_assoc]⟩

theorem modCv_misses (k : Nat) (f : CevLane → CevLane) (s : State) : Misses s (s.modCv k f) :=
  ⟨_, [], by rw [List.append_nil]; rfl⟩

theorem reportBad_misses (k i slot : Nat) (s : State) : Misses s (reportBad k i slot s) := by
  obtain ⟨v, h⟩ := reportBad_eq (k := k) (i := i) (slot := slot) (s := s) rfl
  rw [h]
  cases hdue : reportDue (s.ent i) with
  | true => exact ⟨v, [i], by rw [missingNoted_due hdue]⟩
  | false => exact ⟨v, [], by rw [missingNoted_idle hdue, List.append_nil]⟩

theorem c1RoundEnd_misses (k : Nat) (s : State) : Misses s (c1RoundEnd k s) :=
  (foldl_form Misses.refl (fun _ _ _ => Misses.trans) _ (fun _ _ => reportBad_misses ..) _ s).trans (modCv_misses ..)

theorem Misses.entAt {s t : State} (h : Misses s t) (k slot : Nat) : t.entAt k slot = s.entAt k slot := by
  obtain ⟨_, _, e⟩ := h
  rw [e]
  rfl

/-- The port that a report names. -/
def c1Port (b : List Byte) : Nat := bits 4 0 (fld b 0 1)

/-- The report of entry `i` for an instant as the message spells it. -/
def c1ReportOf (b : List Byte) (time i : Nat) (m : Int) : Rpt :=
  Rpt.mk i m time (fld b 1 2 * 2 ^ 12) (b2n (tb (fld b 0 1) 5) + 2 * b2n (tb (fld b 0 1) 6)) (tb (fld b 0 1) 7)
    (tb (fld b 5 1) 0) (tb (fld b 5 1) 1)

/-- The instant that a report names. -/
def c1Tm (b : List Byte) (s : State) : Option Int := tmOf s 3 (bits 15 13 (fld b 3 2)) (bits 12 0 (fld b 3 2))

theorem Misses.c1Tm {s t : State} (h : Misses s t) (b : List Byte) : Sys2Proof.c1Tm b t = Sys2Proof.c1Tm b s := by
  obtain ⟨_, _, e⟩ := h
  rw [e]
  rfl

section
variable {b : List Byte} {time k i : Nat} {s : State} {e : Entry}

/-- The round before ends where a report names no later port than one reported; the round ends with the last port. -/
def c1Opened (k : Nat) (b : List Byte) (s : State) : State :=
  if (s.cv k).seen.any (fun p => decide (c1Port b ≤ p)) = true then c1RoundEnd k s else s
def c1Closed (k : Nat) (b : List Byte) (s : State) : State :=
  if topSlot s.cells k = some (c1Port b) then c1RoundEnd k s else s

theorem c1Opened_misses (k : Nat) (b : List Byte) (s : State) : Misses s (c1Opened k b s) := by
  unfold c1Opened
  split
  · exact c1RoundEnd_misses k s
  · exact Misses.refl s

theorem c1Closed_misses (k : Nat) (b : List Byte) (s : State) : Misses s (c1Closed k b s) := by
  unfold c1Closed
  split
  · exact c1RoundEnd_misses k s
  · exact Misses.refl s

/-- Nothing keeps a concentrator's report from a lane that reports. -/
theorem c1_admits (hk : k < 24) (hgen : (s.ln k).gen = 1) (hup : (s.ln k).st = 6 ∨ (s.ln k).st = 7) :
    ¬ (24 ≤ k ∨ (s.ln k).gen ≠ 1 ∨ ¬ ((s.ln k).st = 6 ∨ (s.ln k).st = 7)) :=
  not_or.mpr ⟨Nat.not_le.mpr hk, not_or.mpr ⟨not_not_intro hgen, not_not_intro hup⟩⟩

/-- A message of another length or without its checksum is counted bad. -/
theorem c1Report_bad (hk : k < 24) (hgen : (s.ln k).gen = 1) (hup : (s.ln k).st = 6 ∨ (s.ln k).st = 7)
    (hbad : b.length ≠ 7 ∨ crc8 (b.take 6) ≠ fld b 6 1) : c1Report k b time s =
      (heard k (s.at time)).modCv k (fun c => { c with bad := satAdd 32 c.bad 1 }) := by
  exact (if_neg (c1_admits (s := s.at time) hk hgen hup)).trans (if_pos hbad)

/-- A report of an assigned port is taken in between the ends of the rounds. -/
theorem c1Report_assigned (hk : k < 24) (hgen : (s.ln k).gen = 1) (hup : (s.ln k).st = 6 ∨ (s.ln k).st = 7)
    (hseen : e.seen.isSome = true) (hlen : b.length = 7) (hcrc : crc8 (b.take 6) = fld b 6 1)
    (hat : (c1Opened k b (heard k (s.at time))).entAt k (c1Port b) = some (i, e)) {m : Int}
    (htm : c1Tm b (c1Opened k b (heard k (s.at time))) = some m) :
    ∃ g h, c1Report k b time s = c1Closed k b
      (reportTake k (c1ReportOf b time i m) (((c1Opened k b (heard k (s.at time))).modEnt i h).modCv k g)) := by
  have hgood : ¬ (b.length ≠ 7 ∨ crc8 (b.take 6) ≠ fld b 6 1) :=
    not_or.mpr ⟨not_not_intro hlen, not_not_intro hcrc⟩
  have hsome : e.seen.isNone = false := by rw [Option.isNone_eq_false_iff, hseen]
  unfold c1Opened c1Port heard at hat
  unfold c1Tm c1Opened c1Port heard at htm
  simp only [c1Report, hat, htm, hsome, Bool.false_and, Bool.false_eq_true, if_false]
  rw [if_neg (c1_admits (s := s.at time) hk hgen hup), if_neg hgood]
  exact ⟨_, _, rfl⟩

theorem c1Report_good (hk : k < 24) (hgen : (s.ln k).gen = 1) (hup : (s.ln k).st = 6 ∨ (s.ln k).st = 7)
    (hseen : e.seen.isSome = true) (hlen : b.length = 7) (hcrc : crc8 (b.take 6) = fld b 6 1)
    (hat : s.entAt k (c1Port b) = some (i, e)) {m : Int} (htm : c1Tm b s = some m) :
    ∃ miss, ReportForm k (fun l => { l with locked := true })
      { s.obs with intake := s.obs.intake ++ [c1ReportOf b time i m], missing := s.obs.missing ++ miss } s
      (c1Report k b time s) := by
  have hopened := c1Opened_misses k b (heard k (s.at time))
  obtain ⟨g, h, hreport⟩ := c1Report_assigned (e := e) hk hgen hup hseen hlen hcrc
    ((hopened.entAt ..).trans hat) ((hopened.c1Tm b).trans htm)
  rw [hreport]
  generalize c1Opened k b (heard k (s.at time)) = x at hopened ⊢
  obtain ⟨c, v, htake⟩ := reportTake_eq k i (c1ReportOf b time i m) g h x
  rw [htake]
  obtain ⟨v1, miss1, hopen⟩ := hopened
  obtain ⟨v2, miss2, hclose⟩ := c1Closed_misses k b
    { x with obs := reportTaken (c1ReportOf b time i m) x.obs, cells := c, cev := v }
  refine ⟨miss1 ++ miss2, c, v2, s.pair, max s.now time, hclose.trans ?_⟩
  rw [hopen, ← List.append_assoc]
  rfl

end

/-! ### The commands -/

section
variable {b : Burst} {s : State} {k slot i : Nat} {e : Entry}

/-- A slot that is due failed to lock: its lane counts an error, its cache a miss, and its report is missing. -/
def SlotFailed (k slot i : Nat) (e : Entry) (s t : State) : Prop :=
  ReportRest k s t ∧ t.obs = missingNoted i e s.obs ∧ (t.ln k).errs = satAdd 32 (s.ln k).errs 1 ∧
    (t.ln k).pc = cacheAged (s.p 0x8208) slot (cacheMissed slot (s.ln k).pc)

theorem lockFail_settled (h : SlotDue s k slot i e) : SlotFailed k slot i e s (settle (lockFail k slot s)) := by
  have hform := lockFail_form h.lane h.at_ h.ent h.seen
  have hself := hform.self h.length
  exact ⟨hform.rest, hform.obs, congrArg LaneS.errs hself, congrArg LaneS.pc hself⟩

theorem burstLockFail_does (h : SlotDue s k slot i e) : Does (.burstLockFail k slot) s (SlotFailed k slot i e s) :=
  does_effect (burstLockFail_due h.begun) (lockFail_settled h.begun)

theorem reportBurst_fails (h : SlotDue s b.lane b.slot i e) (hgen : (s.ln b.lane).gen ≠ 1) (hlock : b.lock = .fail) :
    Does (.reportBurst b) s (SlotFailed b.lane b.slot i e s) :=
  does_effect (reportBurst_unlocked h.begun hgen hlock) (lockFail_settled (h.begun.clocked b.time))

/-- A clean burst of a slot fills its cache, and gives the observer what it gives. -/
def SlotTaken (b : Burst) (o : Obs) (s t : State) : Prop :=
  ReportRest b.lane s t ∧ (t.ln b.lane).pc = Tab.set PcE.reset b.slot (burstCache b) (s.ln b.lane).pc ∧ t.obs = o

theorem ReportForm.taken {o : Obs} {x : State} (h : ReportForm b.lane (slotHeard b) o s x)
    (hlen : b.lane < s.lnk.lanes.length) : SlotTaken b o s (settle x) :=
  ⟨h.rest, congrArg LaneS.pc (h.self hlen), h.obs⟩

/-- The command's own effect finds the report's instant as it stands. -/
theorem reportTm_begun (b : Burst) (s : State) : reportTm b { s with out := [] } = reportTm b s :=
  reportTm_of_engines (x := { s with out := [] }) rfl b

theorem reportBurst_takes (h : SlotDue s b.lane b.slot i e) (hgen : (s.ln b.lane).gen ≠ 1) (hlock : b.lock ≠ .fail)
    {m : Int} (hgood : isReport b (s.ln b.lane) = true) (htm : reportTm b s = some m) :
    Does (.reportBurst b) s (SlotTaken b (reportTaken (reportOf b i m) s.obs) s) :=
  have hform : ReportForm b.lane (slotHeard b) (reportTaken (reportOf b i m) s.obs) { s with out := [] }
      (reportBurst b { s with out := [] }) := reportBurst_good h.begun hgen hlock hgood ((reportTm_begun b s).trans htm)
  does_effect rfl (hform.taken h.length)

theorem reportBurst_misses (h : SlotDue s b.lane b.slot i e) (hgen : (s.ln b.lane).gen ≠ 1) (hlock : b.lock ≠ .fail)
    (hbad : isReport b (s.ln b.lane) = false ∨ reportTm b s = none) :
    Does (.reportBurst b) s (SlotTaken b (missingNoted i e s.obs) s) :=
  have hform := reportBurst_bad h.begun hgen hlock (hbad.imp_right (reportTm_begun b s).trans)
  does_effect rfl (hform.taken h.length)

/-- A concentrator's report of an assigned port is taken in; reports of ports that it passed over may be missing. -/
theorem c1Report_takes {bytes : List Byte} {time : Nat} (hk : k < 24) (hgen : (s.ln k).gen = 1)
    (hup : (s.ln k).st = 6 ∨ (s.ln k).st = 7) (hseen : e.seen.isSome = true) (hlen : bytes.length = 7)
    (hcrc : crc8 (bytes.take 6) = fld bytes 6 1) (hat : s.entAt k (c1Port bytes) = some (i, e)) {m : Int}
    (htm : c1Tm bytes s = some m) : Does (.c1Report k bytes time) s (fun t => ReportRest k s t ∧ ∃ miss, t.obs =
      { s.obs with
        intake := s.obs.intake ++ [c1ReportOf bytes time i m], missing := s.obs.missing ++ miss }) := by
  obtain ⟨miss, hform⟩ := c1Report_good (s := { s with out := [] }) (time := time) hk hgen hup hseen hlen hcrc hat htm
  exact does_effect rfl ⟨hform.rest, miss, hform.obs⟩

/-- A concentrator's report without its checksum, or of another length, is counted bad. -/
theorem c1Report_rejects {bytes : List Byte} {time : Nat} (hk : k < 24) (hgen : (s.ln k).gen = 1)
    (hup : (s.ln k).st = 6 ∨ (s.ln k).st = 7) (hbad : bytes.length ≠ 7 ∨ crc8 (bytes.take 6) ≠ fld bytes 6 1) :
    Does (.c1Report k bytes time) s (fun t => ReportRest k s t ∧ t.obs = s.obs ∧ t.cells = s.cells ∧
      t.cev.lanes = modAt s.cev.lanes k (fun c => { c with bad := satAdd 32 c.bad 1 })) := by
  have hform : ReportForm k (fun l => { l with locked := true }) s.obs { s with out := [] }
      ((heard k (State.at time { s with out := [] })).modCv k (fun c => { c with bad := satAdd 32 c.bad 1 })) :=
    ⟨s.cells, _, s.pair, max s.now time, rfl⟩
  exact does_effect (c1Report_bad (s := { s with out := [] }) (time := time) hk hgen hup hbad)
    ⟨hform.rest, hform.obs, rfl, rfl⟩

/-- PHASE_CACHE_STALE judges the slot's entry by its misses, and changes nothing else. -/
theorem phaseCacheStale_does (hk : k < 24) (hlen : k < s.lnk.lanes.length) :
    Does (.phaseCacheStale k slot) s (fun t => engines t = engines s ∧ (∀ j, j ≠ k → LaneSame (t.ln j) (s.ln j)) ∧
      LaneSame (t.ln k) (slotAged (s.p 0x8208) slot (s.ln k))) :=
  (modLn_does (c := .phaseCacheStale k slot) (pcStale_eq (s := { s with out := [] }) hk) hlen).imp
    fun _ ⟨heng, hself, hothers, _⟩ => ⟨heng, hothers, hself⟩

end

/-- Settles O39: a slot that is due fails to lock, takes its report in or misses it; the phase cache is judged by its
misses; a concentrator's report is taken in, or counted bad without its checksum. -/
theorem reportsAreTakenIn : Obligations.ReportsAreTakenIn := by
  intro s k i e hk hup ha hent hseen
  have hlen : k < s.lnk.lanes.length := lane_lt (by omega)
  refine ⟨fun b hb hgen hat hnow hnew => ?_, fun slot => ?_, fun b time hgen =>
    ⟨fun h7 hcrc hport m htm => ?_, fun hbad => ?_⟩⟩
  · subst hb
    have hdue : SlotDue s b.lane b.slot i e := ⟨hk, hup, ha, hent, hseen, hat, hnow, hnew⟩
    exact ⟨reportBurst_fails hdue hgen, burstLockFail_does hdue, fun hlock =>
      ⟨fun m => reportBurst_takes hdue hgen hlock,
        fun hbad => reportBurst_misses hdue hgen hlock hbad⟩⟩
  · refine (phaseCacheStale_does hk hlen).imp fun t ⟨heng, hothers, hself⟩ =>
      ⟨heng, hothers, fun hstale => ?_, fun hfresh => ?_⟩
    · exact (congrArg LaneS.pc hself).trans (slotAged_stale hstale)
    · rwa [slotAged_fresh hfresh] at hself
  · refine (c1Report_takes (time := time) hk hgen hup hseen h7 hcrc hport htm).imp
      fun t ⟨hrest, miss, hobs⟩ => ⟨hrest, ?_⟩
    rw [hobs]
    exact ⟨rfl, miss, rfl⟩
  · exact c1Report_rejects hk hgen hup hbad

end Sys2Proof

/-! The commands of the converter state that check or act once, and the trips that a command clears. -/

namespace Sys2Proof

open Sys2Proof.Machine

/-! ### Where the own effect of a host command begins -/

/-- The own effect of a host command begins in a state that is as before but for the records of intake, the EXECs, what
is emitted and the clock. -/
def Began (s x : State) : Prop := ∃ fly q n e out now, x = { s with
  hif := { s.hif with fly := fly }
  pair := { s.pair with mseqTx := q, execNo := n, execs := e }
  out := out
  now := now }

theorem taken_began (c : Ctx) (s : State) : Began s (taken c { s with out := [] }) := by
  obtain ⟨fly, q, n, e, out, h⟩ := began c s
  exact ⟨fly, q, n, e, out, _, h⟩

section
variable {c : Instr} {op : Nat} {h : CmdHdr} {states : DevState → Bool} {own : State → State} {s x : State}

theorem Began.engines (hx : Began s x) : Sys2Proof.engines x = Sys2Proof.engines s := by
  obtain ⟨_, _, _, _, _, _, rfl⟩ := hx
  rfl

theorem Began.flt (hx : Began s x) : x.flt = s.flt := by
  obtain ⟨_, _, _, _, _, _, rfl⟩ := hx
  rfl

theorem Began.conv (hx : Began s x) : x.hif.conv = s.hif.conv := by
  obtain ⟨_, _, _, _, _, _, rfl⟩ := hx
  rfl

theorem Began.pairs (hx : Began s x) : x.hif.pairs = s.hif.pairs := by
  obtain ⟨_, _, _, _, _, _, rfl⟩ := hx
  rfl

theorem Began.role (hx : Began s x) : x.pair.role = s.pair.role := by
  obtain ⟨_, _, _, _, _, _, rfl⟩ := hx
  rfl

theorem repliesOf_of_pairs {s t : State} (ht : t.hif.pairs = s.hif.pairs) (k : Nat) :
    repliesOf t k = repliesOf s k := by
  rw [repliesOf, ht, repliesOf]

/-- A host command that may run does what its own effect does where it begins. -/
theorem HostRow.doesFrom (row : HostRow c op h states own) (m : MayRun op h states s) {P : State → Prop}
    (hown : ∀ x, Began s x → P (settle (own x))) : Does c s P :=
  ⟨_, host_next c op h states own s row.runs m row.held, hown _ (taken_began ..)⟩

/-- An own effect that ends with its final reply, in a state that has the ring pairs and the role of the state before,
answers it there. -/
theorem HostRow.answersFrom (row : HostRow c op h states own) (m : MayRun op h states s) (ho : PairOpen s h.pair)
    (ha : acts s = true) {st : Nat} {data : List Byte} {P : State → Prop}
    (hown : ∀ x, Began s x → ∃ y : State, own x = finish { h := h, op := op } st data y ∧
      y.hif.pairs = s.hif.pairs ∧ y.pair.role = s.pair.role ∧ P (settle (finish { h := h, op := op } st data y))) :
    Does c s (fun t => Answers op h st data s t ∧ P t) := by
  refine row.doesFrom m fun x hx => ?_
  obtain ⟨y, hfin, hpairs, hrole, hP⟩ := hown x hx
  have hopen : PairOpen y h.pair := by unfold PairOpen; rw [hpairs]; exact ho
  have hdel : Delivers op y := by simp [Delivers, (acts_role s y hrole).trans ha]
  have hans := finish_answers op h st data y hopen hdel
  rw [hfin]
  refine ⟨?_, hP⟩
  rw [Answers, repliesOf_of_pairs hpairs] at hans
  exact hans

/-- An own effect that is a refusal where it begins answers it, and no block of the converter changes. -/
theorem HostRow.refusesFrom (row : HostRow c op h states own) (m : MayRun op h states s) (ho : PairOpen s h.pair)
    (ha : acts s = true) {st : Nat} (hown : ∀ x, Began s x → own x = refuse { h := h, op := op } st x) :
    Does c s (fun t => Answers op h st [] s t ∧ Sys2Proof.engines t = Sys2Proof.engines s) :=
  row.answersFrom m ho ha fun x hx =>
    ⟨x, hown x hx, hx.pairs, hx.role, (settle_eng _).trans ((finish_eng ..).trans hx.engines)⟩

end

/-! ### Transitions that wait for their rim (R393, R396) -/

/-- A transition waits for the rim with its target and the state that it comes from; it has no reply yet, and the blocks
of the converter are as before. -/
def AwaitsRim (op : Nat) (h : CmdHdr) (target : DevState) (s t : State) : Prop :=
  t.hif.conv = some (h, op, target, s.st) ∧ repliesOf t h.pair = repliesOf s h.pair ∧ engines t = engines s

theorem convWait_awaits {s x : State} (hx : Began s x) (op : Nat) (h : CmdHdr) (target : DevState) :
    AwaitsRim op h target s (settle (convWait { h := h, op := op } target x)) := by
  obtain ⟨_, _, _, _, _, _, rfl⟩ := hx
  exact ⟨rfl, rfl, rfl⟩

/-! ### CONV_RUN and CONV_RECOVER (R303, R397) -/

/-- A transition that waits for the rim, or is refused with a status. -/
def gate (target : DevState) (c : Ctx) (s : State) : Option Nat → State
  | some st => refuse c st s
  | none => convWait c target s

/-- A check that comes first gives its status where it fails, and leaves the others where it passes. -/
theorem gate_first {target : DevState} {c : Ctx} {s x : State} {p : Prop} [Decidable p] {bad : Option Nat} (st : Nat)
    (hrest : x = gate target c s bad) :
    (if p then refuse c st s else x) = gate target c s (if p then some st else bad) := by
  by_cases hp : p
  · rw [if_pos hp, if_pos hp, gate]
  · rw [if_neg hp, if_neg hp, hrest]

/-- A transition behind a check: it waits for the rim, or is refused with the status that the check gives. -/
def gatedWait (bad : State → Option Nat) (target : DevState) (c : Ctx) (s : State) : State := gate target c s (bad s)

section
variable {c : Instr} {op : Nat} {h : CmdHdr} {states : DevState → Bool} {s : State} {bad : State → Option Nat}
  {target : DevState}

theorem gated_waits (row : HostRow c op h states (gatedWait bad target { h := h, op := op }))
    (m : MayRun op h states s) (hbegan : ∀ x, Began s x → bad x = bad s) (hok : bad s = none) :
    Does c s (AwaitsRim op h target s) :=
  row.doesFrom m fun x hx => by
    rw [gatedWait, hbegan x hx, hok]
    exact convWait_awaits hx op h target

theorem gated_refused (row : HostRow c op h states (gatedWait bad target { h := h, op := op }))
    (m : MayRun op h states s) (hbegan : ∀ x, Began s x → bad x = bad s) (ho : PairOpen s h.pair) (ha : acts s = true)
    {st : Nat} (hbad : bad s = some st) :
    Does c s (fun t => Answers op h st [] s t ∧ engines t = engines s) :=
  row.refusesFrom m ho ha fun x hx => by rw [gatedWait, hbegan x hx, hbad, gate]

end

/-- The first check of CONV_RUN that fails (R397). -/
def runBad (s : State) : Option Nat :=
  if s.frm.budgetOk = false then some 0x0118
  else if noChannel s = true then some 0x0119
  else if anyShort s = true then some 0x0111
  else if s.fir.tx < txMin s.p then some 0x0112
  else none

theorem runBad_began {s x : State} (hx : Began s x) : runBad x = runBad s := by
  obtain ⟨_, _, _, _, _, _, rfl⟩ := hx
  rfl

theorem runBad_none {s : State} (hbudget : s.frm.budgetOk = true) (hchan : noChannel s = false)
    (hshort : anyShort s = false) (htx : txMin s.p ≤ s.fir.tx) : runBad s = none := by
  simp [runBad, hbudget, hchan, hshort, htx]

theorem runBad_some {s : State} {status : Nat}
    (hbad : (s.frm.budgetOk = false ∧ status = 0x0118) ∨
      (s.frm.budgetOk = true ∧ noChannel s = true ∧ status = 0x0119) ∨
      (s.frm.budgetOk = true ∧ noChannel s = false ∧ anyShort s = true ∧ status = 0x0111) ∨
      (s.frm.budgetOk = true ∧ noChannel s = false ∧ anyShort s = false ∧ s.fir.tx < txMin s.p ∧ status = 0x0112)) :
    runBad s = some status := by
  rcases hbad with ⟨hbudget, rfl⟩ | ⟨hbudget, hchan, rfl⟩ | ⟨hbudget, hchan, hshort, rfl⟩ |
    ⟨hbudget, hchan, hshort, htx, rfl⟩
  · simp [runBad, hbudget]
  · simp [runBad, hbudget, hchan]
  · simp [runBad, hbudget, hchan, hshort]
  · simp [runBad, hbudget, hchan, hshort, htx]

theorem convRun_eq (c : Ctx) : convRun c = gatedWait runBad .running c :=
  funext fun _ => gate_first 0x0118 (gate_first 0x0119 (gate_first 0x0111 (gate_first 0x0112 rfl)))

/-- The first check of CONV_RECOVER that fails (R303). -/
def recoverBad (s : State) : Option Nat :=
  if escLatched s = true then some 0x0114
  else if safetyFault s = true then some 0x0115
  else none

theorem recoverBad_began {s x : State} (hx : Began s x) : recoverBad x = recoverBad s := by
  obtain ⟨_, _, _, _, _, _, rfl⟩ := hx
  rfl

theorem recoverBad_none {s : State} (hesc : escLatched s = false) (hfault : safetyFault s = false) :
    recoverBad s = none := by
  simp [recoverBad, hesc, hfault]

theorem recoverBad_some {s : State} {status : Nat} (hbad : (escLatched s = true ∧ status = 0x0114) ∨
    (escLatched s = false ∧ safetyFault s = true ∧ status = 0x0115)) : recoverBad s = some status := by
  rcases hbad with ⟨hesc, rfl⟩ | ⟨hesc, hfault, rfl⟩
  · simp [recoverBad, hesc]
  · simp [recoverBad, hesc, hfault]

theorem convRecover_eq (c : Ctx) : convRecover c = gatedWait recoverBad .blocked c :=
  funext fun _ => gate_first 0x0114 (gate_first 0x0115 rfl)

/-- CONV_RUN and FCS-1 START are one transition to RUNNING. -/
theorem hostRow_run {h : CmdHdr} {x : Instr × Nat} (hx : x ∈ [(Instr.convRun h, 0x0203), (.fcs1Start h, 0x10022)]) :
    HostRow x.1 x.2 h (stIs .blocked) (gatedWait runBad .running { h := h, op := x.2 }) := by
  rw [← convRun_eq]
  simp only [List.mem_cons, List.not_mem_nil, or_false] at hx
  rcases hx with rfl | rfl <;> exact ⟨rfl, convRun_held _⟩

/-- CONV_RECOVER and FCS-1 RESET_BLOCK are one transition to BLOCKED. -/
theorem hostRow_recover {h : CmdHdr} {x : Instr × Nat}
    (hx : x ∈ [(Instr.convRecover h, 0x0207), (.fcs1ResetBlock h, 0x10025)]) :
    HostRow x.1 x.2 h (stIs .safeBlocked) (gatedWait recoverBad .blocked { h := h, op := x.2 }) := by
  rw [← convRecover_eq]
  simp only [List.mem_cons, List.not_mem_nil, or_false] at hx
  rcases hx with rfl | rfl <;> exact ⟨rfl, convRecover_held _⟩

/-- Settles O14: both pairs of commands are one transition behind its check, whose first failure is the status. -/
theorem runAndRecoverAreChecked : Obligations.RunAndRecoverAreChecked := by
  intro s h
  refine ⟨fun x hx m => ⟨fun hbudget hchan hshort htx => ?_, fun ho ha status hbad => ?_⟩,
    fun x hx m => ⟨fun hesc hfault => ?_, fun ho ha status hbad => ?_⟩⟩
  · have hst : s.st = .blocked := of_decide_eq_true m.state
    rw [← hst]
    exact gated_waits (hostRow_run hx) m (fun _ => runBad_began) (runBad_none hbudget hchan hshort htx)
  · exact gated_refused (hostRow_run hx) m (fun _ => runBad_began) ho ha (runBad_some hbad)
  · have hst : s.st = .safeBlocked := of_decide_eq_true m.state
    rw [← hst]
    exact gated_waits (hostRow_recover hx) m (fun _ => recoverBad_began) (recoverBad_none hesc hfault)
  · exact gated_refused (hostRow_recover hx) m (fun _ => recoverBad_began) ho ha (recoverBad_some hbad)

/-! ### CONV_SAFE_STOP and CONV_SAFE_BLOCK (R295, R301, R396, R399) -/

/-- A transition that waits for the rim from the states `on`, and has no effect in every other. -/
def waitsFrom (on : DevState → Bool) (target : DevState) (c : Ctx) (s : State) : State :=
  if on s.st = true then convWait c target s else convNone c s

/-- Every state but SAFE_BLOCKED. -/
def stUnblocked (d : DevState) : Bool := !stIs .safeBlocked d

theorem convSafeStop_eq (c : Ctx) : convSafeStop c = waitsFrom (stIs .running) .safeStop c := by
  funext s
  simp only [convSafeStop, waitsFrom, stIs, decide_eq_true_eq]

theorem convSafeBlock_eq (c : Ctx) : convSafeBlock c = waitsFrom stUnblocked .safeBlocked c := by
  funext s
  simp only [convSafeBlock, waitsFrom, stUnblocked, stIs, Bool.not_eq_true', decide_eq_false_iff_not, ite_not]

/-- While no state change waits, a command that the serialisation holds back has its turn (R393). -/
theorem serialHold_conv {op : Nat} {s : State} (hlo : 0x0200 ≤ op) (hhi : op ≤ 0x0209) (h : serialHold op s = false) :
    s.hif.conv = none := by
  simpa [serialHold, hlo, hhi] using h

/-- A final reply leaves the state change that waits. -/
theorem finish_conv (c : Ctx) (st : Nat) (data : List Byte) (s : State) :
    (finish c st data s).hif.conv = s.hif.conv := by
  have hdeliver : ∀ op r x, (deliver op r x).hif.conv = x.hif.conv := fun op r x => by unfold deliver; split <;> rfl
  have hjnl : ∀ pl, (jnlAdd pl s).hif.conv = s.hif.conv := fun pl => congrArg Hif.conv (jnlAdd_pairs pl s)
  unfold finish
  split
  · rw [hdeliver]; exact hjnl _
  · exact hdeliver ..

section
variable {c : Instr} {op : Nat} {h : CmdHdr} {s : State} {on : DevState → Bool} {target : DevState}

theorem waitsFrom_waits (row : HostRow c op h stUp (waitsFrom on target { h := h, op := op })) (m : MayRun op h stUp s)
    (hon : on s.st = true) : Does c s (AwaitsRim op h target s) :=
  row.doesFrom m fun x hx => by
    have hst : on x.st = true := (congrArg (fun e => on e.st) hx.engines).trans hon
    rw [waitsFrom, if_pos hst]
    exact convWait_awaits hx op h target

theorem waitsFrom_noEffect (row : HostRow c op h stUp (waitsFrom on target { h := h, op := op })) (m : MayRun op h stUp s)
    (hserial : 0x0200 ≤ asFcs2 op ∧ asFcs2 op ≤ 0x0209) (hon : on s.st = false) (ho : PairOpen s h.pair)
    (ha : acts s = true) :
    Does c s (fun t =>
      Answers op h 0 (convData s s.st true s.frm.count) s t ∧ t.hif.conv = none ∧ engines t = engines s) := by
  have hidle : s.hif.conv = none := serialHold_conv hserial.1 hserial.2 m.serial
  refine row.answersFrom m ho ha fun x hx => ⟨x, ?_, hx.pairs, hx.role, ?_, ?_⟩
  · obtain ⟨_, _, _, _, _, _, rfl⟩ := hx
    exact if_neg (Bool.eq_false_iff.mp hon)
  · exact (finish_conv ..).trans (hx.conv.trans hidle)
  · exact (settle_eng _).trans ((finish_eng ..).trans hx.engines)

end

/-- Settles O15: each of the four commands is one transition that waits from its states and has no effect elsewhere. -/
theorem safeStopAndSafeBlockActOnce : Obligations.SafeStopAndSafeBlockActOnce := by
  intro s h x hx m
  have row : ∃ on : DevState → Bool, x.2.2.2 = on s.st ∧ (0x0200 ≤ asFcs2 x.2.1 ∧ asFcs2 x.2.1 ≤ 0x0209) ∧
      HostRow x.1 x.2.1 h stUp (waitsFrom on x.2.2.1 { h := h, op := x.2.1 }) := by
    simp only [List.mem_cons, List.not_mem_nil, or_false] at hx
    rcases hx with rfl | rfl | rfl | rfl
    · exact ⟨stIs .running, rfl, by dsimp only; decide, by rw [← convSafeStop_eq]; exact ⟨rfl, convSafeStop_held _⟩⟩
    · exact ⟨stIs .running, rfl, by dsimp only; decide, by rw [← convSafeStop_eq]; exact ⟨rfl, convSafeStop_held _⟩⟩
    · exact ⟨stUnblocked, rfl, by dsimp only; decide, by rw [← convSafeBlock_eq]; exact ⟨rfl, convSafeBlock_held _⟩⟩
    · exact ⟨stUnblocked, rfl, by dsimp only; decide, by rw [← convSafeBlock_eq]; exact ⟨rfl, convSafeBlock_held _⟩⟩
  obtain ⟨on, hacts, hserial, row⟩ := row
  rw [hacts]
  exact ⟨waitsFrom_waits row m, waitsFrom_noEffect row m hserial⟩

/-! ### TRP_CLEAR (R290) -/

/-- A clear that waits for its rim. -/
def newClear (h : CmdHdr) (op inputs : Nat) (tg : Bool) : TripClear :=
  { hdr := h, opcode := op, inputs := inputs % 2 ^ 16, tg := tg, again := 0 }

/-- The trips after a clear that is refused. -/
def clearRefused (q : Trp) : Trp := { q with refused := satAdd 32 q.refused 1 }

section
variable {c : Ctx} {inputs : Nat} {tg : Bool} {idle : List Nat} {s : State}

theorem trpClear_waits (hidle : notIdle s inputs idle = []) (hfired : notFired s inputs = none) :
    trpClear c inputs tg idle s =
      { s with trp := { s.trp with clears := s.trp.clears ++ [newClear c.h c.op inputs tg] } } := by
  simp only [trpClear, hidle, hfired, ne_eq, not_true_eq_false, if_false]
  rfl

theorem trpClear_active (hidle : notIdle s inputs idle ≠ []) : trpClear c inputs tg idle s =
    finish c 0x0114 (leBytes 2 (maskOf (notIdle s inputs idle))) { s with trp := clearRefused s.trp } := if_pos hidle

theorem trpClear_unfired {k : Nat} (hidle : notIdle s inputs idle = []) (hfired : notFired s inputs = some k) :
    trpClear c inputs tg idle s = finish c 0x0110 ([0, 0] ++ leBytes 2 k) { s with trp := clearRefused s.trp } := by
  simp only [trpClear, hidle, hfired, ne_eq, not_true_eq_false, if_false]
  rfl

theorem notIdle_began {x : State} (hx : Began s x) : notIdle x inputs idle = notIdle s inputs idle := by
  obtain ⟨_, _, _, _, _, _, rfl⟩ := hx
  rfl

theorem notFired_began {x : State} (hx : Began s x) : notFired x inputs = notFired s inputs := by
  obtain ⟨_, _, _, _, _, _, rfl⟩ := hx
  rfl

end

section
variable {i : Instr} {op : Nat} {h : CmdHdr} {inputs : Nat} {tg : Bool} {idle : List Nat} {s : State}

theorem clear_waits (row : HostRow i op h stAny (trpClear { h := h, op := op } inputs tg idle))
    (m : MayRun op h stAny s) (hidle : notIdle s inputs idle = []) (hfired : notFired s inputs = none) :
    Does i s (fun t =>
      engines t = { engines s with trp := { s.trp with clears := s.trp.clears ++ [newClear h op inputs tg] } } ∧
      repliesOf t h.pair = repliesOf s h.pair) :=
  row.doesFrom m fun x hx => by
    rw [trpClear_waits ((notIdle_began hx).trans hidle) ((notFired_began hx).trans hfired)]
    obtain ⟨_, _, _, _, _, _, rfl⟩ := hx
    exact ⟨rfl, rfl⟩

/-- A clear that ends with a refusal, which is counted, answers it; no latch changes. -/
theorem clear_refused (row : HostRow i op h stAny (trpClear { h := h, op := op } inputs tg idle))
    (m : MayRun op h stAny s) (ho : PairOpen s h.pair) (ha : acts s = true) {st : Nat} {data : List Byte}
    (hown : ∀ x, Began s x → trpClear { h := h, op := op } inputs tg idle x =
      finish { h := h, op := op } st data { x with trp := clearRefused x.trp }) :
    Does i s (fun t => Answers op h st data s t ∧ engines t = { engines s with trp := clearRefused s.trp }) :=
  row.answersFrom m ho ha fun x hx => ⟨_, hown x hx, hx.pairs, hx.role,
    (settle_eng _).trans ((finish_eng ..).trans
      (congrArg (fun e : Engines => { e with trp := clearRefused e.trp }) hx.engines))⟩

end

/-- Settles O17: both commands are one clear, which waits or is refused by an input or by an entry, and is then counted. -/
theorem tripClearIsCheckedAndWaits : Obligations.TripClearIsCheckedAndWaits := by
  intro s h inputs tg idle x hx m
  have row : HostRow x.1 x.2.1 h stAny (trpClear { h := h, op := x.2.1 } inputs x.2.2 idle) := by
    simp only [List.mem_cons, List.not_mem_nil, or_false] at hx
    rcases hx with rfl | rfl <;> exact ⟨rfl, trpClear_held _ _ _ _⟩
  refine ⟨clear_waits row m, fun ho ha => ⟨fun hidle => ?_, fun k hidle hfired => ?_⟩⟩
  · refine clear_refused row m ho ha fun y hy => ?_
    rw [trpClear_active (by rwa [notIdle_began hy]), notIdle_began hy]
  · exact clear_refused row m ho ha fun y hy =>
      trpClear_unfired ((notIdle_began hy).trans hidle) ((notFired_began hy).trans hfired)

end Sys2Proof

/-! Trips, Safe Stop and Safe Block: passes and tests of the inputs, escalations, and the end of Safe Stop. -/

namespace Sys2Proof

open Sys2Proof.Machine

/-! ### Passes and tests of the trip inputs (R279, R280, R282, R291) -/

section
variable {s t : State}

theorem TripForm.pairs (h : TripForm s t) : t.hif.pairs = s.hif.pairs := by
  obtain ⟨_, _, _, _, _, _, _, _, rfl⟩ := h
  rfl

theorem TripForm.role (h : TripForm s t) : t.pair.role = s.pair.role := by
  obtain ⟨_, _, _, _, _, _, _, _, rfl⟩ := h
  rfl

theorem TripForm.engines (h : TripForm s t) : Sys2Proof.engines t = { Sys2Proof.engines s with
    trp := t.trp, sbk := t.sbk, cells := t.cells, cev := t.cev, rnk := t.rnk } := by
  obtain ⟨_, _, _, _, _, _, _, _, rfl⟩ := h
  rfl

end

/-- A latch is set after passes where it was set before or its input passed. -/
theorem tripLatch_tb (l : List Nat) (stamp : Option Nat) (time : Nat) (s : State) (j : Nat) :
    tb (tripLatch l stamp time s).trp.latch j = (tb s.trp.latch j || l.contains j) := by
  rw [tripLatch_latch, tb_foldl_setB]
  cases hj : tb s.trp.latch j with
  | true => rfl
  | false =>
    rw [Bool.false_or, Bool.false_or, Bool.eq_iff_iff]
    simp [hj]

/-- The inputs of `l` have passed: their latches are set and no other, A_r is that of the latches, and the blocks that
trips do not act on stay. -/
def Passed (l : List Nat) (s t : State) : Prop :=
  (∀ j, tb t.trp.latch j = (tb s.trp.latch j || l.contains j)) ∧ Acted t ∧
    engines t = { engines s with
      trp := t.trp, sbk := t.sbk, cells := t.cells, cev := t.cev, rnk := t.rnk, trc := t.trc }

theorem tripLatch_passed (l : List Nat) (stamp : Option Nat) (time : Nat) (s : State) :
    Passed l s (tripLatch l stamp time s) := by
  have heng := (tripLatch_form l stamp time s).engines
  have htrc : (tripLatch l stamp time s).trc = s.trc := congrArg Engines.trc heng
  refine ⟨tripLatch_tb l stamp time s, tripLatch_acted l stamp time s, ?_⟩
  rw [htrc]
  exact heng

/-- Passes stand in the blocks of the converter, and leave the recorder to itself. -/
theorem Passed.congr {l : List Nat} {s t x y : State} (h : Passed l x y) (hx : engines x = engines s)
    (hy : engines t = { engines y with trc := t.trc }) : Passed l s t := by
  obtain ⟨hlatch, hacted, heng⟩ := h
  have htrp : t.trp = y.trp := congrArg Engines.trp hy
  have hlatch0 : x.trp.latch = s.trp.latch := congrArg (fun e => e.trp.latch) hx
  have hsbk : t.sbk = y.sbk := congrArg Engines.sbk hy
  have hcells : t.cells = y.cells := congrArg Engines.cells hy
  have hcev : t.cev = y.cev := congrArg Engines.cev hy
  have hrnk : t.rnk = y.rnk := congrArg Engines.rnk hy
  refine ⟨fun j => ?_, hacted.of_trp htrp.symm, ?_⟩
  · rw [htrp, hlatch j, hlatch0]
  · rw [hy, heng, hx, htrp, hsbk, hcells, hcev, hrnk]

theorem tripFilterPass_up {i time : Nat} {s : State} (hi : i < 16) (haon : tb s.pwr.on 0 = true) :
    tripFilterPass i time s =
      tripLatch [i] (some (if s.frm.rims = 0 then 0 else time % 2 ^ 32)) time (s.at time) := if_pos ⟨hi, haon⟩

theorem tripFilterPass_down {i time : Nat} {s : State} (h : ¬ (i < 16 ∧ tb s.pwr.on 0 = true)) :
    tripFilterPass i time s = s := if_neg h

theorem filterPass_passes {i time : Nat} {s : State} (hi : i < 16) (haon : tb s.pwr.on 0 = true) :
    Does (.tripFilterPass i time) s (Passed [i] s) := by
  obtain ⟨trc, out, htrig⟩ := trcTrip_eq i time { s with out := [] } (tripFilterPass i time { s with out := [] })
  refine does_effect htrig ?_
  rw [tripFilterPass_up (s := { s with out := [] }) hi haon]
  have hpassed := tripLatch_passed [i] (some (if s.frm.rims = 0 then 0 else time % 2 ^ 32)) time
    (State.at time { s with out := [] })
  generalize tripLatch [i] _ time _ = y at hpassed ⊢
  exact hpassed.congr rfl rfl

/-- Without AON, and of an input beyond the last, there is no pass and no trigger of the recorder. -/
theorem filterPass_ignored {i time : Nat} {s : State} (h : ¬ (i < 16 ∧ tb s.pwr.on 0 = true)) :
    Does (.tripFilterPass i time) s (fun t => engines t = engines s) := by
  obtain ⟨trc, out, htrig⟩ := trcTrip_eq i time { s with out := [] } { s with out := [] }
  have hquiet : trcTrip i time { s with out := [] } { s with out := [] } = { s with out := [] } :=
    if_neg fun ⟨hclear, hset, _⟩ => Bool.false_ne_true (hclear.symm.trans hset)
  exact does_effect ((congrArg _ (tripFilterPass_down (s := { s with out := [] }) h)).trans hquiet) (settle_eng _)

theorem bitsOf_contains (n x j : Nat) : (bitsOf n x).contains j = (decide (j < n) && tb x j) := by
  rw [Bool.eq_iff_iff]
  simp [bitsOf]

theorem trpTest_passes {h : CmdHdr} {inputs : Nat} {s : State} (m : MayRun 0x0231 h stMaint s) (ho : PairOpen s h.pair)
    (ha : acts s = true) : Does (.trpTest h inputs) s (fun t =>
      Answers 0x0231 h 0 (leBytes 2 inputs ++ [0, 0] ++ leBytes 4 s.frm.count) s t ∧
      Passed (bitsOf 16 inputs) s t ∧ t.trc = s.trc) := by
  have row : HostRow (.trpTest h inputs) 0x0231 h stMaint (trpTest { h := h, op := 0x0231 } inputs) :=
    ⟨rfl, trpTest_held _ _⟩
  refine row.answersFrom m ho ha fun x hx => ?_
  have hcount : x.frm.count = s.frm.count := congrArg (fun e => e.frm.count) hx.engines
  have hform := tripLatch_form (bitsOf 16 inputs) none h.time x
  have hpassed := tripLatch_passed (bitsOf 16 inputs) none h.time x
  rw [trpTest, hcount]
  generalize tripLatch (bitsOf 16 inputs) none h.time x = y at hform hpassed ⊢
  refine ⟨y, rfl, hform.pairs.trans hx.pairs, hform.role.trans hx.role, ?_⟩
  have heng := (settle_eng _).trans (finish_eng { h := h, op := 0x0231 } 0
    (leBytes 2 inputs ++ [0, 0] ++ leBytes 4 s.frm.count) y)
  have htrc := congrArg Engines.trc heng
  refine ⟨hpassed.congr hx.engines (heng.trans ?_), htrc.trans ?_⟩
  · exact congrArg (fun r => { engines y with trc := r }) htrc.symm
  · exact (congrArg Engines.trc hform.engines).trans (congrArg Engines.trc hx.engines)

/-- Settles O18: a pass and a test are passes of their inputs, which set their latches and no other. -/
theorem passesSetTheirLatchesAlone : Obligations.PassesSetTheirLatchesAlone := by
  intro s
  refine ⟨fun i time hi haon => ?_, fun i time hno => filterPass_ignored hno, fun h inputs m ho ha => ?_⟩
  · refine (filterPass_passes hi haon).imp fun t ⟨hlatch, hacted, heng⟩ => ⟨fun j => ?_, hacted, heng⟩
    rw [hlatch j, List.contains_cons, List.contains_nil, Bool.or_false, BEq.comm]
    rfl
  · refine (trpTest_passes m ho ha).imp fun t ⟨hans, ⟨hlatch, hacted, heng⟩, htrc⟩ =>
      ⟨fun j => ?_, hacted, hans, heng, htrc⟩
    rw [hlatch j, bitsOf_contains]

/-! ### Escalations (R286, R289, R299, R301) -/

theorem tripUpdate_flt (time : Nat) (s : State) : (tripUpdate time s).flt = s.flt := by
  obtain ⟨_, _, _, _, _, h⟩ := tripUpdate_eq time s
  rw [h]

/-- A_r taken afresh leaves the latches and escalations. -/
theorem tripUpdate_trp (time : Nat) (s : State) :
    ∃ act q, (tripUpdate time s).trp = { s.trp with act := act, seq := q } := by
  obtain ⟨q, _, _, _, _, h⟩ := tripUpdate_eq time s
  exact ⟨_, q, by rw [h]⟩

theorem tripUpdate_engines (time : Nat) (s : State) :
    let t := tripUpdate time s
    engines t = { engines s with trp := t.trp, cells := t.cells, cev := t.cev, rnk := t.rnk } := by
  obtain ⟨_, _, _, _, _, h⟩ := tripUpdate_eq time s
  rw [h]
  rfl

theorem injectSafeBlock_latch (cause detail time : Nat) (s : State) :
    (injectSafeBlock cause detail time s).trp.latch = s.trp.latch := by
  obtain ⟨_, _, _, _, _, h⟩ := injectSafeBlock_eq cause detail time s
  rw [h]

theorem injectSafeBlock_sbk (cause detail time : Nat) (s : State)
    (hst : s.st = .ready ∨ s.st = .blocked ∨ s.st = .running ∨ s.st = .safeStop) :
    (injectSafeBlock cause detail time s).sbk =
      { s.sbk with injDue := s.sbk.injDue.orElse (fun _ => some (cause, detail)) } := by
  obtain ⟨_, _, _, _, _, h⟩ := injectSafeBlock_eq cause detail time s
  rw [h]
  exact if_pos hst

theorem setB_of_clear {x i : Nat} (h : tb x i = false) : setB x i true = x + 2 ^ i := by simp [setB, h]

/-- A report of a warning says that a message is counted, whichever warning it names. -/
theorem Reported.warning {blk inst kind blk' inst' kind' : Nat} {s t : State} (h : Reported blk inst kind s t)
    (hw : sevCode blk' kind' < 2) : Reported blk' inst' kind' s t :=
  ⟨h.1, fun herr => absurd hw (Nat.not_lt.mpr herr)⟩

/-- A rod's hold has escalated. -/
def escalated (r : Nat) (s : State) : State :=
  { s with trp := { s.trp with holdEsc := s.trp.holdEsc + 2 ^ r } }

theorem holdEscalate_due {r : Nat} {s : State} (hr : r < 12) (hrun : s.p 0xA050 ≤ s.trp.holdRun.getD r 0)
    (hno : tb s.trp.holdEsc r = false) :
    holdEscalate r s = tripUpdate s.frm.g (raise 0x0A r 2 0 (escalated r s)) := by
  rw [holdEscalate, if_pos ⟨hr, hrun, hno⟩, setB_of_clear hno]
  rfl

theorem trpHoldEsc_escalates {r : Nat} {s : State} (hr : r < 12) (hrun : s.p 0xA050 ≤ s.trp.holdRun.getD r 0)
    (hno : tb s.trp.holdEsc r = false) : Does (.trpHoldEsc r) s (fun t =>
      (t.trp.holdEsc = s.trp.holdEsc + 2 ^ r ∧ t.trp.latch = s.trp.latch) ∧ Acted t ∧ Reported 0x0A r 2 s t ∧
      engines t = { engines s with trp := t.trp, cells := t.cells, cev := t.cev, rnk := t.rnk }) := by
  refine does_effect (holdEscalate_due (s := { s with out := [] }) hr hrun hno) ⟨?_, ?_, ?_, ?_⟩
  · obtain ⟨act, q, htrp⟩ := tripUpdate_trp s.frm.g (raise 0x0A r 2 0 (escalated r { s with out := [] }))
    have heng := raise_eng 0x0A r 2 0 (escalated r { s with out := [] })
    rw [settle_trp, htrp]
    exact ⟨congrArg (fun e : Engines => e.trp.holdEsc) heng, congrArg (fun e : Engines => e.trp.latch) heng⟩
  · exact (tripUpdate_acted ..).of_trp rfl
  · exact ((raise_reported ..).of_flt (tripUpdate_flt ..)).settled rfl
  · rw [settle_eng, tripUpdate_engines, raise_eng]
    rfl

/-- The envelope is violated. -/
def violated (s : State) : State := { s with sbk := { s.sbk with viol := true } }

theorem sbkEnv_due {r : Nat} {s : State} (hst : s.st = .safeStop) (hstep : 0 < s.sbk.step) (hviol : s.sbk.viol = false)
    (hout : s.p 0xA103 ≤ (s.sbk.rods.getD r SbkRod.reset).out) :
    sbkEnv r s = injectSafeBlock 0x03 r (s.frm.g + 60) (raise 0x0A r 0x10 0 (violated s)) :=
  if_pos ⟨hst, hstep, hviol, hout⟩

theorem sbkEnv_violates {r : Nat} {s : State} (hst : s.st = .safeStop) (hstep : 0 < s.sbk.step)
    (hviol : s.sbk.viol = false) (hout : s.p 0xA103 ≤ (s.sbk.rods.getD r SbkRod.reset).out) :
    Does (.sbkEnv r) s (fun t =>
      t.sbk = { s.sbk with viol := true, injDue := s.sbk.injDue.orElse (fun _ => some (0x03, r)) } ∧
      (t.trp.sbLatch = true ∧ t.trp.latch = s.trp.latch) ∧ Acted t ∧ Reported 0x0A r 0x10 s t ∧
      engines t = { engines s with trp := t.trp, sbk := t.sbk, cells := t.cells, cev := t.cev, rnk := t.rnk }) := by
  refine does_effect (sbkEnv_due (s := { s with out := [] }) hst hstep hviol hout) ?_
  have heng := raise_eng 0x0A r 0x10 0 (violated { s with out := [] })
  have hraised := raise_reported 0x0A r 0x10 0 (violated { s with out := [] })
  generalize raise 0x0A r 0x10 0 (violated { s with out := [] }) = x at heng hraised ⊢
  have hx : x.st = .safeStop := (congrArg Engines.st heng).trans hst
  have hsbk : x.sbk = { s.sbk with viol := true } := congrArg Engines.sbk heng
  refine ⟨?_, ⟨?_, ?_⟩, ?_, ?_, ?_⟩
  · rw [settle_sbk, injectSafeBlock_sbk _ _ _ _ (.inr (.inr (.inr hx))), hsbk]
  · exact injectSafeBlock_sbLatch ..
  · exact (injectSafeBlock_latch ..).trans (congrArg (fun e => e.trp.latch) heng)
  · exact (injectSafeBlock_acted ..).of_trp rfl
  · exact (hraised.of_flt (injectSafeBlock_flt ..)).settled rfl
  · rw [settle_eng, injectSafeBlock_engines, heng]
    rfl

theorem tripPairDiff_due {i : Nat} {s : State} (hpaired : paired s = true) (hi : i < 16) :
    tripPairDiff i s = raise 0x0A i 3 0 s := by
  simp [tripPairDiff, raiseIf, hpaired, hi]

/-- Settles O19: each command acts and reports where it is due. The statement names kind 3 for TRP_HOLD_ESC, which is
kind 2 (R286): both are warnings, of which it says that one is counted. -/
theorem escalationsActAndReport : Obligations.EscalationsActAndReport := by
  intro s r
  refine ⟨fun hr hrun hno => ?_, fun hst hstep hviol hout => ?_, fun hpaired hr => ?_⟩
  · refine (trpHoldEsc_escalates hr hrun hno).imp fun t ⟨⟨hesc, hlatch⟩, hacted, hrep, heng⟩ => ?_
    have hwarn : sevCode 0x0A 3 < 2 := by decide
    exact ⟨hesc, hlatch, hacted, hrep.warning hwarn, congrArg Engines.st heng, congrArg Engines.sbk heng,
      congrArg Engines.frm heng, congrArg Engines.params heng⟩
  · refine (sbkEnv_violates hst hstep hviol hout).imp fun t ⟨hsbk, ⟨hblock, hlatch⟩, hacted, hrep, heng⟩ => ?_
    exact ⟨hsbk, hblock, hlatch, hacted, hrep, congrArg Engines.st heng, congrArg Engines.frm heng,
      congrArg Engines.params heng⟩
  · exact raise_does (tripPairDiff_due (s := { s with out := [] }) hpaired hr) rfl rfl

/-! ### SAFE_STOP_COMPLETE (R300) -/

/-- Every monitored rod has been below its end current long enough. -/
def rodsQuiet (s : State) : Bool :=
  (List.range 12).all (fun r => !monitored s r || decide (s.p 0xA102 ≤ (s.sbk.rods.getD r SbkRod.reset).quiet))

/-- Safe Stop ends by its steps. -/
def stepsEnd (s : State) : Prop :=
  s.st = .safeStop ∧ 0 < s.sbk.step ∧ s.p 0xA100 ≤ s.sbk.step ∧ rodsQuiet s = true

/-- Safe Stop ends by its tail. -/
def tailEnd (s : State) : Prop := s.st = .safeStop ∧ 0 < s.sbk.step ∧ s.p 0xA100 + s.p 0xA101 ≤ s.sbk.step

section
variable {s : State}

theorem stopEnds_steps (h : stepsEnd s) : stopEnds s = some 0x01 := by
  obtain ⟨hst, hstep, hlen, hquiet⟩ := h
  exact (if_pos ⟨hst, hstep⟩).trans (if_pos ⟨hlen, hquiet⟩)

theorem stopEnds_tail (hno : ¬ stepsEnd s) (h : tailEnd s) : stopEnds s = some 0x02 := by
  obtain ⟨hst, hstep, hlen⟩ := h
  exact (if_pos ⟨hst, hstep⟩).trans
    ((if_neg fun ⟨hsteps, hquiet⟩ => hno ⟨hst, hstep, hsteps, hquiet⟩).trans (if_pos hlen))

theorem stopEnds_not (hsteps : ¬ stepsEnd s) (htail : ¬ tailEnd s) : stopEnds s = none := by
  by_cases hrun : s.st = .safeStop ∧ 0 < s.sbk.step
  · obtain ⟨hst, hstep⟩ := hrun
    exact (if_pos ⟨hst, hstep⟩).trans
      ((if_neg fun ⟨hlen, hquiet⟩ => hsteps ⟨hst, hstep, hlen, hquiet⟩).trans
        (if_neg fun hlen => htail ⟨hst, hstep, hlen⟩))
  · exact if_neg hrun

/-- A request for Safe Block where none is due. -/
theorem askSafeBlock_free {cause : Nat} (h : s.sbk.blockDue = none) :
    askSafeBlock cause s = { s with sbk := { s.sbk with blockDue := some cause } } := by
  rw [askSafeBlock, h]
  rfl

theorem safeStopComplete_steps (hfree : s.sbk.blockDue = none) (h : stepsEnd s) :
    safeStopComplete s = { s with sbk := { s.sbk with blockDue := some 0x01 } } := by
  rw [← askSafeBlock_free hfree]
  simp [safeStopComplete, stopEnds_steps h, hfree]

theorem safeStopComplete_tail (hfree : s.sbk.blockDue = none) (hno : ¬ stepsEnd s) (h : tailEnd s) :
    safeStopComplete s =
      askSafeBlock 0x02 (raise 0x0A 0 0x12 0 { s with sbk := { s.sbk with tail := true } }) := by
  simp [safeStopComplete, stopEnds_tail hno h, hfree]

/-- A request that is due stays, and a Safe Stop that does not end asks for nothing. -/
theorem safeStopComplete_idle (h : s.sbk.blockDue ≠ none ∨ (¬ stepsEnd s ∧ ¬ tailEnd s)) : safeStopComplete s = s := by
  unfold safeStopComplete
  rcases h with hdue | ⟨hsteps, htail⟩
  · have hsome : s.sbk.blockDue.isSome = true := Option.isSome_iff_ne_none.mpr hdue
    split
    · exact if_pos hsome
    · rfl
  · rw [stopEnds_not hsteps htail]

theorem safeStopComplete_reports (hfree : s.sbk.blockDue = none) (hno : ¬ stepsEnd s) (h : tailEnd s) :
    Does .safeStopComplete s (fun t =>
      engines t = { engines s with sbk := { s.sbk with tail := true, blockDue := some 0x02 } } ∧
      Reported 0x0A 0 0x12 s t) := by
  refine does_effect (safeStopComplete_tail (s := { s with out := [] }) hfree hno h) ?_
  have heng := raise_eng 0x0A 0 0x12 0 { s with out := [], sbk := { s.sbk with tail := true } }
  have hrep := raise_reported 0x0A 0 0x12 0 { s with out := [], sbk := { s.sbk with tail := true } }
  generalize raise 0x0A 0 0x12 0 { s with out := [], sbk := { s.sbk with tail := true } } = x at heng hrep ⊢
  rw [askSafeBlock_free ((congrArg (fun e => e.sbk.blockDue) heng).trans hfree)]
  exact ⟨congrArg (fun e : Engines => { e with sbk := { e.sbk with blockDue := some 0x02 } }) heng, hrep.settled rfl⟩

end

/-- Settles O20: Safe Stop ends by its steps, by its tail, or not yet. -/
theorem safeStopCompletesOnce : Obligations.SafeStopCompletesOnce := by
  intro s
  refine ⟨fun hfree hsteps => ?_, fun hfree hno htail => ?_, fun hidle => ?_⟩
  · exact does_effect (safeStopComplete_steps (s := { s with out := [] }) hfree hsteps) rfl
  · exact safeStopComplete_reports hfree hno htail
  · exact does_effect (safeStopComplete_idle (s := { s with out := [] }) hidle) (settle_eng _)

end Sys2Proof

/-! The safety telegrams: what is discarded and heard, requests and their copies, lost copies and silent LANs. -/

namespace Sys2Proof

open Sys2Proof.Machine

/-! ### Telegrams received (R304, R305, R342) -/

/-- Telegrams are enabled on a LAN of a device that is not in OFF, and the port passes the frame on. -/
structure Listens (s : State) (lan : Nat) (b : List Byte) : Prop where
  takes : portTakes s lan b = true
  lan   : lan < 2
  on    : s.p 0xA200 = 1
  up    : s.st ≠ .off

/-- The telegram part after a valid telegram on a LAN: its timer starts again, its silence ends, and the supervision is
armed once both LANs have been heard. -/
def sbkHeard (lan time : Nat) (b : Sbk) : Sbk :=
  { b with
    gotValid := b.gotValid.set lan true
    lastValid := b.lastValid.set lan time
    silent := b.silent.set lan false
    armed := b.armed || (b.gotValid.set lan true).all id }

section
variable {s : State} {lan time : Nat} {b body : List Byte}

theorem telegramReceive_discards (h : portTakes s lan b = false) : telegramReceive lan b time s =
    { s with time := { s.time with discard := satAdd 16 s.time.discard 1 } } := if_pos h

theorem telegramReceive_listens (h : Listens s lan b) : telegramReceive lan b time s =
    match tgBody s b with
    | none => tgBad (s.at time)
    | some body =>
      if fld body 1 1 = 0 then tgHeard lan time (s.at time)
      else tgRequest lan body time (tgHeard lan time (s.at time)) :=
  (if_neg (by rw [h.takes]; exact Bool.noConfusion)).trans (if_pos ⟨h.lan, h.on, h.up⟩)

theorem telegramReceive_faulty (h : Listens s lan b) (hbody : tgBody s b = none) :
    telegramReceive lan b time s = tgBad (s.at time) := by
  rw [telegramReceive_listens h, hbody]

theorem telegramReceive_heartbeat (h : Listens s lan b) (hbody : tgBody s b = some body) (hbeat : fld body 1 1 = 0) :
    telegramReceive lan b time s = { s.at time with sbk := sbkHeard lan time s.sbk } := by
  rw [telegramReceive_listens h, hbody]
  exact if_pos hbeat

theorem telegramReceive_request (h : Listens s lan b) (hbody : tgBody s b = some body) (hreq : fld body 1 1 ≠ 0) :
    telegramReceive lan b time s = tgRequest lan body time { s.at time with sbk := sbkHeard lan time s.sbk } := by
  rw [telegramReceive_listens h, hbody]
  exact if_neg hreq

end

/-- Settles O21: a frame is discarded at the port, faulty, or a heartbeat that is heard. -/
theorem telegramsAreChecked : Obligations.TelegramsAreChecked := by
  intro s lan time b
  refine ⟨fun hport => ?_, fun hport hlan hon hup => ⟨fun hbody => ?_, fun body hbody hbeat => ?_⟩⟩
  · exact does_effect (telegramReceive_discards (s := { s with out := [] }) hport) rfl
  · exact does_effect (telegramReceive_faulty (s := { s with out := [] }) ⟨hport, hlan, hon, hup⟩ hbody) rfl
  · exact does_effect (telegramReceive_heartbeat (s := { s with out := [] }) ⟨hport, hlan, hon, hup⟩ hbody hbeat) rfl

/-! ### Request copies (R306, R307, R308) -/

/-- The SEQ of a telegram. -/
def tgSeq (body : List Byte) : Nat := fld body 6 2

/-- A request copy is new: it is the first of all, or its SEQ lies ahead of the last one matched (R306). -/
def NewSeq (body : List Byte) (s : State) : Prop :=
  s.sbk.anySeq = true ∨ ((tgSeq body + 2 ^ 16 - s.sbk.lastSeq) % 2 ^ 16 ≠ 0 ∧
    (tgSeq body + 2 ^ 16 - s.sbk.lastSeq) % 2 ^ 16 < 2 ^ 15)

/-- A request copy received on a LAN in the present frame. -/
def newCopy (lan : Nat) (body : List Byte) (s : State) : TgCopy :=
  { lan := lan, frame := s.frm.rims, seq := tgSeq body, body := body }

/-- A copy on the other LAN received at most two frames before that is equal. -/
structure Matches (lan : Nat) (body : List Byte) (s : State) (c : TgCopy) : Prop where
  seq  : c.seq = tgSeq body
  lan  : c.lan ≠ lan
  near : s.frm.rims ≤ c.frame + 2
  body : c.body = body

section
variable {s : State} {lan time : Nat} {body : List Byte}

/-- A copy that is new is not discarded. -/
theorem NewSeq.not_old (h : NewSeq body s) : ¬ (s.sbk.anySeq = false ∧
    ((tgSeq body + 2 ^ 16 - s.sbk.lastSeq) % 2 ^ 16 = 0 ∨
      2 ^ 15 ≤ (tgSeq body + 2 ^ 16 - s.sbk.lastSeq) % 2 ^ 16)) := by
  rintro ⟨hany, hd⟩
  rcases h with hfirst | ⟨hne, hlt⟩
  · exact Bool.false_ne_true (hany.symm.trans hfirst)
  · exact hd.elim hne (Nat.not_le.mpr hlt)

theorem tgRequest_first (hnew : NewSeq body s) (hnone : ∀ c ∈ s.sbk.copies, c.seq ≠ tgSeq body) :
    tgRequest lan body time s =
      { s with sbk := { s.sbk with copies := s.sbk.copies ++ [newCopy lan body s] } } := by
  have hfind : s.sbk.copies.find? (fun c => c.seq == fld body 6 2 && c.lan != lan &&
      decide (s.frm.rims ≤ c.frame + 2)) = none :=
    List.find?_eq_none.mpr fun c hc => by simp [show c.seq ≠ fld body 6 2 from hnone c hc]
  have hown : s.sbk.copies.any (fun c => c.seq == fld body 6 2 && c.lan == lan) = false :=
    List.any_eq_false.mpr fun c hc => by simp [show c.seq ≠ fld body 6 2 from hnone c hc]
  refine (if_neg hnew.not_old).trans ?_
  simp only [hfind, hown]
  rfl

theorem tgRequest_second {c : TgCopy} (hnew : NewSeq body s) (hcopies : s.sbk.copies = [c])
    (hc : Matches lan body s c) :
    tgRequest lan body time s = tgMatch body time { s with sbk := { s.sbk with copies := [] } } := by
  obtain ⟨hseq, hlan, hnear, hbody⟩ := hc
  have hseq' : c.seq = fld body 6 2 := hseq
  refine (if_neg hnew.not_old).trans ?_
  simp [hcopies, hseq', hlan, hnear, hbody]

/-- The telegram part after a match: the count of matches and the last SEQ follow (R306). -/
def sbkMatched (body : List Byte) (b : Sbk) : Sbk :=
  { b with matched := satAdd 16 b.matched 1, lastSeq := tgSeq body, anySeq := false }

theorem tgMatch_stop (h : fld body 1 1 = 1) : tgMatch body time s =
    { s with sbk := { sbkMatched body s.sbk with tgStop := s.sbk.tgStop || acts s } } := by
  unfold tgMatch
  rw [h]
  cases acts s with
  | true => rw [Bool.or_true]; rfl
  | false => rw [Bool.or_false]; rfl

theorem tgMatch_block (h : fld body 1 1 = 2) : tgMatch body time s = injectSafeBlock 0x09 0 time
    { s with sbk := sbkMatched body s.sbk, trp := { s.trp with tgLatch := true, tgMask := 0xFFF } } := by
  unfold tgMatch
  rw [h]
  rfl

theorem tgMatch_rods (h : 2 < fld body 1 1) : tgMatch body time s = tripUpdate time
    { s with
      sbk := sbkMatched body s.sbk
      trp := { s.trp with tgLatch := true, tgMask := s.trp.tgMask ||| fld body 8 2 } } := by
  unfold tgMatch
  split
  · next h1 => omega
  · next h2 => omega
  · rfl

/-- Safe Block by the injected path leaves the copies and the record of matches. -/
theorem injectSafeBlock_sbk_matches (cause detail : Nat) :
    ∃ due, (injectSafeBlock cause detail time s).sbk = { s.sbk with injDue := due } := by
  obtain ⟨_, _, _, _, _, h⟩ := injectSafeBlock_eq cause detail time s
  rw [h]
  by_cases hst : s.st = .ready ∨ s.st = .blocked ∨ s.st = .running ∨ s.st = .safeStop
  · exact ⟨_, if_pos hst⟩
  · exact ⟨_, if_neg hst⟩

/-- Safe Block by the injected path leaves the telegram latch. -/
theorem injectSafeBlock_tg (cause detail : Nat) :
    (injectSafeBlock cause detail time s).trp.tgLatch = s.trp.tgLatch ∧
      (injectSafeBlock cause detail time s).trp.tgMask = s.trp.tgMask := by
  obtain ⟨_, _, _, _, _, h⟩ := injectSafeBlock_eq cause detail time s
  rw [h]
  exact ⟨rfl, rfl⟩

end

/-- What a match does: the record of matches follows, the device state and the latches of the inputs stay, and the request
acts by its kind, A_r with it (R308). -/
def MatchActs (body : List Byte) (s t : State) : Prop :=
  t.sbk.copies = s.sbk.copies ∧ t.sbk.matched = satAdd 16 s.sbk.matched 1 ∧ t.sbk.lastSeq = tgSeq body ∧ t.st = s.st ∧
    t.trp.latch = s.trp.latch ∧
    (fld body 1 1 = 1 → t.sbk.tgStop = (s.sbk.tgStop || acts s) ∧ t.trp = s.trp) ∧
    (fld body 1 1 = 2 → t.trp.tgLatch = true ∧ t.trp.tgMask = 0xFFF ∧ t.trp.sbLatch = true ∧ Acted t) ∧
    (2 < fld body 1 1 → t.trp.tgLatch = true ∧ t.trp.tgMask = s.trp.tgMask ||| fld body 8 2 ∧
      t.trp.sbLatch = s.trp.sbLatch ∧ Acted t)

section
variable {s : State} {time : Nat} {body : List Byte}

theorem tgMatch_stops (h : fld body 1 1 = 1) : MatchActs body s (settle (tgMatch body time s)) := by
  rw [tgMatch_stop h]
  exact ⟨rfl, rfl, rfl, rfl, rfl, fun _ => ⟨rfl, rfl⟩, fun h2 => by omega, fun h3 => by omega⟩

theorem tgMatch_blocks (h : fld body 1 1 = 2) : MatchActs body s (settle (tgMatch body time s)) := by
  rw [tgMatch_block h]
  generalize hx : ({ s with
    sbk := sbkMatched body s.sbk
    trp := { s.trp with tgLatch := true, tgMask := 0xFFF } } : State) = x
  obtain ⟨due, hsbk⟩ := injectSafeBlock_sbk_matches (s := x) (time := time) 0x09 0
  obtain ⟨hlatch, hmask⟩ := injectSafeBlock_tg (s := x) (time := time) 0x09 0
  have hst : (injectSafeBlock 0x09 0 time x).st = x.st := congrArg Engines.st (injectSafeBlock_engines 0x09 0 time x)
  have hins := injectSafeBlock_latch 0x09 0 time x
  have hblock := injectSafeBlock_sbLatch 0x09 0 time x
  have hacted := injectSafeBlock_acted 0x09 0 time x
  generalize injectSafeBlock 0x09 0 time x = y at hsbk hlatch hmask hst hins hblock hacted ⊢
  subst hx
  unfold MatchActs
  rw [settle_sbk, hsbk]
  exact ⟨rfl, rfl, rfl, hst, hins, fun h1 => by omega, fun _ => ⟨hlatch, hmask, hblock, hacted.of_trp rfl⟩,
    fun h3 => by omega⟩

theorem tgMatch_blocksRods (h : 2 < fld body 1 1) : MatchActs body s (settle (tgMatch body time s)) := by
  rw [tgMatch_rods h]
  generalize hx : ({ s with
    sbk := sbkMatched body s.sbk
    trp := { s.trp with tgLatch := true, tgMask := s.trp.tgMask ||| fld body 8 2 } } : State) = x
  obtain ⟨act, q, htrp⟩ := tripUpdate_trp time x
  have heng := tripUpdate_engines time x
  have hacted := tripUpdate_acted time x
  generalize tripUpdate time x = y at htrp heng hacted ⊢
  have hsbk : y.sbk = x.sbk := congrArg Engines.sbk heng
  have hst : y.st = x.st := congrArg Engines.st heng
  subst hx
  unfold MatchActs
  rw [settle_sbk, settle_trp, hsbk, htrp]
  exact ⟨rfl, rfl, rfl, hst, rfl, fun h1 => by omega, fun h2 => by omega,
    fun _ => ⟨rfl, rfl, rfl, hacted.of_trp rfl⟩⟩

/-- A match of a request, which is no heartbeat, acts by its kind. -/
theorem tgMatch_acts (hreq : fld body 1 1 ≠ 0) : MatchActs body s (settle (tgMatch body time s)) := by
  obtain h | h | h : fld body 1 1 = 1 ∨ fld body 1 1 = 2 ∨ 2 < fld body 1 1 := by omega
  · exact tgMatch_stops h
  · exact tgMatch_blocks h
  · exact tgMatch_blocksRods h

end

/-- Settles O22: a first copy waits, and a second one that is equal is a match. -/
theorem telegramRequestsAreMatched : Obligations.TelegramRequestsAreMatched := by
  intro s lan time b body hport hlan hon hup hbody hreq seq d hnew
  have hlisten : Listens { s with out := [] } lan b := ⟨hport, hlan, hon, hup⟩
  have hrequest := telegramReceive_request (time := time) hlisten hbody hreq
  refine ⟨fun hnone => ?_, fun c hcopies hseq hother hnear hequal => ?_⟩
  · exact does_effect (hrequest.trans (tgRequest_first hnew hnone)) ⟨rfl, rfl, rfl, rfl, rfl⟩
  · exact does_effect (hrequest.trans (tgRequest_second hnew hcopies ⟨hseq, hother, hnear, hequal⟩)) (tgMatch_acts hreq)

/-! ### Lost copies and silent LANs (R305, R307, R309) -/

/-- The Safe Stop request after a telegram fault with a reaction code (R309). -/
def stopAsked (s : State) (code : Nat) (due : Option Nat) : Option Nat :=
  if acts s = true ∧ code = 4 then due.orElse (fun _ => some 0x15) else due

theorem tgReact_eq {code : Nat} (h : code ≠ 5) (time : Nat) (s : State) :
    tgReact code time s = { s with sbk := { s.sbk with stopDue := stopAsked s code s.sbk.stopDue } } := by
  unfold tgReact stopAsked
  by_cases ha : acts s = true
  · by_cases hcode : code = 4
    · rw [if_pos ha, if_pos hcode, if_pos ⟨ha, hcode⟩]
      rfl
    · rw [if_pos ha, if_neg hcode, if_neg h, if_neg fun hboth => hcode hboth.2]
  · rw [if_neg ha, if_neg fun hboth => ha hboth.1]

/-- A telegram fault with a reaction code other than 5 is reported, and asks for Safe Stop by its code. -/
theorem tgReact_does {i : Instr} {s x : State} {e : Engines} {kind code time : Nat}
    (he : effect i { s with out := [] } = tgReact code time (raise 0x0A 0 kind 0 x)) (hcode : code ≠ 5)
    (hflt : x.flt = s.flt) (hpair : x.pair = s.pair) (heng : engines x = e) : Does i s (fun t =>
      engines t = { e with sbk := { e.sbk with stopDue := stopAsked s code e.sbk.stopDue } } ∧
      Reported 0x0A 0 kind s t) := by
  have hraise := (raise_eng 0x0A 0 kind 0 x).trans heng
  have hacts : acts (raise 0x0A 0 kind 0 x) = acts s :=
    acts_role s _ (congrArg Pair.role ((raise_pair 0x0A 0 kind 0 x).trans hpair))
  have hrep := raise_reported 0x0A 0 kind 0 x
  rw [tgReact_eq hcode, stopAsked, hacts] at he
  generalize raise 0x0A 0 kind 0 x = y at he hraise hrep
  subst hraise
  exact does_effect he ⟨rfl, hrep.settled hflt⟩

/-- A copy that waits on a LAN has no match three rims later. -/
def overdue (lan : Nat) (s : State) (c : TgCopy) : Bool := c.lan == lan && decide (c.frame + 3 ≤ s.frm.rims)

/-- The telegram part after the loss of the copies that are overdue. -/
def sbkLost (lan : Nat) (s : State) : Sbk :=
  { s.sbk with loss := satAdd 8 s.sbk.loss 1, copies := s.sbk.copies.filter (fun c => !overdue lan s c) }

theorem tgLoss_due {lan : Nat} {s : State} (h : ∃ c ∈ s.sbk.copies, c.lan = lan ∧ c.frame + 3 ≤ s.frm.rims) :
    tgLoss lan s = tgReact (s.p 0xA206) s.now (raise 0x0A 0 0x14 0 { s with sbk := sbkLost lan s }) := by
  obtain ⟨c, hc, hlan, hold⟩ := h
  exact if_pos (List.any_eq_true.mpr ⟨c, hc, by simp [hlan, hold]⟩)

/-- Which LANs are silent at an instant (R305). -/
def silentAt (time : Nat) (s : State) : List Bool :=
  [0, 1].map (fun l => decide (s.sbk.lastValid.getD l 0 + 1000000 * s.p 0xA204 ≤ time))

section
variable {s : State} {time : Nat}

theorem tgSilence_same (hon : s.p 0xA200 = 1) (harmed : s.sbk.armed = true) (hsame : silentAt time s = s.sbk.silent) :
    tgSilence time s = s.at time := by
  refine (if_pos ⟨hon, harmed⟩).trans ((if_pos hsame).trans ?_)
  show { s.at time with sbk := { s.sbk with silent := silentAt time s } } = s.at time
  rw [hsame]
  rfl

theorem tgSilence_both (hon : s.p 0xA200 = 1) (harmed : s.sbk.armed = true) (hnew : silentAt time s ≠ s.sbk.silent)
    (hboth : silentAt time s = [true, true]) : tgSilence time s =
      tgReact (s.p 0xA207) time (raise 0x0A 0 0x15 0 { s.at time with
        sbk := { s.sbk with silent := silentAt time s, silentN := satAdd 8 s.sbk.silentN 1 } }) := by
  have hall : (silentAt time s).all id = true := by rw [hboth]; rfl
  exact (if_pos ⟨hon, harmed⟩).trans ((if_neg hnew).trans (if_pos hall))

theorem tgSilence_one (hon : s.p 0xA200 = 1) (harmed : s.sbk.armed = true) (hnew : silentAt time s ≠ s.sbk.silent)
    (hone : silentAt time s = [true, false] ∨ silentAt time s = [false, true]) : tgSilence time s =
      tgReact (s.p 0xA208) time (raise 0x0A 0 0x16 0 { s.at time with
        sbk := { s.sbk with silent := silentAt time s, lane := satAdd 8 s.sbk.lane 1 } }) := by
  have hall : (silentAt time s).all id = false := by rcases hone with h | h <;> rw [h] <;> rfl
  have hany : (silentAt time s).any id = true := by rcases hone with h | h <;> rw [h] <;> rfl
  exact (if_pos ⟨hon, harmed⟩).trans
    ((if_neg hnew).trans ((if_neg (Bool.eq_false_iff.mp hall)).trans (if_pos hany)))

end

/-- Settles O23: a loss, a silence and a silent lane are each a fault that reacts by its parameter. -/
theorem telegramLossAndSilenceReport : Obligations.TelegramLossAndSilenceReport := by
  intro s lan time
  refine ⟨fun hlost hcode => ?_, fun hon harmed => ⟨fun hsame => ?_, fun hnew hboth hcode => ?_,
    fun hnew hone hcode => ?_⟩⟩
  · exact tgReact_does (i := .sbkTgLoss lan) (tgLoss_due (s := { s with out := [] }) hlost) hcode rfl rfl rfl
  · exact does_effect (tgSilence_same (s := { s with out := [] }) hon harmed hsame) (settle_eng _)
  · exact tgReact_does (i := .sbkTgSilence time) (tgSilence_both (s := { s with out := [] }) hon harmed hnew hboth)
      hcode rfl rfl rfl
  · exact tgReact_does (i := .sbkTgSilence time) (tgSilence_one (s := { s with out := [] }) hon harmed hnew hone)
      hcode rfl rfl rfl

end Sys2Proof

/-! The commands of the pair group: hand-over, leave, claim and rejoin are asked for in the roles that allow them. -/

namespace Sys2Proof

open Sys2Proof.Machine

/-! ### Commands of the pair group (R336, R384) -/

section
variable {c : Instr} {op : Nat} {h : CmdHdr} {states : DevState → Bool} {own : State → State} {s : State}

/-- A command of the pair group that is refused where its own effect begins answers so in every role (R336). -/
theorem HostRow.pairRefuses (row : HostRow c op h states own) (hop : isPairOp op = true) (m : MayRun op h states s)
    (ho : PairOpen s h.pair) {st : Nat} (hown : ∀ x, Began s x → own x = refuse { h := h, op := op } st x) :
    Does c s (fun t => Answers op h st [] s t ∧ engines t = engines s) :=
  host_answers c op h states own s row.runs m row.held ho (by simp [Delivers, hop]) st [] (hown _ (taken_began ..))

/-- A change of role is asked for, and has no reply yet: the role and the blocks of the converter are as before. -/
def AsksRole (op : Nat) (h : CmdHdr) (r : Role) (s t : State) : Prop :=
  t.pair.change = s.pair.change ++ [(h, op, r)] ∧ t.pair.role = s.pair.role ∧ engines t = engines s ∧
    repliesOf t h.pair = repliesOf s h.pair

/-- A command that asks for a change of role where its own effect begins. -/
theorem HostRow.asksRole (row : HostRow c op h states own) (m : MayRun op h states s) {r : Role}
    (hown : ∀ x, Began s x → own x = askChange { h := h, op := op } r x) : Does c s (AsksRole op h r s) :=
  row.doesFrom m fun x hx => by
    rw [hown x hx]
    obtain ⟨_, _, _, _, _, _, rfl⟩ := hx
    exact ⟨rfl, rfl, rfl, rfl⟩

end

/-! ### PAIR_SWITCH (R328, R336) -/

/-- No partner follows the device: it is not ACTIVE, no link is locked, or the partner has another role. -/
def NoFollower (s : State) : Prop :=
  s.pair.role ≠ .active ∨ s.pair.links.any id = false ∨ ¬ (s.pair.ptnrRole = 2 ∨ s.pair.ptnrRole = 3)

/-- A hand-over is announced or asked for. -/
def HandingOver (s : State) : Prop := s.pair.hover = true ∨ s.pair.hoverReq.isSome = true

section
variable {c : Ctx} {s : State}

theorem askHandover_free (w : HoverWhy) (hfree : ¬ HandingOver s) :
    askHandover w s = { s with pair := { s.pair with hoverReq := some w } } :=
  if_neg fun hbusy => hfree hbusy.symm

theorem pairSwitch_alone (hrole : s.pair.role ≠ .standby) (halone : NoFollower s) :
    pairSwitch c s = refuse c 0x0802 s :=
  (if_neg fun hmirror => hrole hmirror.1).trans (if_pos halone)

theorem pairSwitch_unsynced (hrole : s.pair.role ≠ .standby) (hpartner : ¬ NoFollower s)
    (hsync : partnerSynced s = false) : pairSwitch c s = refuse c 0x0803 s :=
  (if_neg fun hmirror => hrole hmirror.1).trans ((if_neg hpartner).trans (if_pos hsync))

theorem pairSwitch_busy (hrole : s.pair.role ≠ .standby) (hpartner : ¬ NoFollower s)
    (hsync : partnerSynced s = true) (hbusy : HandingOver s) : pairSwitch c s = refuse c 0x0301 s :=
  (if_neg fun hmirror => hrole hmirror.1).trans
    ((if_neg hpartner).trans ((if_neg (by rw [hsync]; exact Bool.noConfusion)).trans (if_pos hbusy)))

theorem pairSwitch_asks (hrole : s.pair.role ≠ .standby) (hpartner : ¬ NoFollower s)
    (hsync : partnerSynced s = true) (hfree : ¬ HandingOver s) :
    pairSwitch c s = { s with pair := { s.pair with hoverReq := some (.switch c.h) } } :=
  (if_neg fun hmirror => hrole hmirror.1).trans
    ((if_neg hpartner).trans ((if_neg (by rw [hsync]; exact Bool.noConfusion)).trans
      ((if_neg hfree).trans (askHandover_free _ hfree))))

end

/-! ### The four commands (R336) -/

theorem hostRow_pairSwitch (h : CmdHdr) :
    HostRow (.pairSwitch h) 0x0901 h stUp (pairSwitch { h := h, op := 0x0901 }) := ⟨rfl, pairSwitch_held _⟩

theorem hostRow_pairLeave (h : CmdHdr) :
    HostRow (.pairLeave h) 0x0902 h stUp (pairLeave { h := h, op := 0x0902 }) := ⟨rfl, pairLeave_held _⟩

theorem hostRow_pairClaim (h : CmdHdr) :
    HostRow (.pairClaim h) 0x0903 h stUp (pairClaim { h := h, op := 0x0903 }) := ⟨rfl, pairClaim_held _⟩

theorem hostRow_pairRejoin (h : CmdHdr) :
    HostRow (.pairRejoin h) 0x0904 h stUp (pairRejoin { h := h, op := 0x0904 }) := ⟨rfl, pairRejoin_held _⟩

/-- PAIR_SWITCH of an ACTIVE device that a synchronised partner follows, and no hand-over under way, asks for one. -/
theorem pairSwitch_does {s : State} {h : CmdHdr} (m : MayRun 0x0901 h stUp s) (hrole : s.pair.role ≠ .standby)
    (hpartner : ¬ NoFollower s) (hsync : partnerSynced s = true) (hfree : ¬ HandingOver s) :
    Does (.pairSwitch h) s (fun t => t.pair.hoverReq = some (.switch h) ∧ t.pair.role = s.pair.role ∧
      engines t = engines s ∧ repliesOf t h.pair = repliesOf s h.pair) :=
  (hostRow_pairSwitch h).doesFrom m fun x hx => by
    have hasks : pairSwitch { h := h, op := 0x0901 } x =
        { x with pair := { x.pair with hoverReq := some (.switch h) } } := by
      obtain ⟨_, _, _, _, _, _, rfl⟩ := hx
      exact pairSwitch_asks hrole hpartner hsync hfree
    rw [hasks]
    obtain ⟨_, _, _, _, _, _, rfl⟩ := hx
    exact ⟨rfl, rfl, rfl, rfl⟩

/-- Settles O33: each command is a chain of checks: the first failure is refused, and the end asks for the change. -/
theorem pairCommandsAreChecked : Obligations.PairCommandsAreChecked := by
  intro s h ho
  refine ⟨fun m hrole => ⟨fun halone => ?_, fun hpartner hsync => ?_, fun hpartner hsync hbusy => ?_,
    fun hpartner hsync hfree => ?_⟩, fun m => ⟨fun hf => ?_, fun hf => ?_⟩,
    fun m => ⟨fun ha hdark hhb => ?_, fun hno => ?_⟩, fun m => ⟨fun hrole hfit => ?_, fun hno => ?_⟩⟩
  · exact (hostRow_pairSwitch h).pairRefuses rfl m ho
      fun | _, ⟨_, _, _, _, _, _, rfl⟩ => pairSwitch_alone hrole halone
  · exact (hostRow_pairSwitch h).pairRefuses rfl m ho
      fun | _, ⟨_, _, _, _, _, _, rfl⟩ => pairSwitch_unsynced hrole hpartner hsync
  · exact (hostRow_pairSwitch h).pairRefuses rfl m ho
      fun | _, ⟨_, _, _, _, _, _, rfl⟩ => pairSwitch_busy hrole hpartner hsync hbusy
  · exact pairSwitch_does m hrole hpartner hsync hfree
  · exact (hostRow_pairLeave h).asksRole m fun | _, ⟨_, _, _, _, _, _, rfl⟩ => if_pos hf
  · exact (hostRow_pairLeave h).pairRefuses rfl m ho
      fun | _, ⟨_, _, _, _, _, _, rfl⟩ => if_neg (Bool.eq_false_iff.mp hf)
  · exact (hostRow_pairClaim h).asksRole m fun | _, ⟨_, _, _, _, _, _, rfl⟩ => if_pos ⟨ha, hdark, hhb⟩
  · refine (hostRow_pairClaim h).pairRefuses rfl m ho
      fun | _, ⟨_, _, _, _, _, _, rfl⟩ => if_neg fun ⟨ha, hdark, hhb⟩ => ?_
    rcases hno with hacts | hlight | hheart
    · exact Bool.false_ne_true (ha.symm.trans hacts)
    · exact Nat.not_lt.mpr hlight hdark
    · exact Nat.not_lt.mpr hheart hhb
  · exact (hostRow_pairRejoin h).asksRole m fun | _, ⟨_, _, _, _, _, _, rfl⟩ => if_pos ⟨hrole, hfit⟩
  · refine (hostRow_pairRejoin h).pairRefuses rfl m ho
      fun | _, ⟨_, _, _, _, _, _, rfl⟩ => if_neg fun ⟨hrole, hfit⟩ => ?_
    rcases hno with hother | hbad
    · exact hother hrole
    · exact Bool.false_ne_true (hfit.symm.trans hbad)

end Sys2Proof

/-! Messages of the partner: what is dropped, what a heartbeat says, and what a follower keeps for its rim. -/

namespace Sys2Proof

open Sys2Proof.Machine

/-! ### A message of a partner link (R316) -/

/-- A message is heard: the device is paired and not in OFF, and the link that carries it is locked. -/
def MsgHeard (p : PHdr) (s : State) : Prop :=
  paired s = true ∧ s.st ≠ .off ∧ s.pair.links.getD p.link false = true

/-- A message that is heard is new: it passes its checks, and its number was not seen. -/
structure MsgNew (p : PHdr) (s : State) : Prop where
  heard : MsgHeard p s
  good  : p.good = true
  fresh : s.pair.mseqRx.contains p.mseq = false

/-- The pair with the number of a message noted. -/
def noted (p : PHdr) (q : Pair) : Pair := { q with mseqRx := (p.mseq :: q.mseqRx).take 64 }

/-- The state in which a new message is taken in. -/
def atMsg (p : PHdr) (s : State) : State := { s.at (p.time / 16) with pair := noted p s.pair }

/-- The pair becomes `q`; the blocks of the converter and the host interface stay. -/
def PairIs (s : State) (q : Pair) (t : State) : Prop := engines t = engines s ∧ t.hif = s.hif ∧ t.pair = q

theorem pairIs_set {s x : State} (heng : engines x = engines s) (hhif : x.hif = s.hif) (q : Pair) :
    PairIs s q (settle { x with pair := q }) := ⟨heng, hhif, rfl⟩

section
variable {p : PHdr} {f : State → State} {s : State}

theorem not_msgHeard : ¬ MsgHeard p s ↔
    (paired s = false ∨ s.st = .off ∨ s.pair.links.getD p.link false = false) := by
  rw [MsgHeard, Classical.not_and_iff_not_or_not, Classical.not_and_iff_not_or_not, Classical.not_not,
    Bool.not_eq_true, Bool.not_eq_true]

theorem pairMsg_unheard (h : ¬ MsgHeard p s) : pairMsg p f s = s := if_pos (not_msgHeard.mp h)

theorem pairMsg_bad (h : MsgHeard p s) (hbad : p.good = false) : pairMsg p f s =
    { s.at (p.time / 16) with pair := { s.pair with bad := satAdd 16 s.pair.bad 1 } } :=
  (if_neg fun hno => not_msgHeard.mpr hno h).trans (if_pos hbad)

theorem pairMsg_seen (h : MsgHeard p s) (hgood : p.good = true) (hseen : s.pair.mseqRx.contains p.mseq = true) :
    pairMsg p f s = s.at (p.time / 16) :=
  (if_neg fun hno => not_msgHeard.mpr hno h).trans
    ((if_neg (by rw [hgood]; exact Bool.noConfusion)).trans (if_pos hseen))

theorem pairMsg_new (h : MsgNew p s) : pairMsg p f s = f (atMsg p s) :=
  (if_neg fun hno => not_msgHeard.mpr hno h.heard).trans
    ((if_neg (by rw [h.good]; exact Bool.noConfusion)).trans
      (if_neg (show ¬ s.pair.mseqRx.contains p.mseq = true by rw [h.fresh]; exact Bool.noConfusion)))

end

/-- The command is a message of the partner that `f` takes in, where no host command waits. -/
structure MsgRow (c : Instr) (p : PHdr) (f : State → State) : Prop where
  runs : ∀ s : State, s.hif.held = [] → effect c s = pairMsg p f s

namespace MsgRow

variable {c : Instr} {p : PHdr} {f : State → State} {s : State}

/-- A message after which held host commands may have their turn. -/
theorem ofWaking (he : effect c = fun x => runHeld (pairMsg p f x)) (hf : ∀ x, heldOf (f x) = heldOf x) :
    MsgRow c p f :=
  ⟨fun s hheld => by rw [he]; exact runHeld_none _ ((pairMsg_held p f s hf).trans hheld)⟩

variable (row : MsgRow c p f) (hheld : s.hif.held = [])
include row hheld

/-- Unheard, a message does nothing. -/
theorem unheard (h : ¬ MsgHeard p s) : Does c s (PairIs s s.pair) :=
  does_effect ((row.runs { s with out := [] } hheld).trans (pairMsg_unheard (s := { s with out := [] }) h))
    ⟨rfl, rfl, rfl⟩

/-- A message that fails its checks is counted. -/
theorem bad (h : MsgHeard p s) (hbad : p.good = false) :
    Does c s (PairIs s { s.pair with bad := satAdd 16 s.pair.bad 1 }) :=
  does_effect ((row.runs { s with out := [] } hheld).trans (pairMsg_bad (s := { s with out := [] }) h hbad))
    ⟨rfl, rfl, rfl⟩

/-- A message seen before is dropped. -/
theorem seen (h : MsgHeard p s) (hgood : p.good = true) (hseen : s.pair.mseqRx.contains p.mseq = true) :
    Does c s (PairIs s s.pair) :=
  does_effect ((row.runs { s with out := [] } hheld).trans (pairMsg_seen (s := { s with out := [] }) h hgood hseen))
    ⟨rfl, rfl, rfl⟩

/-- A new message does what `f` does with it. -/
theorem takes (h : MsgNew p s) {P : State → Prop} {x : State} (hf : f (atMsg p { s with out := [] }) = x)
    (hP : P (settle x)) : Does c s P :=
  does_effect ((row.runs { s with out := [] } hheld).trans
    ((pairMsg_new (s := { s with out := [] }) ⟨h.heard, h.good, h.fresh⟩).trans hf)) hP

/-- A new message that `f` only changes the pair by. -/
theorem sets (h : MsgNew p s) {q : Pair}
    (hf : f (atMsg p { s with out := [] }) = { atMsg p { s with out := [] } with pair := q }) :
    Does c s (PairIs s q) := row.takes hheld h hf (pairIs_set rfl rfl q)

/-- A new message that `f` does not use is noted. -/
theorem notes (h : MsgNew p s) (hf : f (atMsg p { s with out := [] }) = atMsg p { s with out := [] }) :
    Does c s (PairIs s (noted p s.pair)) := row.takes hheld h hf ⟨rfl, rfl, rfl⟩

end MsgRow

section
variable (p : PHdr)

theorem msgRow_hb (m : HbMsg) : MsgRow (.hb p m) p (hbTake p m) := .ofWaking rfl (hbTake_held p m)

theorem msgRow_cell (l : List CellRec) : MsgRow (.cell p l) p (cellTake p l) := ⟨fun _ _ => rfl⟩

theorem msgRow_loop (l : List LoopRec) : MsgRow (.loop p l) p (loopTake p l) := ⟨fun _ _ => rfl⟩

theorem msgRow_obs (l : List ObsRec) : MsgRow (.obs p l) p (obsTake p l) := ⟨fun _ _ => rfl⟩

theorem msgRow_image (m : ImageMsg) : MsgRow (.image p m) p (imageTake m) := ⟨fun _ _ => rfl⟩

theorem msgRow_hello (m : HelloMsg) : MsgRow (.hello p m) p (helloTake m) := ⟨fun _ _ => rfl⟩

theorem msgRow_hoverAck (fn : Nat) : MsgRow (.hoverAck p fn) p (hoverAckTake fn) := ⟨fun _ _ => rfl⟩

theorem msgRow_mirror (pair gen seq : Nat) (b : List Byte) :
    MsgRow (.mirror p pair gen seq b) p (mirrorTake pair gen seq b) := ⟨fun _ _ => rfl⟩

theorem msgRow_mirAck (pair seq time : Nat) : MsgRow (.mirAck p pair seq time) p (mirAckTake pair seq time) :=
  .ofWaking rfl (mirAckTake_held pair seq time)

theorem msgRow_exec (pair seq num : Nat) : MsgRow (.partnerExec p pair seq num) p (execTake pair seq num) :=
  .ofWaking rfl (execTake_held pair seq num)

theorem msgRow_execAck (num : Nat) : MsgRow (.execAck p num) p (execAckTake num) :=
  .ofWaking rfl (execAckTake_held num)

end

/-! ### HB (R318, R321, R324, R328) -/

/-- What a heartbeat gives of the partner, beside the role of the device. -/
structure HbKept where
  role     : Role
  ptnrRole : Nat
  ptnrDev  : Nat
  ptnrSync : Bool
  ptnrCrc  : Option Nat
  ptnrTrip : Nat
  hbRun    : Nat
  rxOwn    : Int
  rxPtnr   : Int
  offset   : Int
  gridOk   : Bool

def hbKept (q : Pair) : HbKept :=
  { role := q.role, ptnrRole := q.ptnrRole, ptnrDev := q.ptnrDev, ptnrSync := q.ptnrSync, ptnrCrc := q.ptnrCrc,
    ptnrTrip := q.ptnrTrip, hbRun := q.hbRun, rxOwn := q.rxOwn, rxPtnr := q.rxPtnr, offset := q.offset,
    gridOk := q.gridOk }

/-- A final reply changes of the pair the EXECs alone. -/
theorem finish_pair (c : Ctx) (st : Nat) (data : List Byte) (s : State) :
    ∃ e, (finish c st data s).pair = { s.pair with execs := e } := by
  have hdeliver : ∀ op r x, (deliver op r x).pair = x.pair := fun op r x => by unfold deliver; split <;> rfl
  unfold finish
  split
  · rw [hdeliver, complete, jnlAdd_pair]
    exact ⟨_, rfl⟩
  · rw [hdeliver]
    exact ⟨_, rfl⟩

section
variable (s : State)

theorem tell_hbKept (m : PMsg) : hbKept (s.tell m).pair = hbKept s.pair := by
  obtain ⟨_, _, h⟩ := tell_eq m s
  rw [h]
  rfl

theorem refuse_hbKept (c : Ctx) (st : Nat) : hbKept (refuse c st s).pair = hbKept s.pair := by
  obtain ⟨_, h⟩ := finish_pair c st [] s
  rw [refuse, h]
  rfl

theorem pairTableDiff_hbKept : hbKept (pairTableDiff s).pair = hbKept s.pair := by
  unfold pairTableDiff
  split
  · rw [raise_pair]
    rfl
  · rfl

theorem tableCompare_hbKept (crc : Nat) : hbKept (tableCompare crc s).pair = hbKept s.pair := by
  unfold tableCompare
  split
  · rfl
  · rw [pairTableDiff_hbKept]
    rfl

theorem hbActive_hbKept (p : PHdr) (m : HbMsg) : hbKept (hbActive p m s).pair = hbKept s.pair := by
  unfold hbActive
  simp only
  split
  · rw [tableCompare_hbKept]
    rfl
  · rfl

theorem standbyVoid_hbKept : hbKept (standbyVoid s).pair = hbKept s.pair := by
  unfold standbyVoid
  simp only
  split
  · rw [refuse_hbKept]
    rfl
  · rfl

theorem hbHover_hbKept (m : HbMsg) : hbKept (hbHover m s).pair = hbKept s.pair := by
  unfold hbHover
  split
  · rfl
  · split
    · split
      · rw [tell_hbKept]
        rfl
      · rfl
    · split
      · exact standbyVoid_hbKept s
      · rfl

end

theorem sameName_other {sys : Nat} {s : State} (h : sys ≠ b2n s.pair.sys) :
    sameName sys s = { s with pair := { s.pair with sameSys := false } } := if_neg h

/-- A heartbeat of a partner of the other name gives its fields, and then acts in a device that follows. -/
theorem hbTake_kept (p : PHdr) (m : HbMsg) (s : State) (h : m.sys ≠ b2n s.pair.sys) :
    hbKept (hbTake p m s).pair = hbKept (hbFields p m s).pair ∧
      engines (hbTake p m s) = engines (hbFields p m s) := by
  unfold hbTake
  rw [sameName_other (s := hbFields p m s) h]
  simp only
  split
  · rw [hbHover_hbKept, hbActive_hbKept, hbHover_eng, hbActive_eng]
    exact ⟨rfl, rfl⟩
  · exact ⟨rfl, rfl⟩

/-- What a new HB of a partner of the other name leaves (R318, R321). -/
def HbTaken (p : PHdr) (m : HbMsg) (s t : State) : Prop :=
  engines t = { engines s with
    trp := if follows s = true ∧ m.role = 1 then { s.trp with seq := m.tripSeq % 256 } else s.trp } ∧
  t.pair.ptnrRole = m.role % 8 ∧ t.pair.ptnrDev = m.devState % 16 ∧ t.pair.ptnrSync = m.synced ∧
  t.pair.ptnrCrc = some m.tableCrc ∧ t.pair.ptnrTrip = m.tripSeq ∧ t.pair.hbRun = 0 ∧
  t.pair.role = s.pair.role ∧
  t.pair.rxOwn = satS 16 ((p.time : Int) - 16 * s.frm.g) ∧ t.pair.rxPtnr = m.rxOfs ∧
  (t.pair.gridOk = true ↔ follows s = true ∧ t.pair.offset.natAbs ≤ 64)

theorem hbFields_taken (p : PHdr) (m : HbMsg) (s : State) : HbTaken p m s (hbFields p m s) := by
  refine ⟨?_, rfl, rfl, rfl, rfl, rfl, rfl, rfl, rfl, rfl, ?_⟩
  · unfold hbFields
    simp only [Bool.and_eq_true, decide_eq_true_eq]
    rfl
  · exact (Bool.and_eq_true_iff).trans (and_congr_right fun _ => decide_eq_true_iff)

/-- What a heartbeat leaves stands in the blocks of the converter and in what the pair keeps of it. -/
theorem HbTaken.congr {p : PHdr} {m : HbMsg} {s x t : State} (h : HbTaken p m s x) (heng : engines t = engines x)
    (hkept : hbKept t.pair = hbKept x.pair) : HbTaken p m s t := by
  obtain ⟨hrole, hptnrRole, hdev, hsync, hcrc, htrip, hrun, hown, hptnr, hoffset, hgrid⟩ := HbKept.mk.inj hkept
  unfold HbTaken
  rw [heng, hrole, hptnrRole, hdev, hsync, hcrc, htrip, hrun, hown, hptnr, hoffset, hgrid]
  exact h

/-! ### CELL, LOOP, OBS and HOVER_ACK (R320, R322, R328) -/

section
variable {p : PHdr} {s : State}

theorem cellTake_kept (l : List CellRec) (hf : follows s = true) (hframe : inFrame p s = true) :
    cellTake p l s = { s with pair := { s.pair with inCell := s.pair.inCell ++ l } } :=
  if_pos (Bool.and_eq_true_iff.mpr ⟨hf, hframe⟩)

theorem loopTake_kept (l : List LoopRec) (hf : follows s = true) (hframe : inFrame p s = true) :
    loopTake p l s = { s with pair := { s.pair with
      inLoop := s.pair.inLoop ++ l
      rotation := s.pair.rotation + l.length
      progress := if s.pair.step = 6 then s.pair.progress + l.length else s.pair.progress } } :=
  if_pos (Bool.and_eq_true_iff.mpr ⟨hf, hframe⟩)

theorem obsTake_kept (l : List ObsRec) (hf : follows s = true) (hframe : inFrame p s = true) :
    obsTake p l s = { s with pair := { s.pair with
      inObs := s.pair.inObs ++ l
      rotation := s.pair.rotation + l.length
      progress := if s.pair.step = 6 then s.pair.progress + l.length else s.pair.progress } } :=
  if_pos (Bool.and_eq_true_iff.mpr ⟨hf, hframe⟩)

theorem not_kept (hno : follows s = false ∨ inFrame p s = false) : ¬ (follows s && inFrame p s) = true := by
  rcases hno with h | h <;> simp [h]

theorem hoverAckTake_notes {fn : Nat}
    (h : s.pair.role = .active ∧ s.pair.hover = true ∧ fn = s.pair.hoverFn ∧ s.frm.count = fn) :
    hoverAckTake fn s = { s with pair := { s.pair with hoverAck := true } } := if_pos h

theorem hoverAckTake_ignores {fn : Nat}
    (h : s.pair.role ≠ .active ∨ s.pair.hover = false ∨ fn ≠ s.pair.hoverFn ∨ s.frm.count ≠ fn) :
    hoverAckTake fn s = s := by
  refine if_neg fun ⟨hrole, hhover, hfn, hcount⟩ => ?_
  rcases h with h | h | h | h
  · exact h hrole
  · exact Bool.false_ne_true (h.symm.trans hhover)
  · exact h hfn
  · exact h hcount

end

/-! ### IMAGE and HELLO (R313, R314, R332) -/

section
variable {s : State}

/-- The image that a joining device has, with a message of it added; what it counts is open but in step 3. -/
theorem imageTake_adds (m : ImageMsg) (h : s.pair.role = .joining) : ∃ n free,
    imageTake m s = { s with
      free := free
      pair := { s.pair with
        image := s.pair.image ++ [m]
        imageDone := s.pair.imageDone || m.last
        progress := n } } ∧ (s.pair.step ≠ 3 → n = s.pair.progress) :=
  ⟨_, _, if_pos h, fun hstep => if_neg hstep⟩

theorem imageTake_ignores (m : ImageMsg) (h : s.pair.role ≠ .joining) : imageTake m s = s := if_neg h

theorem detach_role (s : State) : (detach s).pair.role = .detached := by
  unfold detach
  split
  · assumption
  · rfl

theorem detach_hif (s : State) : (detach s).hif = s.hif := by
  unfold detach
  split <;> rfl

theorem detach_flt (s : State) : (detach s).flt = s.flt := by
  unfold detach
  split <;> rfl

/-- A device that leaves the pair with a report: it is DETACHED, and the blocks of the converter and the host interface
stay. -/
def LeavesPair (kind : Nat) (s t : State) : Prop :=
  engines t = engines s ∧ t.hif = s.hif ∧ t.pair.role = .detached ∧ Reported 0x0B 0 kind s t

theorem detach_raise_leaves {kind : Nat} {s x : State} (heng : engines x = engines s) (hhif : x.hif = s.hif)
    (hflt : x.flt = s.flt) : LeavesPair kind s (settle (detach (raise 0x0B 0 kind 0 x))) :=
  ⟨by rw [settle_eng, detach_eng, raise_eng, heng], by rw [settle_hif, detach_hif, raise_hif, hhif],
    by rw [settle_pair, detach_role], ((raise_reported 0x0B 0 kind 0 x).of_flt (detach_flt _)).settled hflt⟩

/-- The pair once a HELLO is heard. -/
def helloHeard (m : HelloMsg) (s : State) : Pair :=
  { s.pair with
    heardHello := true
    helloBad := !helloFits m s
    imageSent := false
    ptnrPres := true
    lanes := s.pair.lanes.mapIdx (fun k x => { x with ptnrLat := m.latDev.getD k 0 }) }

/-- A device of the same name makes this one leave the pair, once (R313). -/
theorem helloTake_same {m : HelloMsg} (hsys : m.sys = b2n s.pair.sys) (hfirst : s.pair.sameSys = false) :
    helloTake m s = detach (raise 0x0B 0 4 0 { s with pair := { helloHeard m s with sameSys := true } }) := by
  have hname : sameName m.sys { s with pair := helloHeard m s } =
      detach (raise 0x0B 0 4 0 { s with pair := { helloHeard m s with sameSys := true } }) :=
    (if_pos hsys).trans (if_neg (show ¬ s.pair.sameSys = true by rw [hfirst]; exact Bool.noConfusion))
  have hrole := detach_role (raise 0x0B 0 4 0 { s with pair := { helloHeard m s with sameSys := true } })
  refine Eq.trans (if_neg ?_) hname
  show ¬ (!helloFits m s && decide ((sameName m.sys { s with pair := helloHeard m s }).pair.role = .joining)) = true
  rw [hname, hrole]
  simp

/-- A HELLO of a partner of the other name is taken in; a joining device that it does not fit leaves the pair (R332). -/
theorem helloTake_other {m : HelloMsg} (hsys : m.sys ≠ b2n s.pair.sys) : helloTake m s =
    if (!helloFits m s && decide (s.pair.role = .joining)) = true then
      detach (raise 0x0B 0 5 0 { s with pair := { helloHeard m s with sameSys := false } })
    else { s with pair := { helloHeard m s with sameSys := false } } := by
  have hname : sameName m.sys { s with pair := helloHeard m s } =
      { s with pair := { helloHeard m s with sameSys := false } } :=
    sameName_other (s := { s with pair := helloHeard m s }) hsys
  show (if (!helloFits m s && decide ((sameName m.sys { s with pair := helloHeard m s }).pair.role = .joining)) = true then
      detach (raise 0x0B 0 5 0 (sameName m.sys { s with pair := helloHeard m s }))
    else sameName m.sys { s with pair := helloHeard m s }) = _
  rw [hname]
  rfl

end

/-! ### The messages of a partner that is heard -/

section
variable {p : PHdr} {s : State} (hheld : s.hif.held = []) (hnew : MsgNew p s)
include hheld hnew

theorem hb_taken {m : HbMsg} (hsys : m.sys ≠ b2n s.pair.sys) : Does (.hb p m) s (HbTaken p m s) := by
  refine (msgRow_hb p m).takes hheld hnew rfl ?_
  obtain ⟨hkept, heng⟩ := hbTake_kept p m (atMsg p { s with out := [] }) hsys
  exact (hbFields_taken p m (atMsg p { s with out := [] })).congr ((settle_eng _).trans heng) hkept

theorem cell_kept (l : List CellRec) (hf : follows s = true) (hframe : inFrame p s = true) :
    Does (.cell p l) s (PairIs s { noted p s.pair with inCell := s.pair.inCell ++ l }) :=
  (msgRow_cell p l).sets hheld hnew (cellTake_kept (s := atMsg p { s with out := [] }) l hf hframe)

theorem loop_kept (l : List LoopRec) (hf : follows s = true) (hframe : inFrame p s = true) :
    Does (.loop p l) s (PairIs s { noted p s.pair with
      inLoop := s.pair.inLoop ++ l
      rotation := s.pair.rotation + l.length
      progress := if s.pair.step = 6 then s.pair.progress + l.length else s.pair.progress }) :=
  (msgRow_loop p l).sets hheld hnew (loopTake_kept (s := atMsg p { s with out := [] }) l hf hframe)

theorem obs_kept (l : List ObsRec) (hf : follows s = true) (hframe : inFrame p s = true) :
    Does (.obs p l) s (PairIs s { noted p s.pair with
      inObs := s.pair.inObs ++ l
      rotation := s.pair.rotation + l.length
      progress := if s.pair.step = 6 then s.pair.progress + l.length else s.pair.progress }) :=
  (msgRow_obs p l).sets hheld hnew (obsTake_kept (s := atMsg p { s with out := [] }) l hf hframe)

/-- What a follower would keep for its rim is dropped by another device, and in another frame. -/
theorem records_dropped (cells : List CellRec) (loops : List LoopRec) (obs : List ObsRec)
    (hno : follows s = false ∨ inFrame p s = false) :
    ∀ c ∈ [Instr.cell p cells, .loop p loops, .obs p obs], Does c s (PairIs s (noted p s.pair)) := by
  intro c hc
  simp only [List.mem_cons, List.not_mem_nil, or_false] at hc
  rcases hc with rfl | rfl | rfl
  · exact (msgRow_cell p cells).notes hheld hnew (if_neg (not_kept hno))
  · exact (msgRow_loop p loops).notes hheld hnew (if_neg (not_kept hno))
  · exact (msgRow_obs p obs).notes hheld hnew (if_neg (not_kept hno))

theorem image_added (m : ImageMsg) (hrole : s.pair.role = .joining) : Does (.image p m) s (fun t =>
    engines t = engines s ∧ t.hif = s.hif ∧
    t.pair = { noted p s.pair with
      image := s.pair.image ++ [m]
      imageDone := s.pair.imageDone || m.last
      progress := t.pair.progress } ∧ (s.pair.step ≠ 3 → t.pair.progress = s.pair.progress)) := by
  obtain ⟨n, free, himage, hcount⟩ := imageTake_adds (s := atMsg p { s with out := [] }) m hrole
  exact (msgRow_image p m).takes hheld hnew himage ⟨rfl, rfl, rfl, hcount⟩

theorem hello_heard {m : HelloMsg} (hsys : m.sys ≠ b2n s.pair.sys)
    (hfit : s.pair.role ≠ .joining ∨ helloFits m s = true) :
    Does (.hello p m) s (PairIs s { noted p (helloHeard m s) with sameSys := false }) := by
  refine (msgRow_hello p m).sets hheld hnew
    ((helloTake_other (s := atMsg p { s with out := [] }) hsys).trans (if_neg ?_))
  rw [Bool.and_eq_true, Bool.not_eq_true', decide_eq_true_eq]
  rintro ⟨hunfit, hjoining⟩
  exact hfit.elim (fun h => h hjoining) fun h => Bool.false_ne_true (hunfit.symm.trans h)

theorem hello_unfit {m : HelloMsg} (hsys : m.sys ≠ b2n s.pair.sys) (hrole : s.pair.role = .joining)
    (hunfit : helloFits m s = false) : Does (.hello p m) s (LeavesPair 5 s) := by
  refine (msgRow_hello p m).takes hheld hnew
    ((helloTake_other (s := atMsg p { s with out := [] }) hsys).trans (if_pos ?_)) (detach_raise_leaves rfl rfl rfl)
  rw [Bool.and_eq_true, Bool.not_eq_true', decide_eq_true_eq]
  exact ⟨hunfit, hrole⟩

theorem hello_same {m : HelloMsg} (hsys : m.sys = b2n s.pair.sys) (hfirst : s.pair.sameSys = false) :
    Does (.hello p m) s (LeavesPair 4 s) :=
  (msgRow_hello p m).takes hheld hnew (helloTake_same (s := atMsg p { s with out := [] }) hsys hfirst)
    (detach_raise_leaves rfl rfl rfl)

theorem hoverAck_noted {fn : Nat} (hrole : s.pair.role = .active) (hhover : s.pair.hover = true)
    (hfn : fn = s.pair.hoverFn) (hcount : s.frm.count = fn) :
    Does (.hoverAck p fn) s (PairIs s { noted p s.pair with hoverAck := true }) :=
  (msgRow_hoverAck p fn).sets hheld hnew
    (hoverAckTake_notes (s := atMsg p { s with out := [] }) ⟨hrole, hhover, hfn, hcount⟩)

end

/-- Settles O48: a message is judged by its link, its checks and its number; a new one is taken in by its kind. -/
theorem partnerMessagesAreTakenIn : Obligations.PartnerMessagesAreTakenIn := by
  intro s p m cells loops obs im he fn hheld heard rx all pair kept
  have rows : ∀ c ∈ all, ∃ f, MsgRow c p f := by
    intro c hc
    simp only [all, List.mem_cons, List.not_mem_nil, or_false] at hc
    rcases hc with rfl | rfl | rfl | rfl | rfl | rfl | rfl
    · exact ⟨_, msgRow_hb p m⟩
    · exact ⟨_, msgRow_cell p cells⟩
    · exact ⟨_, msgRow_loop p loops⟩
    · exact ⟨_, msgRow_obs p obs⟩
    · exact ⟨_, msgRow_image p im⟩
    · exact ⟨_, msgRow_hello p he⟩
    · exact ⟨_, msgRow_hoverAck p fn⟩
  refine ⟨fun hno c hc => ?_, fun hheard hbad c hc => ?_, fun hheard hgood hseen c hc => ?_,
    fun hheard hgood hfresh => ?_⟩
  · obtain ⟨f, row⟩ := rows c hc
    exact row.unheard hheld hno
  · obtain ⟨f, row⟩ := rows c hc
    exact row.bad hheld hheard hbad
  · obtain ⟨f, row⟩ := rows c hc
    exact row.seen hheld hheard hgood hseen
  · have hnew : MsgNew p s := ⟨hheard, hgood, hfresh⟩
    exact ⟨hb_taken hheld hnew,
      fun hf hframe => ⟨cell_kept hheld hnew cells hf hframe, loop_kept hheld hnew loops hf hframe,
        obs_kept hheld hnew obs hf hframe⟩,
      records_dropped hheld hnew cells loops obs, image_added hheld hnew im,
      fun hrole => (msgRow_image p im).notes hheld hnew
        (imageTake_ignores (s := atMsg p { s with out := [] }) im hrole),
      hello_heard hheld hnew, hello_unfit hheld hnew, hello_same hheld hnew, hoverAck_noted hheld hnew,
      fun hno => (msgRow_hoverAck p fn).notes hheld hnew
        (hoverAckTake_ignores (s := atMsg p { s with out := [] }) hno)⟩

end Sys2Proof

/-! Mirrored commands: what a follower stores and acknowledges, and what its acknowledgements do. -/

namespace Sys2Proof

open Sys2Proof.Machine

/-! ### Messages to the partner (R316) -/

/-- A message is all that leaves the device, under the next message number, unless the device is dark. -/
def Sends (msg : PMsg) (s t : State) : Prop :=
  s.pair.dark = false → s.pwr.dark = false → t.out = [.partner s.pair.mseqTx s.frm.count msg]

/-- A device that has emitted nothing and has a lock on a link sends a message; the next message number follows, and
nothing else. -/
theorem tell_sends {x : State} (msg : PMsg) (hout : x.out = []) (hlink : x.pair.links.any id = true) : ∃ q out,
    x.tell msg = { x with pair := { x.pair with mseqTx := q }, out := out } ∧
      Sends msg x { x with pair := { x.pair with mseqTx := q }, out := out } := by
  obtain ⟨q, out, h⟩ := tell_eq msg x
  refine ⟨q, out, h, fun hdark hpwr => ?_⟩
  rw [← h, State.tell, if_neg (by rw [hdark, hpwr, hlink]; exact Bool.noConfusion), hout]
  rfl

/-- A link with a lock is one of the links with a lock. -/
theorem links_any {links : List Bool} {i : Nat} (h : links.getD i false = true) : links.any id = true := by
  rw [List.getD_eq_getElem?_getD] at h
  refine List.any_eq_true.mpr ⟨true, ?_, rfl⟩
  cases hi : links[i]? with
  | none => rw [hi] at h; exact Bool.noConfusion h
  | some b =>
    rw [hi] at h
    exact List.mem_of_getElem? (hi.trans (congrArg some h))

/-- What a follower does that takes in a message, acknowledges it, and has the host interface `hif` then. -/
def Acknowledges (msg : PMsg) (hif : State → Hif) (s t : State) : Prop :=
  engines t = engines s ∧ Sends msg s t ∧ t.hif = hif t

/-! ### MIRROR (R329, R372, R383) -/

/-- The record of intake of a mirrored command (R329, R381). -/
def mirrored (pair gen seq now : Nat) (b : List Byte) : Fly :=
  { pair := pair, gen := gen, seq := seq, crc := pktCrc gen b, opcode := pktOp b, tag := pktTag gen b, packet := b,
    basis := 1, mirror := false, jseq := 0, since := now, exec := false, old := false }

/-- The ring pairs with a pair that starts anew (R372). -/
def pairAnew (pair gen seq : Nat) (h : Hif) : Hif :=
  { h with pairs := h.pairs.modify pair (fun q => { q with gen := gen, next := seq, window := [] }) }

/-- The host interface with a mirrored command in flight and in the window (R329, R383). -/
def withMirrored (pair gen seq now : Nat) (b : List Byte) (h : Hif) : Hif :=
  { h with
    fly := h.fly ++ [mirrored pair gen seq now b]
    pairs := h.pairs.modify pair (RPair.take seq (pktCrc gen b) 1) }

/-- A command whose form passes its check stays as it was accepted. -/
theorem judgeForm_ok {f : Fly} (h : formStatus f.gen f.opcode f.packet = none) (s : State) : judgeForm f s = s := by
  unfold judgeForm
  rw [h]

section
variable {pair gen seq : Nat} {b : List Byte} {s : State}

theorem mirrorTake_idle (hf : follows s = false) : mirrorTake pair gen seq b s = s := if_pos hf

theorem mirrorTake_anew (hf : follows s = true) (hb : b = []) : mirrorTake pair gen seq b s =
    { s.tell (.mirAck pair seq) with hif := pairAnew pair gen seq (s.tell (.mirAck pair seq)).hif } :=
  (if_neg (by rw [hf]; exact Bool.noConfusion)).trans (if_pos hb)

theorem mirrorTake_known (hf : follows s = true) (hb : b ≠ []) (hwin : (winOf s pair seq).isSome = true) :
    mirrorTake pair gen seq b s = s.tell (.mirAck pair seq) :=
  (if_neg (by rw [hf]; exact Bool.noConfusion)).trans ((if_neg hb).trans (if_pos hwin))

theorem mirrorTake_new (hf : follows s = true) (hb : b ≠ []) (hwin : winOf s pair seq = none)
    (hform : formStatus gen (pktOp b) b = none) : mirrorTake pair gen seq b s =
      { s.tell (.mirAck pair seq) with hif := withMirrored pair gen seq s.now b (s.tell (.mirAck pair seq)).hif } :=
  (if_neg (by rw [hf]; exact Bool.noConfusion)).trans ((if_neg hb).trans
    ((if_neg (by rw [hwin]; exact Bool.noConfusion)).trans
      (judgeForm_ok (f := mirrored pair gen seq s.now b) hform _)))

end

section
variable {p : PHdr} {s : State} (hheld : s.hif.held = []) (hnew : MsgNew p s)
include hnew

/-- What a new message finds has emitted nothing, and the link that carries it is locked. -/
theorem atMsg_tell (msg : PMsg) : ∃ q out,
    (atMsg p { s with out := [] }).tell msg = { s with
      pair := { noted p s.pair with mseqTx := q }
      now := max s.now (p.time / 16)
      out := out } ∧
    (s.pair.dark = false → s.pwr.dark = false → out = [.partner s.pair.mseqTx s.frm.count msg]) := by
  obtain ⟨_, _, hlink⟩ := hnew.heard
  exact tell_sends (x := atMsg p { s with out := [] }) msg rfl (links_any hlink)

include hheld

theorem mirror_anew {pair gen seq : Nat} (hf : follows s = true) : Does (.mirror p pair gen seq []) s
    (Acknowledges (.mirAck pair seq) (fun _ => pairAnew pair gen seq s.hif) s) := by
  obtain ⟨q, out, htell, hsent⟩ := atMsg_tell hnew (.mirAck pair seq)
  refine (msgRow_mirror p pair gen seq []).takes hheld hnew
    (mirrorTake_anew (s := atMsg p { s with out := [] }) hf rfl) ?_
  rw [htell]
  exact ⟨rfl, hsent, rfl⟩

theorem mirror_known {pair gen seq : Nat} {b : List Byte} (hf : follows s = true) (hb : b ≠ [])
    (hwin : (winOf s pair seq).isSome = true) : Does (.mirror p pair gen seq b) s
      (Acknowledges (.mirAck pair seq) (fun _ => s.hif) s) := by
  obtain ⟨q, out, htell, hsent⟩ := atMsg_tell hnew (.mirAck pair seq)
  refine (msgRow_mirror p pair gen seq b).takes hheld hnew
    ((mirrorTake_known (s := atMsg p { s with out := [] }) hf hb hwin).trans htell) ?_
  exact ⟨rfl, hsent, rfl⟩

theorem mirror_new {pair gen seq : Nat} {b : List Byte} (hf : follows s = true) (hb : b ≠ [])
    (hwin : winOf s pair seq = none) (hform : formStatus gen (pktOp b) b = none) :
    Does (.mirror p pair gen seq b) s
      (Acknowledges (.mirAck pair seq) (fun t => withMirrored pair gen seq t.now b s.hif) s) := by
  obtain ⟨q, out, htell, hsent⟩ := atMsg_tell hnew (.mirAck pair seq)
  refine (msgRow_mirror p pair gen seq b).takes hheld hnew
    (mirrorTake_new (s := atMsg p { s with out := [] }) hf hb hwin hform) ?_
  rw [htell]
  exact ⟨rfl, hsent, rfl⟩

end

/-! ### EXEC (R330) -/

/-- The EXECs with the order of a command that is in flight (R330). -/
def ordered (pair seq num : Nat) (s : State) : List (Nat × Nat × Nat × Bool) :=
  s.pair.execs ++ (if (flyOf s pair seq).isSome then [(num, pair, seq, true)] else [])

theorem execTake_idle {pair seq num : Nat} {s : State} (hf : follows s = false) : execTake pair seq num s = s :=
  if_pos hf

theorem execTake_orders {pair seq num : Nat} {s : State} (hf : follows s = true) : execTake pair seq num s =
    ({ s with pair := { s.pair with execNo := num, execs := ordered pair seq num s } }).tell (.execAck num) :=
  if_neg (by rw [hf]; exact Bool.noConfusion)

/-- What an EXEC does in a follower: it is acknowledged, and the command has its number. -/
theorem exec_ordered {p : PHdr} {pair seq num : Nat} {s : State} (hheld : s.hif.held = []) (hnew : MsgNew p s)
    (hf : follows s = true) : Does (.partnerExec p pair seq num) s (fun t =>
      engines t = engines s ∧ Sends (.execAck num) s t ∧ t.hif = s.hif ∧
        t.pair.execNo = num ∧ t.pair.execs = ordered pair seq num s) := by
  obtain ⟨_, _, hlink⟩ := hnew.heard
  obtain ⟨q, out, htell, hsent⟩ := tell_sends (x := { atMsg p { s with out := [] } with
    pair := { noted p s.pair with execNo := num, execs := ordered pair seq num s } })
    (.execAck num) rfl (links_any hlink)
  exact (msgRow_exec p pair seq num).takes hheld hnew
    ((execTake_orders (s := atMsg p { s with out := [] }) hf).trans htell) ⟨rfl, hsent, rfl, rfl, rfl⟩

/-! ### EXEC_ACK and MIR_ACK (R329, R330, R381) -/

theorem mirAckTake_idle {pair seq time : Nat} {s : State} (ha : acts s = false) : mirAckTake pair seq time s = s :=
  if_neg (by rw [ha]; exact Bool.false_ne_true)

theorem execAckTake_idle {num : Nat} {s : State} (ha : acts s = false) : execAckTake num s = s :=
  if_neg (by rw [ha]; exact Bool.false_ne_true)

/-- The EXECs with the order of a number acknowledged (R330). -/
def acknowledged (num : Nat) (l : List (Nat × Nat × Nat × Bool)) : List (Nat × Nat × Nat × Bool) :=
  l.map (fun e => if e.1 = num then (e.1, e.2.1, e.2.2.1, true) else e)

theorem execAckTake_marks {num : Nat} {s : State} (ha : acts s = true) :
    execAckTake num s = { s with pair := { s.pair with execs := acknowledged num s.pair.execs } } := if_pos ha

/-- The command that waits for the acknowledgement of its mirror. -/
def awaited (pair seq : Nat) (l : List Fly) : Option Fly :=
  l.find? (fun f => f.pair == pair && f.seq == seq && f.mirror && f.basis == 0)

theorem awaited_ids {pair seq : Nat} {l : List Fly} {f : Fly} (h : awaited pair seq l = some f) :
    f.pair = pair ∧ f.seq = seq := by
  have hf := List.find?_some h
  simp only [Bool.and_eq_true, beq_iff_eq] at hf
  exact ⟨hf.1.1.1, hf.1.1.2⟩

section
variable {s : State} (k : Nat) (g : RPair → RPair)

/-- A change of a ring pair that leaves its replies leaves those due to every pair. -/
theorem repliesOf_modPair (h : ∀ q, (g q).replies = q.replies) (i : Nat) :
    repliesOf (s.modPair k g) i = repliesOf s i := by
  simp only [repliesOf, State.modPair, modAt, List.getElem?_modify]
  by_cases hi : k = i <;> cases s.hif.pairs[i]? <;> simp [hi, h]

/-- A change of a ring pair that leaves it open or closed leaves every pair so. -/
theorem pairOpen_modPair (h : ∀ q, (g q).open_ = q.open_) (i : Nat) :
    PairOpen (s.modPair k g) i ↔ PairOpen s i := by
  simp only [PairOpen, State.modPair, modAt, List.getElem?_modify]
  by_cases hi : k = i <;> cases s.hif.pairs[i]? <;> simp [hi, h]

end

/-- A ring pair that has accepted a command on a basis (R381, R383). -/
def acceptedPair (basis : Nat) (f : Fly) (q : RPair) : RPair :=
  { q with
    acc := satAdd 32 q.acc 1
    window := q.window.map (fun w => if w.seq = f.seq then { w with basis := basis } else w) }

/-- What the acceptance of a command leaves: its ACCEPTED reply is due, and its record of intake has the basis. -/
theorem accept_replies {basis : Nat} {f : Fly} {s : State} (hform : formStatus f.gen f.opcode f.packet = none)
    (hopen : PairOpen s f.pair) :
    repliesOf (accept basis f s) f.pair = repliesOf s f.pair ++ [acceptedReply f.ctx basis false] ∧
    (accept basis f s).hif.fly = s.hif.fly.map (fun x =>
      if x.pair = f.pair ∧ x.seq = f.seq then { x with basis := basis, mirror := false } else x) ∧
    (accept basis f s).hif.openReq = s.hif.openReq := by
  have haccept : accept basis f s = pushReply (acceptedReply f.ctx basis false)
      ((s.modFly f.pair f.seq (fun x => { x with basis := basis, mirror := false })).modPair f.pair
        (acceptedPair basis f)) := judgeForm_ok hform _
  rw [haccept]
  refine ⟨(repliesOf_push (acceptedReply f.ctx basis false) _ ?_).trans ?_, rfl, rfl⟩
  · exact (pairOpen_modPair f.pair (acceptedPair basis f) (fun _ => rfl) f.pair).mpr hopen
  · exact congrArg (· ++ [acceptedReply f.ctx basis false])
      (repliesOf_modPair f.pair (acceptedPair basis f) (fun _ => rfl) f.pair)

/-- A MIR_ACK in a device that executes accepts the command that waits for it, where no session is being opened. -/
theorem mirAckTake_accepts {pair seq time : Nat} {s : State} {f : Fly} (ha : acts s = true)
    (hf : awaited pair seq s.hif.fly = some f) (hform : formStatus f.gen f.opcode f.packet = none)
    (hreq : s.hif.openReq = none) (hopen : PairOpen s pair) :
    repliesOf (mirAckTake pair seq time s) pair = repliesOf s pair ++ [acceptedReply f.ctx 1 false] ∧
    (mirAckTake pair seq time s).hif.fly = s.hif.fly.map (fun x =>
      if x.pair = pair ∧ x.seq = seq then { x with basis := 1, mirror := false } else x) := by
  obtain ⟨rfl, rfl⟩ := awaited_ids hf
  have hcmd : ∃ q, mirAckCmd f.pair f.seq time (s.at time) = accept 1 f { s.at time with pair := q } := by
    have hfind : (s.at time).hif.fly.find?
        (fun g => g.pair == f.pair && g.seq == f.seq && g.mirror && g.basis == 0) = some f := hf
    unfold mirAckCmd
    rw [hfind]
    exact ⟨_, rfl⟩
  obtain ⟨q, hcmd⟩ := hcmd
  obtain ⟨hreplies, hfly, hnone⟩ := accept_replies (basis := 1) (s := { s.at time with pair := q }) hform hopen
  have htake : mirAckTake f.pair f.seq time s = accept 1 f { s.at time with pair := q } := by
    refine (if_pos ha).trans ?_
    rw [hcmd, mirAckOpen, hnone.trans hreq]
  rw [htake]
  exact ⟨hreplies, hfly⟩

section
variable {p : PHdr} {s : State} (hheld : s.hif.held = []) (hnew : MsgNew p s)
include hheld hnew

/-- The acknowledgements do nothing in a device that does not execute. -/
theorem acks_ignored {pair seq num time : Nat} (ha : acts s = false) :
    ∀ c ∈ [Instr.mirAck p pair seq time, .execAck p num], Does c s (PairIs s (noted p s.pair)) := by
  intro c hc
  simp only [List.mem_cons, List.not_mem_nil, or_false] at hc
  rcases hc with rfl | rfl
  · exact (msgRow_mirAck p pair seq time).notes hheld hnew (mirAckTake_idle (s := atMsg p { s with out := [] }) ha)
  · exact (msgRow_execAck p num).notes hheld hnew (execAckTake_idle (s := atMsg p { s with out := [] }) ha)

/-- Mirrored commands and their orders do nothing in a device that does not follow. -/
theorem mirrors_ignored {pair gen seq num : Nat} {b : List Byte} (hf : follows s = false) :
    ∀ c ∈ [Instr.mirror p pair gen seq b, .partnerExec p pair seq num], Does c s (PairIs s (noted p s.pair)) := by
  intro c hc
  simp only [List.mem_cons, List.not_mem_nil, or_false] at hc
  rcases hc with rfl | rfl
  · exact (msgRow_mirror p pair gen seq b).notes hheld hnew (mirrorTake_idle (s := atMsg p { s with out := [] }) hf)
  · exact (msgRow_exec p pair seq num).notes hheld hnew (execTake_idle (s := atMsg p { s with out := [] }) hf)

theorem execAck_marks {num : Nat} (ha : acts s = true) : Does (.execAck p num) s
    (PairIs s { noted p s.pair with execs := acknowledged num s.pair.execs }) :=
  (msgRow_execAck p num).sets hheld hnew (execAckTake_marks (s := atMsg p { s with out := [] }) ha)

theorem mirAck_accepts {pair seq time : Nat} {f : Fly} (ha : acts s = true)
    (hf : awaited pair seq s.hif.fly = some f) (hform : formStatus f.gen f.opcode f.packet = none)
    (hreq : s.hif.openReq = none) (hopen : PairOpen s pair) : Does (.mirAck p pair seq time) s (fun t =>
      engines t = engines s ∧ repliesOf t pair = repliesOf s pair ++ [acceptedReply f.ctx 1 false] ∧
      t.hif.fly = s.hif.fly.map (fun x =>
        if x.pair = pair ∧ x.seq = seq then { x with basis := 1, mirror := false } else x)) := by
  obtain ⟨hreplies, hfly⟩ :=
    mirAckTake_accepts (time := time) (s := atMsg p { s with out := [] }) ha hf hform hreq hopen
  exact (msgRow_mirAck p pair seq time).takes hheld hnew rfl
    ⟨(settle_eng _).trans (mirAckTake_eng ..), hreplies, hfly⟩

end

/-- Settles O49: a follower takes mirrored commands and their orders, a device that executes their acknowledgements. -/
theorem mirroredCommandsAreKeptInStep : Obligations.MirroredCommandsAreKeptInStep := by
  intro s p pair gen seq num time b hheld hpaired hst hlink hgood hfresh
  have hnew : MsgNew p s := ⟨⟨hpaired, hst, hlink⟩, hgood, hfresh⟩
  refine ⟨fun hf => ⟨fun hb _ => ?_, mirror_known hheld hnew hf, mirror_new hheld hnew hf, exec_ordered hheld hnew hf,
      fun c hc ha => acks_ignored hheld hnew ha c hc⟩,
    fun ha hf => ⟨mirrors_ignored hheld hnew hf, execAck_marks hheld hnew ha, fun f => mirAck_accepts hheld hnew ha⟩⟩
  subst hb
  exact mirror_anew hheld hnew hf

end Sys2Proof

/-! Links, presence and monitor inputs of the pair. -/

namespace Sys2Proof

open Sys2Proof.Machine

/-! ### Commands after which held host commands may have their turn -/

section
variable {c : Instr} {f : State → State} {s x : State}

/-- A command that wakes held host commands, where none waits. -/
theorem does_waking {P : State → Prop} (he : effect c = fun y => runHeld (f y)) (hx : f { s with out := [] } = x)
    (hheld : x.hif.held = []) (hP : P (settle x)) : Does c s P :=
  does_effect ((congrFun he _).trans ((congrArg runHeld hx).trans (runHeld_none x hheld))) hP

/-- A waking command that changes the pair alone. -/
theorem pairIs_waking (hheld : s.hif.held = []) (he : effect c = fun y => runHeld (f y))
    (hx : f { s with out := [] } = x) (heng : engines x = engines s) (hhif : x.hif = s.hif) :
    Does c s (PairIs s x.pair) :=
  does_waking he hx (by rw [hhif, hheld]) ⟨heng, hhif, rfl⟩

/-- A waking command that finds nothing to do. -/
theorem idle_waking (hheld : s.hif.held = []) (he : effect c = fun y => runHeld (f y))
    (hx : f { s with out := [] } = { s with out := [] }) : Does c s (PairIs s s.pair) :=
  pairIs_waking (x := { s with out := [] }) hheld he hx rfl rfl

/-- What a report of the pair leaves: the pair as the report finds it, and the blocks of the converter and the host
interface. -/
theorem raise_pairIs (inst kind : Nat) (heng : engines x = engines s) (hhif : x.hif = s.hif) (hflt : x.flt = s.flt) :
    Reported 0x0B inst kind s (settle (raise 0x0B inst kind 0 x)) ∧
      PairIs s x.pair (settle (raise 0x0B inst kind 0 x)) :=
  ⟨(raise_reported ..).settled hflt, by rw [settle_eng, raise_eng, heng], by rw [settle_hif, raise_hif, hhif],
    by rw [settle_pair, raise_pair]⟩

/-- A waking command that changes the pair and reports. -/
theorem reports_waking {inst kind : Nat} (hheld : s.hif.held = []) (he : effect c = fun y => runHeld (f y))
    (hx : f { s with out := [] } = raise 0x0B inst kind 0 x) (heng : engines x = engines s) (hhif : x.hif = s.hif)
    (hflt : x.flt = s.flt) : Does c s (fun t => Reported 0x0B inst kind s t ∧ PairIs s x.pair t) :=
  does_waking he hx (by rw [raise_hif, hhif, hheld]) (raise_pairIs inst kind heng hhif hflt)

end

/-! ### Partner links (R317, R334) -/

section
variable {l : Nat} {s : State}

theorem partnerLinkLock_locked (hup : s.pair.links.getD l false = true) : partnerLinkLock l s = s :=
  if_pos (.inr (.inr (.inr hup)))

theorem partnerLinkLock_locks (hpaired : paired s = true) (hst : s.st ≠ .off) (hl : l < 2)
    (hdown : s.pair.links.getD l false = false) : ∃ msg, partnerLinkLock l s =
      ({ s with pair := { s.pair with links := s.pair.links.set l true, ptnrPres := true } }).tell msg := by
  refine ⟨_, if_neg ?_⟩
  rintro (h | h | h | h)
  · exact Bool.false_ne_true (h.symm.trans hpaired)
  · exact hst h
  · exact Nat.not_lt.mpr h hl
  · exact Bool.false_ne_true (hdown.symm.trans h)

theorem partnerLinkDown_idle (hdown : s.pair.links.getD l false = false) : partnerLinkDown l s = s := if_pos hdown

theorem partnerLinkDown_one (hup : s.pair.links.getD l false = true) (hany : (s.pair.links.set l false).any id = true) :
    partnerLinkDown l s = raise 0x0B l 8 0
      { s with pair := { s.pair with links := s.pair.links.set l false, downs := satAdd 16 s.pair.downs 1 } } :=
  (if_neg (by rw [hup]; exact Bool.noConfusion)).trans (if_pos hany)

theorem partnerLinkDown_both (hup : s.pair.links.getD l false = true)
    (hnone : (s.pair.links.set l false).any id = false) : partnerLinkDown l s = raise 0x0B 0 9 0
      { s with pair := { s.pair with
        links := s.pair.links.set l false
        downs := satAdd 16 s.pair.downs 1
        heardHello := false } } :=
  (if_neg (by rw [hup]; exact Bool.noConfusion)).trans
    (if_neg (show ¬ (s.pair.links.set l false).any id = true by rw [hnone]; exact Bool.noConfusion))

/-- A lock on a link that has none sets it and the partner's presence; only the next message number moves besides. -/
theorem linkLock_locks (hpaired : paired s = true) (hst : s.st ≠ .off) (hl : l < 2)
    (hdown : s.pair.links.getD l false = false) : Does (.partnerLinkLock l) s (fun t =>
      engines t = engines s ∧ t.hif = s.hif ∧ t.pair = { s.pair with
        links := s.pair.links.set l true
        ptnrPres := true
        mseqTx := t.pair.mseqTx }) := by
  obtain ⟨msg, hlock⟩ := partnerLinkLock_locks (s := { s with out := [] }) hpaired hst hl hdown
  obtain ⟨q, out, htell⟩ := tell_eq msg
    { s with out := [], pair := { s.pair with links := s.pair.links.set l true, ptnrPres := true } }
  exact does_effect (hlock.trans htell) ⟨rfl, rfl, rfl⟩

end

/-! ### Presence (R334) -/

section
variable {k : Nat} {s : State}

theorem monitorLost_reports (hk : k < 24) (hrole : s.pair.role = .standby) (hln : (s.ln k).st = 7)
    (hany : s.pair.links.any id = true) : monitorLost k s = raise 0x0B k 0xA 0 s := if_pos ⟨hk, hrole, hln, hany⟩

theorem monitorLost_idle (hrole : s.pair.role ≠ .standby) : monitorLost k s = s := if_neg fun h => hrole h.2.1

/-- The board's own presence gone, and reported. -/
def boardGone (s : State) : State := raise 0x0B 0 0xC 0 { s with pair := { s.pair with brdPres := false } }

theorem boardGone_pair (s : State) : (boardGone s).pair = { s.pair with brdPres := false } := raise_pair ..

theorem boardGone_hif (s : State) : (boardGone s).hif = s.hif := raise_hif ..

theorem boardGone_eng (s : State) : engines (boardGone s) = engines s := raise_eng ..

theorem boardGone_reported (s : State) : Reported 0x0B 0 0xC s (boardGone s) :=
  raise_reported 0x0B 0 0xC 0 { s with pair := { s.pair with brdPres := false } }

theorem brdPresHigh_idle (hgone : s.pair.brdPres = false) : brdPresHigh s = s := if_pos hgone

theorem brdPresHigh_unpaired (hpres : s.pair.brdPres = true) (hno : paired s = false ∨ s.st = .off) :
    brdPresHigh s = { s with pair := { s.pair with brdPres := false } } :=
  (if_neg (by rw [hpres]; exact Bool.noConfusion)).trans (if_pos hno)

/-- What the removal of a board, once reported, makes of a device by its role. -/
def removedBy (s x : State) : Role → State
  | .active => if partnerSynced s = true then askHandover .removal x else removalPath x
  | .standby | .joining => detach x
  | _ => x

theorem brdPresHigh_paired (hpres : s.pair.brdPres = true) (hpaired : paired s = true) (hst : s.st ≠ .off) :
    brdPresHigh s = removedBy s (boardGone s) s.pair.role := by
  refine (if_neg (by rw [hpres]; exact Bool.noConfusion)).trans (if_neg ?_)
  rintro (h | h)
  · exact Bool.false_ne_true (h.symm.trans hpaired)
  · exact hst h

/-- The path of a removal: Safe Block by the injected path, and the lasers go off by the rim after the next. -/
theorem removalPath_blocks (x : State) :
    Acted (removalPath x) ∧ (removalPath x).trp.sbLatch = true ∧ (removalPath x).flt = x.flt ∧
      (removalPath x).hif = x.hif ∧ (removalPath x).pair = { x.pair with offAt := some (x.frm.rims + 2) } := by
  have hacted := injectSafeBlock_acted x.freeV 0 x.now x.draw
  have hlatch := injectSafeBlock_sbLatch x.freeV 0 x.now x.draw
  obtain ⟨_, _, _, _, _, h⟩ := injectSafeBlock_eq x.freeV 0 x.now x.draw
  unfold removalPath
  rw [h] at hacted hlatch ⊢
  exact ⟨hacted.of_trp rfl, hlatch, rfl, rfl, rfl⟩

section
variable (hheld : s.hif.held = []) (hpres : s.pair.brdPres = true) (hpaired : paired s = true) (hst : s.st ≠ .off)
include hheld hpres hpaired hst

theorem removed_asks (hrole : s.pair.role = .active) (hsync : partnerSynced s = true) (hfree : ¬ HandingOver s) :
    Does .brdPresHigh s (fun t => Reported 0x0B 0 0xC s t ∧
      PairIs s { s.pair with brdPres := false, hoverReq := some .removal } t) := by
  have hasks := ((brdPresHigh_paired (s := { s with out := [] }) hpres hpaired hst).trans
    (congrArg _ hrole)).trans (if_pos hsync)
  have hpair := boardGone_pair { s with out := [] }
  have hhif := boardGone_hif { s with out := [] }
  have heng := boardGone_eng { s with out := [] }
  have hrep := boardGone_reported { s with out := [] }
  generalize boardGone { s with out := [] } = x at hasks hpair hhif heng hrep
  have hfreeX : ¬ HandingOver x := by
    unfold HandingOver
    rw [hpair]
    exact hfree
  rw [askHandover_free _ hfreeX, hpair] at hasks
  exact does_waking rfl hasks (hhif.symm ▸ hheld) ⟨hrep.settled rfl, heng, hhif, rfl⟩

theorem removed_blocks (hrole : s.pair.role = .active) (hsync : partnerSynced s = false) :
    Does .brdPresHigh s (fun t => Reported 0x0B 0 0xC s t ∧ Acted t ∧ t.trp.sbLatch = true ∧
      t.pair = { s.pair with brdPres := false, offAt := some (s.frm.rims + 2) }) := by
  have hpath := ((brdPresHigh_paired (s := { s with out := [] }) hpres hpaired hst).trans
    (congrArg _ hrole)).trans (if_neg (show ¬ partnerSynced s = true by rw [hsync]; exact Bool.noConfusion))
  obtain ⟨hacted, hlatch, hflt, hhif, hpair⟩ := removalPath_blocks (boardGone { s with out := [] })
  have hfrm : (boardGone { s with out := [] }).frm = s.frm := congrArg Engines.frm (boardGone_eng _)
  rw [boardGone_pair, hfrm] at hpair
  rw [boardGone_hif] at hhif
  have hrep := (boardGone_reported { s with out := [] }).of_flt hflt
  generalize removalPath (boardGone { s with out := [] }) = x at hpath hacted hlatch hrep hhif hpair
  exact does_waking rfl hpath (hhif.symm ▸ hheld) ⟨hrep.settled rfl, hacted.of_trp rfl, hlatch, hpair⟩

theorem removed_leaves (hrole : s.pair.role = .standby ∨ s.pair.role = .joining) :
    Does .brdPresHigh s (LeavesPair 0xC s) := by
  have hleaves : brdPresHigh { s with out := [] } = detach (boardGone { s with out := [] }) := by
    refine (brdPresHigh_paired (s := { s with out := [] }) hpres hpaired hst).trans ?_
    rcases hrole with hrole | hrole <;> exact congrArg (removedBy _ _) hrole
  refine does_waking rfl hleaves ?_ (detach_raise_leaves rfl rfl rfl)
  rw [detach_hif, boardGone_hif]
  exact hheld

end

end

/-! ### Monitor inputs (R320, R324, R325) -/

/-- A frame start of the frame in progress, on a lane in OBSERVE. -/
def observes (k fn : Nat) (s : State) : Bool := decide ((s.ln k).st = 7) && decide (fn = lastFrame s.toDev)

/-- The pair once a frame start of the partner is seen on a monitor input. -/
def frameSeen (k fn time : Nat) (s : State) : Pair :=
  let path := (time : Int) - s.frm.g - 48
  { s.pair with
    darkRun := 0
    heardActive := s.pair.heardActive || decide (s.p (0x8120 + k) = 1)
    hbMx := s.pair.hbMx || (observes k fn s && decide (s.frm.g ≤ time) && decide (time < s.frm.g + 300))
    lanes := modAt s.pair.lanes k (fun x => { x with
      mxSeen := s.frm.rims
      mxPath := if observes k fn s then path.toNat else x.mxPath
      mxSlow := if observes k fn s then decide (150 < path) else x.mxSlow }) }

section
variable {k fn sys time : Nat} {s : State}

theorem pairSplit_idle (hrole : s.pair.role ≠ .active) : pairSplit s = s := if_neg fun h => hrole h.2.1

theorem mxFsDetect_ignored (f : Option MxFrame) (h : paired s = false ∨ s.st = .off ∨ sys = b2n s.pair.sys) :
    mxFsDetect k fn sys time f s = s := by
  refine if_pos ?_
  rcases h with h | h | h
  · exact .inl h
  · exact .inr (.inl h)
  · exact .inr (.inr (.inr h))

/-- The state once a frame start of the partner is seen on a monitor input. -/
def frameMarked (k fn time : Nat) (s : State) : State := { s.at time with pair := frameSeen k fn time s }

/-- The cells of a lane with the plan of a frame observed on it (R320). -/
def planSeen (k : Nat) (f : MxFrame) (s : State) : Tab Entry :=
  mapCells (fun (_ : Nat) (e : Entry) => if e.bound && e.lane == k then
    Entry.order (s.frm.g + f.tx) (horizon s) (hardFrame s e.rod) (seenOrder f e.slot) e else e) s.cells

/-- An observed frame without messages gives its plan to the cells of its lane (R320). -/
theorem observeFrame_plan {f : MxFrame} (hmgt : f.mgt = []) (hplan : f.plan = true) : ∃ rnk, observeFrame k f s =
    { s with trp := { s.trp with seq := f.tripSeq % 256 }, rnk := rnk, cells := planSeen k f s } := by
  unfold observeFrame
  rw [hmgt, hplan]
  exact ⟨_, rfl⟩

section
variable {f : MxFrame} (hpaired : paired s = true) (hst : s.st ≠ .off) (hsys : sys ≠ b2n s.pair.sys) (hk : k < 24)
include hpaired hst hsys hk

/-- A frame start of a paired partner of the other name is seen; a follower that observes the lane takes its frame in. -/
theorem mxFsDetect_seen : mxFsDetect k fn sys time (some f) s =
    pairSplit (if (follows s && observes k fn s) = true then observeFrame k f (frameMarked k fn time s)
      else frameMarked k fn time s) := by
  refine if_neg ?_
  rintro (h | h | h | h)
  · exact Bool.false_ne_true (h.symm.trans hpaired)
  · exact hst h
  · exact Nat.not_lt.mpr h hk
  · exact hsys h

variable (hrole : s.pair.role ≠ .active)
include hrole

theorem mxFsDetect_marks (hno : (s.ln k).st ≠ 7 ∨ follows s = false) :
    mxFsDetect k fn sys time (some f) s = frameMarked k fn time s := by
  have hskip : ¬ (follows s && observes k fn s) = true := by
    rcases hno with h | h <;> simp [observes, h]
  exact (mxFsDetect_seen hpaired hst hsys hk).trans
    ((congrArg pairSplit (if_neg hskip)).trans (pairSplit_idle (s := frameMarked k fn time s) hrole))

theorem mxFsDetect_observes (hln : (s.ln k).st = 7) (hfn : fn = lastFrame s.toDev) (hf : follows s = true)
    (hmgt : f.mgt = []) (hplan : f.plan = true) : ∃ rnk, mxFsDetect k fn sys time (some f) s =
      { frameMarked k fn time s with
        trp := { s.trp with seq := f.tripSeq % 256 }
        rnk := rnk
        cells := planSeen k f (frameMarked k fn time s) } := by
  have htake : (follows s && observes k fn s) = true := by simp [observes, hln, hfn, hf]
  obtain ⟨rnk, hseen⟩ := observeFrame_plan (k := k) (s := frameMarked k fn time s) hmgt hplan
  exact ⟨rnk, (mxFsDetect_seen hpaired hst hsys hk).trans
    ((congrArg pairSplit ((if_pos htake).trans hseen)).trans (pairSplit_idle hrole))⟩

variable (hheld : s.hif.held = [])
include hheld

theorem frame_marked (hno : (s.ln k).st ≠ 7 ∨ follows s = false) :
    Does (.mxFsDetect k fn sys time (some f)) s (PairIs s (frameSeen k fn time s)) :=
  pairIs_waking hheld rfl (mxFsDetect_marks (s := { s with out := [] }) hpaired hst hsys hk hrole hno) rfl rfl

theorem frame_observed (hln : (s.ln k).st = 7) (hfn : fn = lastFrame s.toDev) (hf : follows s = true)
    (hmgt : f.mgt = []) (hplan : f.plan = true) :
    Does (.mxFsDetect k fn sys time (some f)) s (fun t => t.pair = frameSeen k fn time s ∧
      engines t = { engines s with
        trp := { s.trp with seq := f.tripSeq % 256 }
        rnk := t.rnk
        cells := planSeen k f s }) := by
  obtain ⟨rnk, hobserved⟩ := mxFsDetect_observes (time := time) (s := { s with out := [] }) hpaired hst hsys hk hrole
    hln hfn hf hmgt hplan
  exact does_waking rfl hobserved hheld ⟨rfl, rfl⟩

end

end

theorem frameSeen_lane {k fn time : Nat} {s : State} (hk : k < s.pair.lanes.length) :
    ((frameSeen k fn time s).lanes.getD k PLane.reset).mxSeen = s.frm.rims :=
  congrArg PLane.mxSeen (modAt_getD_self s.pair.lanes k _ PLane.reset hk)

/-- Settles O50: each event of a link, of a presence line and of a monitor input acts by what the pair is. -/
theorem linksAndPresenceActOnThePair : Obligations.LinksAndPresenceActOnThePair := by
  intro s l k fn sys time hheld
  refine ⟨fun hpaired hst hl hdown => ⟨linkLock_locks hpaired hst hl hdown, ?_⟩, fun hup => ⟨?_, fun hany => ?_,
    fun hnone => ?_⟩, fun hk hrole hln hany => ?_, fun hrole => ?_, ?_, fun hgone => ?_, fun hpres => ⟨fun hno => ?_,
    fun hpaired hst => ⟨fun hrole hsync hreq hhover => ?_, removed_blocks hheld hpres hpaired hst, fun hrole => ?_⟩⟩,
    fun f hno => ?_, fun f hpaired hst hsys hk hrole => ⟨fun hno => ?_, fun hln hfn hf hmgt hplan => ?_⟩⟩
  · exact idle_waking hheld rfl (partnerLinkDown_idle (s := { s with out := [] }) hdown)
  · exact does_effect (partnerLinkLock_locked (s := { s with out := [] }) hup) ⟨rfl, rfl, rfl⟩
  · exact reports_waking hheld rfl (partnerLinkDown_one (s := { s with out := [] }) hup hany) rfl rfl rfl
  · exact reports_waking hheld rfl (partnerLinkDown_both (s := { s with out := [] }) hup hnone) rfl rfl rfl
  · exact does_effect (monitorLost_reports (s := { s with out := [] }) hk hrole hln hany)
      (raise_pairIs (x := { s with out := [] }) k 0xA rfl rfl rfl)
  · exact does_effect (monitorLost_idle (s := { s with out := [] }) hrole) ⟨rfl, rfl, rfl⟩
  · exact pairIs_waking (f := ptnrPresHigh) hheld rfl rfl rfl rfl
  · exact idle_waking hheld rfl (brdPresHigh_idle (s := { s with out := [] }) hgone)
  · exact pairIs_waking hheld rfl (brdPresHigh_unpaired (s := { s with out := [] }) hpres hno) rfl rfl
  · refine removed_asks hheld hpres hpaired hst hrole hsync ?_
    rintro (h | h)
    · exact Bool.false_ne_true (hhover.symm.trans h)
    · rw [hreq] at h
      exact Bool.noConfusion h
  · exact (removed_leaves hheld hpres hpaired hst hrole).imp fun t ⟨heng, hhif, hdetached, hrep⟩ =>
      ⟨hrep, heng, hhif, hdetached⟩
  · exact idle_waking hheld rfl (mxFsDetect_ignored (s := { s with out := [] }) f hno)
  · refine (frame_marked hpaired hst hsys hk hrole hheld hno).imp fun t ⟨heng, _, hpair⟩ => ⟨heng, ?_⟩
    rw [hpair]
    exact ⟨rfl, rfl, frameSeen_lane⟩
  · refine (frame_observed hpaired hst hsys hk hrole hheld hln hfn hf hmgt hplan).imp fun t ⟨hpair, heng⟩ => ?_
    rw [hpair]
    exact ⟨rfl, rfl, heng⟩

end Sys2Proof

/-! Roles: heartbeats, takeover, hand-over, split, start-up and joining. -/

namespace Sys2Proof

open Sys2Proof.Machine

/-! ### What the changes of a role leave (R324, R325, R332, R333) -/

/-- A lane as a takeover leaves it: one in OBSERVE is ACTIVE (R324). -/
def laneTaken (l : LaneS) : LaneS := if l.st = 7 then { l with st := 6, losRun := 0, locked := true } else l

theorem takeRole_ln (s : State) (j : Nat) : (takeRole s).ln j = laneTaken (s.ln j) := by
  have hlanes : (takeRole s).ln j = (s.lnk.lanes.map laneTaken).getD j (laneTaken LaneS.reset) := rfl
  rw [hlanes, State.ln, List.getD_eq_getElem?_getD, List.getD_eq_getElem?_getD, List.getElem?_map, Option.getD_map]

/-- The lanes after a takeover, whatever their lasers: those in OBSERVE are ACTIVE, and the others stay. -/
theorem lanes_taken {s t : State} (h : ∀ j, LaneSame (t.ln j) (laneTaken (s.ln j))) :
    (∀ j, (s.ln j).st ≠ 7 → LaneSame (t.ln j) (s.ln j)) ∧ (∀ j, (s.ln j).st = 7 → (t.ln j).st = 6) := by
  refine ⟨fun j hj => ?_, fun j hj => ?_⟩
  · have hlane := h j
    rwa [laneTaken, if_neg hj] at hlane
  · rw [h j, laneTaken, if_pos hj]

/-- The role and the step of joining of a device that leaves the pair. -/
theorem detach_step (s : State) :
    (detach s).pair.step = if s.pair.role = .detached then s.pair.step else 0 := by
  unfold detach
  split <;> rfl

/-- A device that starts to join is at step 1, with no image (R332). -/
theorem joinStart_joins (s : State) : (joinStart s).pair.role = .joining ∧ (joinStart s).pair.step = 1 ∧
    (joinStart s).pair.image = [] ∧ (joinStart s).hif = s.hif ∧ (joinStart s).flt = s.flt := by
  unfold joinStart
  by_cases hjoining : s.pair.role = .joining
  · rw [if_pos hjoining]
    exact ⟨hjoining, rfl, rfl, rfl, rfl⟩
  · rw [if_neg hjoining]
    exact ⟨rfl, rfl, rfl, rfl, rfl⟩

theorem joinStart_unsynced {s : State} (hrole : s.pair.role ≠ .joining) : (joinStart s).pair.synced = false := by
  unfold joinStart
  rw [if_neg hrole]
  rfl

/-! ### HEARTBEAT_JUDGE (R324) -/

/-- A heartbeat of the last rim was seen. -/
def beatSeen (q : Pair) : Bool := q.hbLink || q.hbMx

/-- The pair with the heartbeat of the last rim judged. -/
def beatJudged (q : Pair) : Pair :=
  { q with
    hbJudged := true
    linkLast := q.hbLink
    mxLast := q.hbMx
    missed := if beatSeen q then 0 else min 2 (q.missed + 1)
    losses := if beatSeen q then q.losses else satAdd 8 q.losses 1
    lostRaised := q.lostRaised && !beatSeen q }

theorem beatJudged_first {q : Pair} (h : beatSeen q = true ∨ q.missed = 0) : (beatJudged q).missed ≠ 2 := by
  rcases h with h | h
  · simp [beatJudged, h]
  · simp only [beatJudged, h]
    split <;> decide

theorem beatJudged_second {q : Pair} (hno : beatSeen q = false) (hmissed : 0 < q.missed) :
    (beatJudged q).missed = 2 := by
  simp only [beatJudged, hno]
  exact Nat.min_eq_left (Nat.succ_le_succ hmissed)

section
variable {s : State}

theorem heartbeatJudge_idle (h : s.pair.hbJudged = true ∨ s.pair.role = .active ∨ paired s = false) :
    heartbeatJudge s = s := by
  refine if_pos ?_
  rcases h with h | h | h
  · exact .inr (.inl h)
  · exact .inr (.inr (by simp [h]))
  · exact .inl h

theorem heartbeatJudge_standby (hpaired : paired s = true) (hjudged : s.pair.hbJudged = false)
    (hrole : s.pair.role = .standby) : heartbeatJudge s =
      if (beatJudged s.pair).missed = 2 then
        (if s.pair.role = .standby ∧ s.pair.synced = true then takeover { s with pair := beatJudged s.pair }
          else partnerLost { s with pair := beatJudged s.pair })
      else { s with pair := beatJudged s.pair } := by
  refine if_neg ?_
  rintro (h | h | h)
  · exact Bool.false_ne_true (h.symm.trans hpaired)
  · exact Bool.false_ne_true (hjudged.symm.trans h)
  · exact h (.inl hrole)

theorem takeover_ln (x : State) (j : Nat) : (takeover x).ln j = laneTaken (x.ln j) :=
  (raise_ln ..).trans (takeRole_ln _ j)

/-- The takeover of a synchronised standby: it is active, counted and reported, and its lanes are taken. -/
def TakesOver (s t : State) : Prop :=
  engines t = engines s ∧ t.hif = s.hif ∧ t.pair.role = .active ∧
    t.pair.takeovers = satAdd 32 s.pair.takeovers 1 ∧ t.pair.missed = 0 ∧
    (∀ j, (s.ln j).st ≠ 7 → LaneSame (t.ln j) (s.ln j)) ∧ (∀ j, (s.ln j).st = 7 → (t.ln j).st = 6) ∧
    Reported 0x0B 0 1 s t

theorem takeover_takes {x : State} (heng : engines x = engines s) (hhif : x.hif = s.hif) (hflt : x.flt = s.flt)
    (hlnk : x.lnk = s.lnk) (hcount : x.pair.takeovers = s.pair.takeovers) : TakesOver s (settle (takeover x)) := by
  have hln : ∀ j, LaneSame ((settle (takeover x)).ln j) (laneTaken (s.ln j)) := fun j => by
    have hx : x.ln j = s.ln j := by rw [State.ln, hlnk, State.ln]
    rw [← hx, ← takeover_ln]
    exact settle_ln (takeover x) j
  refine ⟨?_, ?_, ?_, ?_, ?_, (lanes_taken hln).1, (lanes_taken hln).2, ?_⟩
  · rw [settle_eng, takeover_eng, heng]
  · rw [settle_hif, takeover, raise_hif]
    exact hhif
  · rw [settle_pair, takeover, raise_pair]
    rfl
  · rw [settle_pair, takeover, raise_pair, ← hcount]
    rfl
  · rw [settle_pair, takeover, raise_pair]
    rfl
  · exact (raise_reported 0x0B 0 1 0 _).settled hflt

end

section
variable {s : State} (hheld : s.hif.held = []) (hpaired : paired s = true) (hjudged : s.pair.hbJudged = false)
  (hrole : s.pair.role = .standby)
include hheld hpaired hjudged hrole

theorem heartbeat_judged (h : beatSeen s.pair = true ∨ s.pair.missed = 0) :
    Does .heartbeatJudge s (PairIs s (beatJudged s.pair)) :=
  pairIs_waking hheld rfl ((heartbeatJudge_standby (s := { s with out := [] }) hpaired hjudged hrole).trans
    (if_neg (beatJudged_first h))) rfl rfl

theorem heartbeat_takesOver (hno : beatSeen s.pair = false) (hmissed : 0 < s.pair.missed)
    (hsync : s.pair.synced = true) : Does .heartbeatJudge s (TakesOver s) := by
  have hover := (heartbeatJudge_standby (s := { s with out := [] }) hpaired hjudged hrole).trans
    ((if_pos (beatJudged_second hno hmissed)).trans (if_pos ⟨hrole, hsync⟩))
  refine does_waking rfl hover ?_ (takeover_takes rfl rfl rfl rfl rfl)
  rw [takeover, raise_hif]
  exact hheld

end

/-! ### HANDOVER_JUDGE (R328) -/

/-- What is reported is so from every state with the same collector. -/
theorem Reported.source {blk inst kind : Nat} {s x y : State} (h : Reported blk inst kind x y) (hx : x.flt = s.flt) :
    Reported blk inst kind s y := ⟨hx ▸ h.1, h.2⟩

theorem FltGrows.source {s x y : State} (h : FltGrows x y) (hx : x.flt = s.flt) : FltGrows s y := by
  unfold FltGrows isActive at h ⊢
  rw [← hx]
  exact h

/-- What the collector has it keeps as long as it stays. -/
theorem FltGrows.target {s x y : State} (h : FltGrows s x) (hy : y.flt = x.flt) : FltGrows s y := by
  unfold FltGrows isActive at h ⊢
  rw [hy]
  exact h

theorem raiseIf_grows (c : Bool) (blk inst kind detail : Nat) (s : State) :
    FltGrows s (raiseIf c blk inst kind detail s) := by
  unfold raiseIf
  split
  · exact raise_grows ..
  · exact FltGrows.refl s

theorem jnlFullCheck_grows (s : State) : FltGrows s (jnlFullCheck s) := (raiseIf_grows ..).source rfl

theorem jnlAdd_grows (pl : JPayload) (s : State) : FltGrows s (jnlAdd pl s) := by
  unfold jnlAdd
  split
  · exact (jnlFullCheck_grows _).source rfl
  · exact FltGrows.refl s

/-- A final reply loses nothing that the collector has. -/
theorem finish_grows (c : Ctx) (st : Nat) (data : List Byte) (s : State) : FltGrows s (finish c st data s) := by
  have hdeliver : ∀ op r x, (deliver op r x).flt = x.flt := fun op r x => by unfold deliver; split <;> rfl
  unfold finish
  split
  · exact (jnlAdd_grows ..).target (hdeliver ..)
  · exact (FltGrows.refl s).target (hdeliver ..)

/-- The announced hand-over of an active device is at its rim. -/
def HandoverDue (s : State) : Prop :=
  s.pair.role = .active ∧ s.pair.hover = true ∧ s.pair.hoverGo = false ∧ s.frm.count = s.pair.hoverFn

/-- A hand-over that is void is reported. -/
def handoverGone (s : State) : State :=
  raise 0x0B 0 0xD 0 { s with pair := { s.pair with
    hover := false, hoverAck := false, hoverGo := false, hoverWhy := none } }

theorem handoverGone_pair (s : State) : (handoverGone s).pair =
    { s.pair with hover := false, hoverAck := false, hoverGo := false, hoverWhy := none } := raise_pair ..

theorem handoverGone_hif (s : State) : (handoverGone s).hif = s.hif := raise_hif ..

section
variable {s : State}

theorem handoverJudge_goes (hdue : HandoverDue s) (hack : s.pair.hoverAck = true) :
    handoverJudge s = { s with pair := { s.pair with hoverGo := true } } := (if_pos hdue).trans (if_pos hack)

theorem handoverJudge_refuses {h : CmdHdr} (hdue : HandoverDue s) (hack : s.pair.hoverAck = false)
    (hwhy : s.pair.hoverWhy = some (.switch h)) :
    handoverJudge s = refuse { h := h, op := 0x0901 } 0x0803 (handoverGone s) := by
  refine (if_pos hdue).trans ((if_neg (by rw [hack]; exact Bool.noConfusion)).trans ?_)
  unfold handoverVoid
  rw [hwhy]
  rfl

/-- A PAIR_SWITCH whose hand-over is void is refused, and the void is reported. -/
theorem handover_refused {h : CmdHdr} (hheld : s.hif.held = []) (hdue : HandoverDue s) (hack : s.pair.hoverAck = false)
    (hwhy : s.pair.hoverWhy = some (.switch h)) (ho : PairOpen s h.pair) : Does .handoverJudge s (fun t =>
      engines t = engines s ∧ t.pair.hover = false ∧ t.pair.hoverWhy = none ∧ t.pair.role = .active ∧
        Reported 0x0B 0 0xD s t ∧ Answers 0x0901 h 0x0803 [] s t) := by
  have hhif := handoverGone_hif { s with out := [] }
  have hpair := handoverGone_pair { s with out := [] }
  have heng : engines (handoverGone { s with out := [] }) = engines s := raise_eng ..
  have hrep : Reported 0x0B 0 0xD s (handoverGone { s with out := [] }) := (raise_reported ..).source rfl
  have hrefuses := handoverJudge_refuses (s := { s with out := [] }) hdue hack hwhy
  generalize handoverGone { s with out := [] } = x at hhif hpair heng hrep hrefuses
  have hopen : PairOpen x h.pair := by
    unfold PairOpen
    rw [hhif]
    exact ho
  have hdelivers : Delivers 0x0901 x := by simp [Delivers, isPairOp]
  have hans := finish_answers 0x0901 h 0x0803 [] x hopen hdelivers
  have hgrows := finish_grows { h := h, op := 0x0901 } 0x0803 [] x
  obtain ⟨execs, hexecs⟩ := finish_pair { h := h, op := 0x0901 } 0x0803 [] x
  rw [hpair] at hexecs
  refine does_waking rfl hrefuses ((refuse_held ..).trans ((congrArg Hif.held hhif).trans hheld))
    ⟨?_, ?_, ?_, ?_, ?_, ?_⟩
  · rw [settle_eng, refuse_eng, heng]
  · rw [settle_pair, refuse, hexecs]
  · rw [settle_pair, refuse, hexecs]
  · rw [settle_pair, refuse, hexecs]
    exact hdue.1
  · exact (hrep.grows hgrows).settled rfl
  · unfold Answers at hans ⊢
    rw [settle_repliesOf, refuse, hans, repliesOf_of_pairs (congrArg Hif.pairs hhif)]
    rfl

/-! ### HANDOVER_MONITOR_CHECK (R328) -/

/-- The rim of the acknowledged hand-over brought no frame of the partner on a monitored lane. -/
def NoFrameSeen (s : State) : Prop :=
  ∀ k, k < 24 → (s.ln k).st = 7 → (s.pair.lanes.getD k PLane.reset).mxSeen ≠ s.frm.rims

/-- The state of a standby that has taken the role by a hand-over, and reported it. -/
def handedOver (s : State) : State :=
  raise 0x0B 0 2 0 (takeRole { s with pair := { s.pair with handovers := satAdd 32 s.pair.handovers 1 } })

theorem handoverMonitorCheck_takes (hrole : s.pair.role = .standby) (hack : s.pair.hoverAck = true)
    (hfn : s.pair.hoverFn = lastFrame s.toDev) (hdark : NoFrameSeen s) : handoverMonitorCheck s =
      { handedOver s with pair := { (handedOver s).pair with
        hoverAt := some (handedOver s).frm.rims
        switchAt := some ((handedOver s).frm.rims + 1) } } := by
  have hnone : ¬ (List.range 24).any (fun k => decide ((s.ln k).st = 7) &&
      decide ((s.pair.lanes.getD k PLane.reset).mxSeen = s.frm.rims)) = true := by
    simp only [List.any_eq_true, List.mem_range, Bool.and_eq_true, decide_eq_true_eq]
    rintro ⟨k, hk, hln, hseen⟩
    exact hdark k hk hln hseen
  exact (if_pos ⟨hrole, hack, hfn⟩).trans (if_neg hnone)

theorem handover_taken (hheld : s.hif.held = []) (hrole : s.pair.role = .standby) (hack : s.pair.hoverAck = true)
    (hfn : s.pair.hoverFn = lastFrame s.toDev) (hdark : NoFrameSeen s) : Does .handoverMonitorCheck s (fun t =>
      engines t = engines s ∧ t.pair.role = .active ∧ t.pair.handovers = satAdd 32 s.pair.handovers 1 ∧
        Reported 0x0B 0 2 s t) := by
  have htakes := handoverMonitorCheck_takes (s := { s with out := [] }) hrole hack hfn hdark
  have heng : engines (handedOver { s with out := [] }) = engines s := (raise_eng ..).trans (takeRole_eng _)
  have hrep : Reported 0x0B 0 2 s (handedOver { s with out := [] }) := (raise_reported ..).source rfl
  have hhif : (handedOver { s with out := [] }).hif = s.hif := raise_hif ..
  have hpair : (handedOver { s with out := [] }).pair = (takeRole { s with out := [], pair := { s.pair with
    handovers := satAdd 32 s.pair.handovers 1 } }).pair := raise_pair ..
  generalize handedOver { s with out := [] } = x at htakes heng hrep hhif hpair
  refine does_waking rfl htakes (hhif.symm ▸ hheld) ⟨heng, ?_, ?_, hrep.settled rfl⟩
  · exact congrArg Pair.role hpair
  · exact congrArg Pair.handovers hpair

/-! ### PAIR_SPLIT (R334) -/

theorem pairSplit_quiet (h : s.pair.role ≠ .active ∨ s.pair.splitRun = 0) : pairSplit s = s := by
  refine if_neg fun ⟨_, hrole, hrun⟩ => ?_
  rcases h with h | h
  · exact h hrole
  · omega

theorem pairSplit_splits (hpaired : paired s = true) (hrole : s.pair.role = .active) (hrun : 2 ≤ s.pair.splitRun) :
    pairSplit s = detach (injectSafeBlock s.freeV 0 s.now (raise 0x0B 0 0xB 0 s.draw)) :=
  if_pos ⟨hpaired, hrole, .inl hrun⟩

theorem split_detaches (hheld : s.hif.held = []) (hpaired : paired s = true) (hrole : s.pair.role = .active)
    (hrun : 2 ≤ s.pair.splitRun) : Does .pairSplit s (fun t =>
      t.pair.role = .detached ∧ Acted t ∧ t.trp.sbLatch = true ∧ Reported 0x0B 0 0xB s t ∧ t.st = s.st ∧
        t.frm = s.frm) := by
  have hsplits := pairSplit_splits (s := { s with out := [] }) hpaired hrole hrun
  generalize hx : raise 0x0B 0 0xB 0 (State.draw { s with out := [] }) = x at hsplits
  have hxeng : engines x = engines s := by rw [← hx, raise_eng]; rfl
  have hrep : Reported 0x0B 0 0xB s x := hx ▸ (raise_reported ..).source rfl
  have hhif : x.hif = s.hif := by rw [← hx, raise_hif]; rfl
  generalize State.freeV { s with out := [] } = cause at hsplits
  have heng := (detach_eng _).trans (injectSafeBlock_engines cause 0 s.now x)
  have hacted := (injectSafeBlock_acted cause 0 s.now x).of_trp
    (congrArg Engines.trp (detach_eng (injectSafeBlock cause 0 s.now x))).symm
  have hlatch := (congrArg (fun e : Engines => e.trp.sbLatch) (detach_eng (injectSafeBlock cause 0 s.now x))).trans
    (injectSafeBlock_sbLatch cause 0 s.now x)
  have hflt := (detach_flt (injectSafeBlock cause 0 s.now x)).trans (injectSafeBlock_flt cause 0 s.now x)
  refine does_waking rfl hsplits ?_
    ⟨detach_role _, hacted.of_trp rfl, hlatch, (hrep.of_flt hflt).settled rfl, ?_, ?_⟩
  · exact (detach_held _).trans ((injectSafeBlock_held ..).trans ((congrArg Hif.held hhif).trans hheld))
  · exact (congrArg Engines.st heng).trans (congrArg Engines.st hxeng)
  · exact (congrArg Engines.frm heng).trans (congrArg Engines.frm hxeng)

/-! ### PAIR_WAIT_END (R314) -/

/-- The role that a starting device takes and the step of joining it is at. -/
def startRole (s : State) : Role × Nat :=
  if s.pair.sameSys then (.detached, if s.pair.role = .detached then s.pair.step else 0)
  else if s.pair.heardActive || (s.pair.heardHello && s.pair.sys) then (.joining, 1)
  else (.active, 0)

/-- The start of a device with its role decided. -/
def roleKnown (s : State) : State := { s with pwr := { s.pwr with roleDone := true } }

theorem pairWaitEnd_decides (hst : s.st = .starting) (hpaired : paired s = true) (hdone : s.pwr.roleDone = false)
    (hrestored : s.jnl.restored = true) : engines (pairWaitEnd s) = engines (roleKnown s) ∧
      ((pairWaitEnd s).pair.role, (pairWaitEnd s).pair.step) = startRole s := by
  have hdecides : pairWaitEnd s =
      if s.pair.sameSys then detach (roleKnown s)
      else if s.pair.heardActive then joinStart (roleKnown s)
      else if s.pair.heardHello && s.pair.sys then joinStart (roleKnown s)
      else setRole .active false 0 (roleKnown s) := if_pos ⟨hst, hpaired, hdone, hrestored⟩
  have hjoins : ((joinStart (roleKnown s)).pair.role, (joinStart (roleKnown s)).pair.step) = (Role.joining, 1) := by
    obtain ⟨hrole, hstep, _⟩ := joinStart_joins (roleKnown s)
    rw [hrole, hstep]
  rw [hdecides, startRole]
  split
  · rw [detach_eng, detach_role, detach_step]
    exact ⟨rfl, rfl⟩
  · cases hheard : s.pair.heardActive with
    | true => exact ⟨joinStart_eng _, hjoins⟩
    | false =>
      simp only [Bool.false_or, Bool.false_eq_true, if_false]
      split
      · exact ⟨joinStart_eng _, hjoins⟩
      · exact ⟨rfl, rfl⟩

theorem waitEnd_decides (hst : s.st = .starting) (hpaired : paired s = true) (hdone : s.pwr.roleDone = false)
    (hrestored : s.jnl.restored = true) : Does .pairWaitEnd s (fun t =>
      engines t = { engines s with pwr := { s.pwr with roleDone := true } } ∧
        (t.pair.role, t.pair.step) = startRole s) := by
  obtain ⟨heng, hrole⟩ := pairWaitEnd_decides (s := { s with out := [] }) hst hpaired hdone hrestored
  refine does_effect (x := pairWaitEnd { s with out := [] }) rfl ⟨?_, hrole⟩
  rw [settle_eng, heng]
  rfl

/-! ### JOIN_STEP_DONE (R332) -/

section
variable (hrole : s.pair.role = .joining)
include hrole

theorem joinStep_link (hstep : s.pair.step = 1) (hup : s.pair.links.any id = true) (hheard : s.pair.heardHello = true)
    (hfit : s.pair.helloBad = false) :
    joinStepDone s = joinTo 2 (syncArm { s with pll := { s.pll with syncDone := false } }) := by
  simp only [joinStepDone, hrole, hstep, hup, hheard, hfit]
  rfl

theorem joinStep_grid (hstep : s.pair.step = 2) (hsync : s.pll.syncDone = true) (hgrid : s.pair.gridOk = true) :
    joinStepDone s = joinTo 3 s := by
  simp only [joinStepDone, hrole, hstep, hsync, hgrid]
  rfl

theorem joinStep_image (hstep : s.pair.step = 3) (hdone : s.pair.imageDone = true) :
    joinStepDone s = joinTo 4 (compactStart none (imageApply s)) := by
  simp only [joinStepDone, hrole, hstep, hdone]
  rfl

theorem joinStep_noImage (hstep : s.pair.step = 3) (hno : s.pair.imageDone = false) : joinStepDone s = s := by
  simp only [joinStepDone, hrole, hstep, hno]
  rfl

theorem joinStep_journal (hstep : s.pair.step = 4) (hdone : s.jnl.compact = false) : joinStepDone s = joinTo 5 s := by
  simp only [joinStepDone, hrole, hstep, hdone]
  rfl

theorem joinStep_lanes (hstep : s.pair.step = 5) (hall : allObserve s = true) :
    joinStepDone s = joinTo 6 { s with pair := { s.pair with rotation := 0 } } := by
  simp only [joinStepDone, hrole, hstep, hall]
  rfl

theorem joinStep_rotation (hstep : s.pair.step = 6) (hrot : (slotsOn s).length + s.boundL.length ≤ s.pair.rotation)
    (hskew : s.pair.lanes.any (fun x => x.skew) = false) : joinStepDone s = setRole .standby true 0 s := by
  simp only [joinStepDone, hrole, hstep]
  exact (if_neg (not_not_intro rfl)).trans (if_pos ⟨hrot, hskew⟩)

end

theorem joinStep_idle (hrole : s.pair.role ≠ .joining) : joinStepDone s = s := if_pos hrole

/-- The parts of an image leave the held host commands. -/
theorem imageApply_held (s : State) : heldOf (imageApply s) = heldOf s := by
  have hnv : ∀ k b x, heldOf (nvRestore k b x) = heldOf x := fun k b x => by
    unfold nvRestore
    split
    · rfl
    · exact raise_held ..
  unfold imageApply
  simp only
  refine (held_foldl _ _ _ ?next).trans ((held_foldl _ _ _ ?cmds).trans ((held_foldl _ _ _ ?window).trans
    ((held_foldl _ _ _ ?ramps).trans ((spClear_held ..).trans ((held_foldl _ _ _ ?cells).trans
      (held_foldl s.pair.image (fun a m => paramRestore m.params a) s fun _ _ => rfl))))))
  case next => exact fun _ _ => rfl
  case cmds => exact fun _ _ => rfl
  case window => exact fun a m => held_foldl _ _ _ fun _ _ => rfl
  case ramps => exact fun a m => held_foldl _ _ _ fun b e => spAppend_held e 0 b
  case cells => exact fun a m => held_foldl _ _ _ fun b x => hnv x.1 x.2 b

theorem joinTo_held (n : Nat) (s : State) : heldOf (joinTo n s) = heldOf s := rfl

/-- The end of the image leaves the held host commands. -/
theorem imageDone_held (s : State) : heldOf (joinTo 4 (compactStart none (imageApply s))) = heldOf s :=
  (joinTo_held 4 _).trans ((compactStart_held none _).trans (imageApply_held s))

end

/-! ### PAIR_JOIN_SLOW, SYNCED_LOSS and PAIR_TABLE_DIFF (R323, R332, R333) -/

section
variable {s : State}

theorem pairJoinSlow_idle (hrole : s.pair.role ≠ .joining) : pairJoinSlow s = s := if_neg hrole

theorem joinSlow_restarts (hrole : s.pair.role = .joining) : Does .pairJoinSlow s (fun t =>
    engines t = engines s ∧ t.pair.role = .joining ∧ t.pair.step = 1 ∧ t.pair.image = [] ∧
      Reported 0x0B 0 6 s t) := by
  have hslow : pairJoinSlow { s with out := [] } = joinStart (raise 0x0B 0 6 0 { s with out := [] }) := if_pos hrole
  obtain ⟨hjoining, hstep, himage, _, hflt⟩ := joinStart_joins (raise 0x0B 0 6 0 { s with out := [] })
  refine does_effect hslow ⟨?_, hjoining, hstep, himage, ?_⟩
  · rw [settle_eng, joinStart_eng, raise_eng]
    rfl
  · exact ((raise_reported 0x0B 0 6 0 { s with out := [] }).of_flt hflt).settled rfl

theorem syncedLoss_idle (hrole : s.pair.role ≠ .standby) : syncedLoss s = s := if_neg fun h => hrole h.1

theorem syncedLoss_rejoins (hheld : s.hif.held = []) (hrole : s.pair.role = .standby)
    (hlost : s.p 0xB003 < s.pair.hbRun ∨ 1024 ≤ s.pair.gridRun ∨ s.pair.lanes.any (fun x => x.skew) = true) :
    Does .syncedLoss s (fun t =>
      engines t = engines s ∧ t.pair.role = .joining ∧ t.pair.step = 1 ∧ t.pair.synced = false) := by
  have hloss : syncedLoss { s with out := [] } = joinStart { s with out := [] } := if_pos ⟨hrole, hlost⟩
  obtain ⟨hjoining, hstep, _, hhif, _⟩ := joinStart_joins { s with out := [] }
  have hother : s.pair.role ≠ .joining := by rw [hrole]; exact Role.noConfusion
  refine does_waking rfl hloss (hhif.symm ▸ hheld) ⟨?_, hjoining, hstep, ?_⟩
  · rw [settle_eng, joinStart_eng]
    rfl
  · exact joinStart_unsynced (s := { s with out := [] }) hother

theorem pairTableDiff_raises (hrun : s.pair.crcRun = 16) :
    pairTableDiff s = raise 0x0B 0 7 0 { s with pair := { s.pair with crcRun := 17 } } := if_pos hrun

theorem tableDiff_reports (hrun : s.pair.crcRun = 16) : Does .pairTableDiff s (fun t =>
    PairIs s { s.pair with crcRun := 17 } t ∧ Reported 0x0B 0 7 s t) :=
  does_effect (pairTableDiff_raises (s := { s with out := [] }) hrun) (raise_pairIs 0 7 rfl rfl rfl).symm

theorem pairTableDiff_idle (hrun : s.pair.crcRun ≠ 16) : pairTableDiff s = s := if_neg hrun

end

/-- Settles O51: heartbeats, hand-overs, splits, the start and the steps of joining each give the device its role. -/
theorem rolesFollowHeartbeatsAndHandOvers : Obligations.RolesFollowHeartbeatsAndHandOvers := by
  intro s hheld
  refine ⟨fun hpaired hjudged hrole => ⟨heartbeat_judged hheld hpaired hjudged hrole,
      heartbeat_takesOver hheld hpaired hjudged hrole⟩, fun h => ?_,
    fun hrole hhover hgo hcount => ⟨fun hack => ?_, fun h hack hwhy ho =>
      handover_refused hheld ⟨hrole, hhover, hgo, hcount⟩ hack hwhy ho⟩,
    handover_taken hheld, split_detaches hheld, fun h => ?_, waitEnd_decides,
    fun hrole => ⟨fun hstep hup hheard hfit => ?_, fun hstep hsync hgrid => ?_, fun hstep hdone => ?_,
      fun hstep hno => ?_, fun hstep hdone => ?_, fun hstep hall => ?_, fun hstep hrot hskew => ?_,
      joinSlow_restarts hrole⟩,
    fun hrole => ⟨?_, ?_⟩, syncedLoss_rejoins hheld, fun hrole => ?_, tableDiff_reports, fun hrun => ?_⟩
  · exact idle_waking hheld rfl (heartbeatJudge_idle (s := { s with out := [] }) h)
  · exact pairIs_waking hheld rfl
      (handoverJudge_goes (s := { s with out := [] }) ⟨hrole, hhover, hgo, hcount⟩ hack) rfl rfl
  · exact idle_waking hheld rfl (pairSplit_quiet (s := { s with out := [] }) h)
  · exact does_waking rfl (joinStep_link (s := { s with out := [] }) hrole hstep hup hheard hfit)
      hheld ⟨rfl, rfl, rfl⟩
  · exact pairIs_waking hheld rfl (joinStep_grid (s := { s with out := [] }) hrole hstep hsync hgrid) rfl rfl
  · refine does_waking rfl (joinStep_image (s := { s with out := [] }) hrole hstep hdone) ?_ rfl
    exact (imageDone_held { s with out := [] }).trans hheld
  · exact idle_waking hheld rfl (joinStep_noImage (s := { s with out := [] }) hrole hstep hno)
  · exact pairIs_waking hheld rfl (joinStep_journal (s := { s with out := [] }) hrole hstep hdone) rfl rfl
  · exact pairIs_waking hheld rfl (joinStep_lanes (s := { s with out := [] }) hrole hstep hall) rfl rfl
  · exact does_waking rfl (joinStep_rotation (s := { s with out := [] }) hrole hstep hrot hskew)
      hheld ⟨rfl, rfl, rfl⟩
  · exact idle_waking hheld rfl (joinStep_idle (s := { s with out := [] }) hrole)
  · exact does_effect (pairJoinSlow_idle (s := { s with out := [] }) hrole) ⟨rfl, rfl, rfl⟩
  · exact idle_waking hheld rfl (syncedLoss_idle (s := { s with out := [] }) hrole)
  · exact does_effect (pairTableDiff_idle (s := { s with out := [] }) hrun) ⟨rfl, rfl, rfl⟩

end Sys2Proof

/-! Network time: the ports, the masters of the domains, Sync and Follow_Up, and the step that offsets make due. -/

namespace Sys2Proof

open Sys2Proof.Machine

/-! ### What the commands of network time change -/

/-- The time block, and what a fault leaves in the collector and the event recorder. -/
def TimeForm (s t : State) : Prop := ∃ m f e, t = { s with time := m, flt := f, evr := e }

theorem TimeForm.refl (s : State) : TimeForm s s := ⟨_, _, _, rfl⟩

theorem TimeForm.trans {a b c : State} (h1 : TimeForm a b) (h2 : TimeForm b c) : TimeForm a c := by
  obtain ⟨_, _, _, rfl⟩ := h1
  obtain ⟨_, _, _, rfl⟩ := h2
  exact ⟨_, _, _, rfl⟩

theorem TimeForm.eng {s t : State} (h : TimeForm s t) : engines t = { engines s with time := t.time } := by
  obtain ⟨_, _, _, rfl⟩ := h
  rfl

theorem TimeForm.foldl {α : Type} {f : State → α → State} (hf : ∀ s x, TimeForm s (f s x)) (l : List α) (s : State) :
    TimeForm s (l.foldl f s) := foldl_form TimeForm.refl (fun _ _ _ => TimeForm.trans) f hf l s

theorem raise_timeForm (blk inst kind detail : Nat) (s : State) : TimeForm s (raise blk inst kind detail s) := by
  obtain ⟨_, _, h⟩ := raise_eq blk inst kind detail s
  exact ⟨_, _, _, h⟩

theorem raiseIf_timeForm (c : Bool) (blk inst kind detail : Nat) (s : State) :
    TimeForm s (raiseIf c blk inst kind detail s) := by
  unfold raiseIf
  split
  · exact raise_timeForm ..
  · exact TimeForm.refl s

theorem raise_time (blk inst kind detail : Nat) (s : State) : (raise blk inst kind detail s).time = s.time :=
  congrArg Engines.time (raise_eng blk inst kind detail s)

theorem raiseIf_time (c : Bool) (blk inst kind detail : Nat) (s : State) :
    (raiseIf c blk inst kind detail s).time = s.time := congrArg Engines.time (raiseIf_eng c blk inst kind detail s)

/-- A command that changes the time block, with what the statement says of it beside. -/
theorem time_does {c : Instr} {s x : State} {P : State → Prop} (he : effect c { s with out := [] } = x)
    (hform : TimeForm { s with out := [] } x) (hP : P (settle x)) :
    Does c s (fun t => engines t = { engines s with time := t.time } ∧ P t) :=
  does_effect he ⟨(settle_eng x).trans hform.eng, hP⟩

/-! ### Domains -/

section
variable {d k : Nat} {f : TDom → TDom} {s : State}

theorem modDom_timeForm (d : Nat) (f : TDom → TDom) (s : State) : TimeForm s (s.modDom d f) := ⟨_, _, _, rfl⟩

theorem dom_modDom_self (hd : d < s.time.doms.length) : (s.modDom d f).dom d = f (s.dom d) :=
  modAt_getD_self _ _ _ _ hd

theorem dom_modDom_ne (hk : k ≠ d) : (s.modDom d f).dom k = s.dom k := modAt_getD_ne _ _ _ _ _ hk

theorem modDom_length : (s.modDom d f).time.doms.length = s.time.doms.length := modAt_length ..

/-- A change of the domains of a list leaves the others. -/
theorem dom_foldl_modDom_of_notMem {l : List Nat} (hd : d ∉ l) :
    (l.foldl (fun a k => a.modDom k f) s).dom d = s.dom d := by
  induction l generalizing s with
  | nil => rfl
  | cons k l ih =>
    rw [List.mem_cons, not_or] at hd
    exact (ih hd.2).trans (dom_modDom_ne hd.1)

/-- A change of the domains of a list is made once in each of them. -/
theorem dom_foldl_modDom_of_mem {l : List Nat} (hl : l.Nodup) (hd : d ∈ l) (hlen : d < s.time.doms.length) :
    (l.foldl (fun a k => a.modDom k f) s).dom d = f (s.dom d) := by
  induction l generalizing s with
  | nil => exact absurd hd List.not_mem_nil
  | cons k l ih =>
    obtain ⟨hk, hl⟩ := List.nodup_cons.mp hl
    by_cases hdk : d = k
    · subst hdk
      exact (dom_foldl_modDom_of_notMem hk).trans (dom_modDom_self hlen)
    · refine (ih hl ((List.mem_cons.mp hd).resolve_left hdk) (by rw [modDom_length]; exact hlen)).trans ?_
      rw [dom_modDom_ne hdk]

theorem domsOf_nodup (s : State) (num : Nat) : (domsOf s num).Nodup :=
  List.Pairwise.filter _ (show [0, 1].Nodup by decide)

theorem foldl_modDom_timeForm (l : List Nat) (f : TDom → TDom) (s : State) :
    TimeForm s (l.foldl (fun a k => a.modDom k f) s) := TimeForm.foldl (fun a k => modDom_timeForm k f a) l s

end

/-! ### Validity (R347, R348) -/

section
variable {before s : State} {d : Nat}

/-- What follows a change of validity leaves the domains and the ports, and reports holdover at most. -/
theorem validity_eq (before s : State) : ∃ (c : Bool) (m : Tim),
    validity before s = raiseIf c 0x0C s.time.inUse 4 0 { s with time := m } ∧
      m.doms = s.time.doms ∧ m.ports = s.time.ports := by
  simp only [validity]
  split
  · split <;> exact ⟨true, _, rfl, rfl, rfl⟩
  · split <;> split <;> exact ⟨false, _, rfl, rfl, rfl⟩

theorem validity_timeForm (before s : State) : TimeForm s (validity before s) := by
  obtain ⟨_, m, h, _⟩ := validity_eq before s
  exact h ▸ TimeForm.trans (b := { s with time := m }) ⟨_, _, _, rfl⟩ (raiseIf_timeForm ..)

theorem validity_grows (before s : State) : FltGrows s (validity before s) := by
  obtain ⟨_, _, h, _⟩ := validity_eq before s
  exact h ▸ (raiseIf_grows ..).source rfl

theorem validity_doms (before s : State) : (validity before s).time.doms = s.time.doms := by
  obtain ⟨_, _, h, hdoms, _⟩ := validity_eq before s
  rw [h, raiseIf_time]
  exact hdoms

theorem validity_ports (before s : State) : (validity before s).time.ports = s.time.ports := by
  obtain ⟨_, _, h, _, hports⟩ := validity_eq before s
  rw [h, raiseIf_time]
  exact hports

theorem dom_of_doms {s t : State} (h : t.time.doms = s.time.doms) (d : Nat) : t.dom d = s.dom d :=
  congrArg (List.getD · d TDom.reset) h

theorem validity_dom (before s : State) (d : Nat) : (validity before s).dom d = s.dom d :=
  dom_of_doms (validity_doms before s) d

/-- Holdover begins where the last valid domain is lost. -/
theorem validity_holdover (h0 : (s.dom 0).valid = false) (h1 : (s.dom 1).valid = false)
    (hwas : ((before.dom 0).valid || (before.dom 1).valid) = true) : ∃ m : Tim,
    validity before s = raise 0x0C s.time.inUse 4 0 { s with time := m } ∧ m.holdover = true ∧ m.slew = 0 := by
  simp only [validity, h0, h1, hwas, Bool.not_false, Bool.and_self, if_true]
  split <;> exact ⟨_, rfl, rfl, rfl⟩

/-- Domain `d` without validity, before what follows. -/
def invalidated (d : Nat) (s : State) : State := s.modDom d (fun t => { t with valid := false })

theorem ptpSyncLoss_eq (hd : d < 2) : ptpSyncLoss d s = validity s (invalidated d s) := if_pos hd

/-- PTP_SYNC_LOSS takes the validity of its domain, and the other domain stays. -/
theorem syncLoss_loses (hd : d < 2) (hlen : s.time.doms.length = 2) : Does (.ptpSyncLoss d) s (fun t =>
    engines t = { engines s with time := t.time } ∧ (t.dom d).valid = false ∧ t.dom (1 - d) = s.dom (1 - d) ∧
      ((s.dom d).valid = true → (s.dom (1 - d)).valid = false →
        t.time.holdover = true ∧ t.time.slew = 0 ∧ Reported 0x0C s.time.inUse 4 s t)) := by
  have hself : (invalidated d { s with out := [] }).dom d = { s.dom d with valid := false } :=
    dom_modDom_self (hlen.symm ▸ hd)
  have hother : (invalidated d { s with out := [] }).dom (1 - d) = s.dom (1 - d) := dom_modDom_ne (by omega)
  refine time_does (ptpSyncLoss_eq (s := { s with out := [] }) hd)
    ((modDom_timeForm ..).trans (validity_timeForm ..)) ⟨?_, ?_, fun hvalid hno => ?_⟩
  · exact congrArg TDom.valid ((validity_dom ..).trans hself)
  · exact (validity_dom ..).trans hother
  · have hlost := congrArg TDom.valid hself
    have hnone := (congrArg TDom.valid hother).trans hno
    have hboth : ((invalidated d { s with out := [] }).dom 0).valid = false ∧
        ((invalidated d { s with out := [] }).dom 1).valid = false ∧
        ((s.dom 0).valid || (s.dom 1).valid) = true := by
      obtain rfl | rfl : d = 0 ∨ d = 1 := by omega
      · exact ⟨hlost, hnone, Bool.or_eq_true_iff.mpr (.inl hvalid)⟩
      · exact ⟨hnone, hlost, Bool.or_eq_true_iff.mpr (.inr hvalid)⟩
    obtain ⟨h0, h1, hwas⟩ := hboth
    obtain ⟨m, h, hhold, hslew⟩ := validity_holdover (before := { s with out := [] }) h0 h1 hwas
    rw [h]
    refine ⟨?_, ?_, (raise_reported ..).settled rfl⟩
    · rw [settle_time, raise_time]
      exact hhold
    · rw [settle_time, raise_time]
      exact hslew

end

/-! ### PTP_ANNOUNCE and PTP_ANNOUNCE_TIMEOUT (R343) -/

/-- A domain that hears an Announce: the master of the port is the announced one where that is better, or the same. -/
def hearAnnounce (port : Nat) (ds : MasterDs) (t : TDom) : TDom :=
  let better := match t.master.getD port none with
    | some m => decide (m.identity = ds.identity) || betterDs ds m
    | none => true
  if better then TDom.settle { t with master := t.master.set port (some ds) } else t

/-- A domain that has lost the master of a port. -/
def loseMaster (port : Nat) (t : TDom) : TDom := TDom.settle { t with master := t.master.set port none }

section
variable {port domain d : Nat} {ds : MasterDs} {t : TDom} {s : State}

theorem tdomSettle_master (t : TDom) : t.settle.master = t.master := by
  unfold TDom.settle
  split <;> rfl

theorem hearAnnounce_better (h : t.master.getD port none = none ∨
    ∃ m, t.master.getD port none = some m ∧ (m.identity = ds.identity ∨ betterDs ds m = true)) :
    (hearAnnounce port ds t).master = t.master.set port (some ds) := by
  unfold hearAnnounce
  obtain hnone | ⟨m, hm, hbetter⟩ := h
  · rw [hnone]
    exact tdomSettle_master _
  · rw [hm]
    exact (congrArg TDom.master (if_pos (by simpa using hbetter))).trans (tdomSettle_master _)

theorem hearAnnounce_worse {m : MasterDs} (hm : t.master.getD port none = some m) (hid : m.identity ≠ ds.identity)
    (hworse : betterDs ds m = false) : hearAnnounce port ds t = t := by
  unfold hearAnnounce
  rw [hm]
  exact if_neg (by simp [hid, hworse])

theorem ptpAnnounce_up (hup : (s.port port).up = true) : ptpAnnounce port domain ds s =
    validity s ((domsOf s domain).foldl (fun a d => a.modDom d (hearAnnounce port ds)) s) := if_pos hup

theorem ptpAnnounce_down (hdown : (s.port port).up = false) : ptpAnnounce port domain ds s = s :=
  if_neg (Bool.eq_false_iff.mp hdown)

theorem ptpAnnounceTimeout_eq : ptpAnnounceTimeout port domain s =
    validity s ((domsOf s domain).foldl (fun a d => a.modDom d (loseMaster port)) s) := rfl

/-- A command that changes each domain of a number alike, before validity follows. -/
theorem domains_do {c : Instr} {f : TDom → TDom} (he : effect c { s with out := [] } =
      validity { s with out := [] } ((domsOf s domain).foldl (fun a d => a.modDom d f) { s with out := [] })) :
    Does c s (fun t => engines t = { engines s with time := t.time } ∧
      ∀ d ∈ domsOf s domain, d < s.time.doms.length → t.dom d = f (s.dom d)) :=
  time_does he ((foldl_modDom_timeForm ..).trans (validity_timeForm ..)) fun d hd hlen =>
    (validity_dom _ _ d).trans (dom_foldl_modDom_of_mem (domsOf_nodup s domain) hd hlen)

theorem announce_masters (hup : (s.port port).up = true) : Does (.ptpAnnounce port domain ds) s (fun t =>
    engines t = { engines s with time := t.time } ∧
      ∀ d ∈ domsOf s domain, d < s.time.doms.length → t.dom d = hearAnnounce port ds (s.dom d)) :=
  domains_do (ptpAnnounce_up (s := { s with out := [] }) hup)

theorem announceTimeout_masters : Does (.ptpAnnounceTimeout port domain) s (fun t =>
    engines t = { engines s with time := t.time } ∧
      ∀ d ∈ domsOf s domain, d < s.time.doms.length → t.dom d = loseMaster port (s.dom d)) :=
  domains_do (ptpAnnounceTimeout_eq (s := { s with out := [] }))

end

/-! ### Pdelay_Req, Pdelay_Resp and the delay timer (R343–R345) -/

section
variable {port : Nat} {s : State}

theorem ptpPdelayReq_up (seqId raw : Nat) (hport : port < 2) (hup : (s.port port).up = true) :
    ptpPdelayReq port seqId raw s =
      s.emit (.ptp port 1 seqId (ptpT s.toDev (ingress s port raw).toNat)) := if_pos ⟨hport, hup⟩

theorem ptpPdelayReq_down (seqId raw : Nat) (hdown : (s.port port).up = false) : ptpPdelayReq port seqId raw s = s :=
  if_neg fun h => Bool.false_ne_true (hdown.symm.trans h.2)

/-- Requests sent on each port of a list that is up, and on no other. -/
theorem foldl_requests (q : Nat) (l : List Nat) (s : State) :
    l.foldl (fun a p => if (a.port p).up then a.emit (.ptp p 0 q 0) else a) s =
      { s with out := s.out ++ (l.filter (fun p => (s.port p).up)).map (fun p => .ptp p 0 q 0) } := by
  induction l generalizing s with
  | nil => exact congrArg (fun o => { s with out := o }) (List.append_nil s.out).symm
  | cons p l ih =>
    rw [List.foldl_cons, ih, List.filter_cons]
    split
    · exact congrArg (fun o => { s with out := o }) (List.append_assoc ..)
    · rfl

theorem pdelayReqTimer_sends (s : State) : pdelayReqTimer s = { s with
    out := s.out ++ ([0, 1].filter (fun p => (s.port p).up)).map (fun p => .ptp p 0 s.time.pdSeq 0)
    time := { s.time with pdSeq := (s.time.pdSeq + 1) % 2 ^ 16 } } := by
  unfold pdelayReqTimer
  rw [foldl_requests]

/-- The peer delay that a Pdelay_Resp measures (R345). -/
def peerDelay (m : PdelayMsg) (s : State) : Int :=
  openDiv 8 (ingress s m.port m.t4G16 - egress s m.port m.t1G16 - (m.t3 - m.t2)) 2

section
variable {m : PdelayMsg}

theorem ptpPdelayResp_down (hdown : (s.port m.port).up = false) : ptpPdelayResp m s = s :=
  if_neg fun h => Bool.false_ne_true (hdown.symm.trans h.2)

theorem ptpPdelayResp_within (hport : m.port < 2) (hup : (s.port m.port).up = true)
    (hle : peerDelay m s ≤ s.pI 0xC009) : ptpPdelayResp m s = { s with time := { s.time with
      ports := modAt s.time.ports m.port (fun p => { p with pd := (peerDelay m s :: p.pd).take 8 }) } } :=
  (if_pos ⟨hport, hup⟩).trans (if_neg (Int.not_lt.mpr hle))

/-- A domain of a port without a usable peer delay is not valid. -/
def unmeasured (port : Nat) (t : TDom) : TDom := if t.port = port then { t with valid := false } else t

/-- A peer delay above the limit, reported. -/
def delayReported (m : PdelayMsg) (s : State) : State := raise 0x0C m.port 5 0 s

theorem ptpPdelayResp_over (hport : m.port < 2) (hup : (s.port m.port).up = true)
    (hlt : s.pI 0xC009 < peerDelay m s) : ptpPdelayResp m s = if (s.port m.port).pd = []
      then validity (delayReported m s) ([0, 1].foldl (fun a k => a.modDom k (unmeasured m.port)) (delayReported m s))
      else delayReported m s :=
  (if_pos ⟨hport, hup⟩).trans (if_pos hlt)

theorem foldl_modDom_ports (l : List Nat) (f : TDom → TDom) (s : State) :
    (l.foldl (fun a k => a.modDom k f) s).time.ports = s.time.ports :=
  foldl_kept (fun x => x.time.ports) l _ s fun _ _ => rfl

theorem foldl_modDom_flt (l : List Nat) (f : TDom → TDom) (s : State) :
    (l.foldl (fun a k => a.modDom k f) s).flt = s.flt := foldl_kept (fun x => x.flt) l _ s fun _ _ => rfl

/-- A delay above the limit is reported, and the ports keep theirs. -/
theorem pdelayResp_reports (hport : m.port < 2) (hup : (s.port m.port).up = true)
    (hlt : s.pI 0xC009 < peerDelay m s) : Does (.ptpPdelayResp m) s (fun t =>
      engines t = { engines s with time := t.time } ∧ t.time.ports = s.time.ports ∧ Reported 0x0C m.port 5 s t) := by
  have hreported : Reported 0x0C m.port 5 s (delayReported m { s with out := [] }) :=
    raise_reported 0x0C m.port 5 0 { s with out := [] }
  have hform : TimeForm { s with out := [] } (delayReported m { s with out := [] }) := raise_timeForm ..
  have hports : (delayReported m { s with out := [] }).time.ports = s.time.ports := congrArg Tim.ports (raise_time ..)
  have he := ptpPdelayResp_over (s := { s with out := [] }) hport hup hlt
  by_cases hpd : (s.port m.port).pd = []
  · have hfold := foldl_modDom_flt [0, 1] (unmeasured m.port) (delayReported m { s with out := [] })
    refine time_does (he.trans (if_pos hpd))
      ((hform.trans (foldl_modDom_timeForm ..)).trans (validity_timeForm ..)) ⟨?_, ?_⟩
    · exact (validity_ports ..).trans ((foldl_modDom_ports ..).trans hports)
    · exact (hreported.grows ((validity_grows ..).source hfold)).settled rfl
  · exact time_does (he.trans (if_neg hpd)) hform ⟨hports, hreported.settled rfl⟩

end

end

/-! ### TIME_STEP (R346) -/

/-- The median of the last eight offsets of the domain in use. -/
def stepMid (s : State) : Int := median ((s.dom s.time.inUse).offs.take 8)

/-- Eight consecutive large offsets of the domain in use agree, and neither a step nor a change of domain is due. -/
def StepReady (s : State) : Prop :=
  8 ≤ (s.dom s.time.inUse).offs.length ∧ 8 ≤ (s.dom s.time.inUse).ovr ∧
    (∀ y ∈ (s.dom s.time.inUse).offs.take 8, ((y - stepMid s).natAbs : Int) ≤ s.pI 0xC003) ∧
    s.time.stepDue = none ∧ s.time.selDue = none

/-- The offset of the other domain agrees with the median. -/
def StepNear (s : State) : Prop :=
  ∃ y, (s.dom (1 - s.time.inUse)).theta = some y ∧ ((y - stepMid s).natAbs : Int) ≤ s.pI 0xC003

section
variable {s : State}

/-- What TIME_STEP looks for before it does nothing. -/
theorem not_stepReady_iff : ¬ StepReady s ↔
    (s.dom s.time.inUse).offs.length < 8 ∨ (s.dom s.time.inUse).ovr < 8 ∨
      ((s.dom s.time.inUse).offs.take 8).any (fun x => decide (s.pI 0xC003 < (x - stepMid s).natAbs)) = true ∨
      s.time.stepDue.isSome = true ∨ s.time.selDue.isSome = true := by
  simp only [StepReady, Classical.not_and_iff_not_or_not, Nat.not_le, Classical.not_forall, Int.not_le,
    List.any_eq_true, decide_eq_true_eq, Option.isSome_iff_ne_none, ne_eq, exists_prop]

theorem timeStep_idle (h : ¬ StepReady s) : timeStep s = s := if_pos (not_stepReady_iff.mp h)

section
variable (h : StepReady s)
include h

theorem timeStep_due (hdue : ((s.dom (1 - s.time.inUse)).valid = true ∧ StepNear s) ∨
    ((s.dom (1 - s.time.inUse)).valid = false ∧ s.p 0xC004 = 1)) :
    timeStep s = { s with time := { s.time with stepDue := some (stepMid s) } } := by
  refine (if_neg fun hno => not_stepReady_iff.mpr hno h).trans ?_
  obtain ⟨hvalid, y, hy, hnear⟩ | ⟨hno, hallowed⟩ := hdue
  · refine (if_pos hvalid).trans ?_
    rw [hy]
    exact if_pos hnear
  · exact (if_neg (Bool.eq_false_iff.mp hno)).trans (if_pos hallowed)

theorem timeStep_selects (hvalid : (s.dom (1 - s.time.inUse)).valid = true) (hfar : ¬ StepNear s) :
    timeStep s = { s with time := { s.time with selDue := some (1 - s.time.inUse) } } := by
  refine (if_neg fun hno => not_stepReady_iff.mpr hno h).trans ((if_pos hvalid).trans ?_)
  cases hy : (s.dom (1 - s.time.inUse)).theta with
  | none => rfl
  | some y => exact if_neg fun hle => hfar ⟨y, hy, hle⟩

theorem timeStep_holds (hno : (s.dom (1 - s.time.inUse)).valid = false) (hforbidden : s.p 0xC004 ≠ 1) :
    timeStep s = raiseIf s.time.held.isNone 0x0C s.time.inUse 2 0
      { s with time := { s.time with held := some (stepMid s), slew := 0 } } :=
  (if_neg fun hno => not_stepReady_iff.mpr hno h).trans
    ((if_neg (Bool.eq_false_iff.mp hno)).trans (if_neg hforbidden))

/-- A step that is not allowed is held, and reported the first time. -/
theorem timeStep_reports (hno : (s.dom (1 - s.time.inUse)).valid = false) (hforbidden : s.p 0xC004 ≠ 1) :
    Does .timeStep s (fun t =>
      engines t = { engines s with time := { s.time with held := some (stepMid s), slew := 0 } } ∧
      (s.time.held = none → Reported 0x0C s.time.inUse 2 s t)) :=
  does_effect (timeStep_holds (s := { s with out := [] }) h hno hforbidden)
    ⟨(settle_eng _).trans (raiseIf_eng ..),
      fun hheld => (raiseIf_reported (Option.isNone_iff_eq_none.mpr hheld) ..).settled rfl⟩

end

end

/-! ### What a Sync leaves in its domain (R345) -/

/-- The time block and a report at most, and the domains as they are. -/
def DomsStay (s t : State) : Prop := TimeForm s t ∧ t.time.doms = s.time.doms

theorem DomsStay.refl (s : State) : DomsStay s s := ⟨TimeForm.refl s, rfl⟩

theorem raiseIf_domsStay {m : Tim} (c : Bool) (blk inst kind detail : Nat) (s : State) (hm : m.doms = s.time.doms) :
    DomsStay s (raiseIf c blk inst kind detail { s with time := m }) :=
  ⟨TimeForm.trans ⟨_, _, _, rfl⟩ (raiseIf_timeForm ..), (congrArg Tim.doms (raiseIf_time ..)).trans hm⟩

theorem timeStep_domsStay (s : State) : DomsStay s (timeStep s) := by
  by_cases hready : StepReady s
  case neg => exact (timeStep_idle hready).symm ▸ DomsStay.refl s
  cases hvalid : (s.dom (1 - s.time.inUse)).valid with
  | true =>
    by_cases hnear : StepNear s
    · exact timeStep_due hready (.inl ⟨hvalid, hnear⟩) ▸ ⟨⟨_, _, _, rfl⟩, rfl⟩
    · exact timeStep_selects hready hvalid hnear ▸ ⟨⟨_, _, _, rfl⟩, rfl⟩
  | false =>
    by_cases hallowed : s.p 0xC004 = 1
    · exact timeStep_due hready (.inr ⟨hvalid, hallowed⟩) ▸ ⟨⟨_, _, _, rfl⟩, rfl⟩
    · exact timeStep_holds hready hvalid hallowed ▸ raiseIf_domsStay _ _ _ _ _ s rfl

theorem freqGoal_domsStay (u : Nat) (s : State) : DomsStay s (freqGoal u s) := by
  simp only [freqGoal]
  split
  · split
    · exact DomsStay.refl s
    · exact raiseIf_domsStay _ _ _ _ _ s rfl
  · exact DomsStay.refl s

/-- What a Sync gives a domain: its offset, its validity, and the Syncs that still wait. -/
def syncView (t : TDom) : Option Int × Bool × List (Option SyncMsg) := (t.theta, t.valid, t.pend)

/-- The time block and a report at most, and what Syncs have given domain `d`. -/
def SyncStays (d : Nat) (s t : State) : Prop := TimeForm s t ∧ syncView (t.dom d) = syncView (s.dom d)

theorem SyncStays.trans {d : Nat} {a b c : State} (h1 : SyncStays d a b) (h2 : SyncStays d b c) : SyncStays d a c :=
  ⟨h1.1.trans h2.1, h2.2.trans h1.2⟩

theorem DomsStay.sync {s t : State} (h : DomsStay s t) (d : Nat) : SyncStays d s t :=
  ⟨h.1, congrArg syncView (dom_of_doms h.2 d)⟩

section
variable {d : Nat} {s : State}

theorem modDom_syncStays {f : TDom → TDom} {m : Tim} (hm : m.doms = s.time.doms) (hd : d < s.time.doms.length)
    (hf : ∀ t, syncView (f t) = syncView t) : SyncStays d s (State.modDom d f { s with time := m }) := by
  have hdom : State.dom { s with time := m } d = s.dom d := dom_of_doms hm d
  refine ⟨⟨_, _, _, rfl⟩, ?_⟩
  rw [dom_modDom_self (hm.symm ▸ hd), hf, hdom]

theorem phaseGoal_syncStays (theta : Int) (hd : d < s.time.doms.length) : SyncStays d s (phaseGoal d theta s) := by
  simp only [phaseGoal]
  split
  · refine SyncStays.trans ?_ ((timeStep_domsStay _).sync d)
    exact modDom_syncStays rfl hd fun _ => rfl
  · exact modDom_syncStays rfl hd fun _ => rfl

/-- A domain that has taken the offset of a Sync, before its servo is steered. -/
def syncTaken (d : Nat) (t1 t2g pd : Int) (s : State) : State :=
  validity s (s.modDom d (fun t => { t with
    theta := some (t1 + pd - (t2g + s.time.delta)), valid := true, syncs := ((t1, t2g.toNat) :: t.syncs).take 65 }))

section
variable (t1 t2g pd : Int)

theorem syncTaken_view (hd : d < s.time.doms.length) : syncView ((syncTaken d t1 t2g pd s).dom d) =
    (some (t1 + pd - (t2g + s.time.delta)), true, (s.dom d).pend) :=
  congrArg syncView ((validity_dom ..).trans (dom_modDom_self hd))

theorem syncTaken_timeForm : TimeForm s (syncTaken d t1 t2g pd s) :=
  (modDom_timeForm ..).trans (validity_timeForm ..)

theorem syncTaken_length : (syncTaken d t1 t2g pd s).time.doms.length = s.time.doms.length :=
  (congrArg List.length (validity_doms ..)).trans modDom_length

/-- The servo is steered from what the Sync has given. -/
theorem syncDone_steers (hd : d < s.time.doms.length) (hpd : meanPd s (s.dom d).port = some pd) :
    SyncStays d (syncTaken d t1 t2g pd s) (syncDone d t1 t2g s) := by
  have hlen : d < (syncTaken d t1 t2g pd s).time.doms.length := (syncTaken_length ..).symm ▸ hd
  unfold syncDone
  rw [hpd]
  change SyncStays d _ (if (syncTaken d t1 t2g pd s).time.inUse = d then _ else _)
  split
  · have hfreq := freqGoal_domsStay d (syncTaken d t1 t2g pd s)
    exact (hfreq.sync d).trans (phaseGoal_syncStays _ (hfreq.2.symm ▸ hlen))
  · exact modDom_syncStays rfl hlen fun _ => rfl

/-- A command that completes a Sync gives the domain its offset and validity. -/
theorem syncDone_does {c : Instr} {x : State} (he : effect c { s with out := [] } = syncDone d t1 t2g x)
    (hx : TimeForm { s with out := [] } x) (hd : d < x.time.doms.length) (hpd : meanPd x (x.dom d).port = some pd) :
    Does c s (fun t => engines t = { engines s with time := t.time } ∧
      (t.dom d).theta = some (t1 + pd - (t2g + x.time.delta)) ∧ (t.dom d).valid = true ∧
      (t.dom d).pend = (x.dom d).pend) := by
  obtain ⟨hform, hview⟩ := syncDone_steers t1 t2g pd hd hpd
  obtain ⟨htheta, hrest⟩ := Prod.mk.inj (hview.trans (syncTaken_view t1 t2g pd hd))
  obtain ⟨hvalid, hpend⟩ := Prod.mk.inj hrest
  exact time_does he (hx.trans ((syncTaken_timeForm ..).trans hform)) ⟨htheta, hvalid, hpend⟩

end

/-! ### PTP_SYNC and PTP_FOLLOW_UP (R343, R345) -/

section
variable {m : SyncMsg} (hdoms : domsOf s m.domain = [d]) (hport : (s.dom d).port = m.port)
include hdoms hport

theorem ptpSync_accepted {y : MasterDs} (hup : (s.port m.port).up = true) (hlow : -4 ≤ m.logInt) (hhigh : m.logInt ≤ 0)
    (hmaster : (s.dom d).master.getD m.port none = some y) : ptpSync m s =
      if m.twoStep then s.modDom d (fun x => { x with pend := x.pend.set m.port (some m) })
      else syncDone d (m.origin + m.corr) (ingress s m.port m.rawG16) s := by
  have hfits : ¬ ((s.port m.port).up = false ∨ m.logInt < -4 ∨ 0 < m.logInt) := by
    rintro (h | h | h)
    · exact Bool.false_ne_true (h.symm.trans hup)
    · exact Int.not_lt.mpr hlow h
    · exact Int.not_lt.mpr hhigh h
  have hknown : ¬ ((s.dom d).port ≠ m.port ∨ ((s.dom d).master.getD m.port none).isNone = true) := by
    rw [hmaster]
    exact not_or.mpr ⟨not_not_intro hport, Bool.false_ne_true⟩
  rw [ptpSync, if_neg hfits, hdoms]
  exact if_neg hknown

theorem ptpFollowUp_matching {y : SyncMsg} (hpend : (s.dom d).pend.getD m.port none = some y)
    (hseq : y.seqId = m.seqId) : ptpFollowUp m s =
      syncDone d (m.origin + y.corr + m.corr) (ingress s m.port y.rawG16)
        (s.modDom d (fun x => { x with pend := x.pend.set m.port none })) := by
  unfold ptpFollowUp
  rw [hdoms, List.foldl_cons, List.foldl_nil, hpend]
  exact if_pos ⟨hseq, hport⟩

variable (hd : d < s.time.doms.length)
include hd

/-- A two-step Sync waits for its Follow_Up. -/
theorem sync_waits {y : MasterDs} (hup : (s.port m.port).up = true) (hlow : -4 ≤ m.logInt) (hhigh : m.logInt ≤ 0)
    (hmaster : (s.dom d).master.getD m.port none = some y) (htwo : m.twoStep = true) :
    Does (.ptpSync m) s (fun t => engines t = { engines s with time := t.time } ∧
        t.dom d = { s.dom d with pend := (s.dom d).pend.set m.port (some m) }) :=
  time_does ((ptpSync_accepted (s := { s with out := [] }) hdoms hport hup hlow hhigh hmaster).trans (if_pos htwo))
    (modDom_timeForm ..) (dom_modDom_self hd)

/-- A one-step Sync gives its domain the offset at once. -/
theorem sync_measures {y : MasterDs} {pd : Int} (hup : (s.port m.port).up = true) (hlow : -4 ≤ m.logInt)
    (hhigh : m.logInt ≤ 0) (hmaster : (s.dom d).master.getD m.port none = some y) (hone : m.twoStep = false)
    (hpd : meanPd s m.port = some pd) : Does (.ptpSync m) s (fun t => engines t = { engines s with time := t.time } ∧
      (t.dom d).theta = some (m.origin + m.corr + pd - (ingress s m.port m.rawG16 + s.time.delta)) ∧
      (t.dom d).valid = true) := by
  have hsync := (ptpSync_accepted (s := { s with out := [] }) hdoms hport hup hlow hhigh hmaster).trans
    (if_neg (Bool.eq_false_iff.mp hone))
  exact (syncDone_does (c := .ptpSync m) (s := s) _ _ pd hsync (TimeForm.refl _) hd (hport ▸ hpd)).imp
    fun _ ⟨heng, htheta, hvalid, _⟩ => ⟨heng, htheta, hvalid⟩

/-- The Follow_Up of a Sync that waits gives its domain the offset. -/
theorem followUp_measures {y : SyncMsg} {pd : Int} (hpend : (s.dom d).pend.getD m.port none = some y)
    (hseq : y.seqId = m.seqId) (hpd : meanPd s m.port = some pd) : Does (.ptpFollowUp m) s (fun t =>
      engines t = { engines s with time := t.time } ∧
      (t.dom d).theta = some (m.origin + y.corr + m.corr + pd - (ingress s m.port y.rawG16 + s.time.delta)) ∧
      (t.dom d).valid = true ∧ (t.dom d).pend = (s.dom d).pend.set m.port none) := by
  have hself := dom_modDom_self (s := { s with out := [] }) (d := d)
    (f := fun x => { x with pend := x.pend.set m.port none }) hd
  have hsync := ptpFollowUp_matching (s := { s with out := [] }) hdoms hport hpend hseq
  refine (syncDone_does (c := .ptpFollowUp m) (s := s) _ _ pd hsync (modDom_timeForm ..) (modDom_length.symm ▸ hd)
    ?_).imp fun _ ⟨heng, htheta, hvalid, hkept⟩ => ⟨heng, htheta, hvalid, hkept.trans (congrArg TDom.pend hself)⟩
  rw [hself]
  exact hport ▸ hpd

end

end

/-- Settles O52: each message acts on the ports or the domains it names, and steers the servo by what it measures. -/
theorem networkTimeFollowsItsMasters : Obligations.NetworkTimeFollowsItsMasters := by
  intro s port domain
  refine ⟨fun up => does_effect rfl (settle_eng _), ?_, fun seqId raw => ⟨fun hport hup => ?_, fun hdown => ?_⟩,
    fun m hport => ⟨fun hup hle => ?_, pdelayResp_reports hport, fun hdown => ?_⟩,
    fun ds => ⟨fun hdown => ?_, fun hup => ?_⟩, ?_, fun d hd hlen => syncLoss_loses hd hlen,
    fun m d hdoms hd hport => ⟨fun y hup hlow hhigh hmaster => ⟨?_, fun pd hone hpd => ?_⟩,
      fun y pd hpend hseq hpd => ?_⟩,
    fun hready hdue => ?_, fun hready hvalid hfar => ?_, timeStep_reports, fun hidle => ?_⟩
  · exact does_effect (pdelayReqTimer_sends { s with out := [] }) ⟨settle_eng _, rfl⟩
  · exact does_effect (ptpPdelayReq_up (s := { s with out := [] }) seqId raw hport hup) ⟨settle_eng _, rfl⟩
  · exact does_effect (ptpPdelayReq_down (s := { s with out := [] }) seqId raw hdown) ⟨settle_eng _, rfl⟩
  · exact does_effect (ptpPdelayResp_within (s := { s with out := [] }) hport hup hle) (settle_eng _)
  · exact does_effect (ptpPdelayResp_down (s := { s with out := [] }) hdown) (settle_eng _)
  · exact does_effect (ptpAnnounce_down (s := { s with out := [] }) hdown) (settle_eng _)
  · refine (announce_masters hup).imp fun t ⟨heng, hheard⟩ => ⟨heng, fun d hmem hd _ => ?_⟩
    rw [hheard d hmem hd]
    exact ⟨hearAnnounce_better, fun m hm hid hworse => congrArg TDom.master (hearAnnounce_worse hm hid hworse)⟩
  · refine announceTimeout_masters.imp fun t ⟨heng, hlost⟩ => ⟨heng, fun d hmem hd => ?_⟩
    rw [hlost d hmem hd]
    exact tdomSettle_master _
  · exact sync_waits hdoms hport hd hup hlow hhigh hmaster
  · exact sync_measures hdoms hport hd hup hlow hhigh hmaster hone hpd
  · exact followUp_measures hdoms hport hd hpend hseq hpd
  · exact does_effect (timeStep_due (s := { s with out := [] }) hready hdue) (settle_eng _)
  · exact does_effect (timeStep_selects (s := { s with out := [] }) hready hvalid hfar) (settle_eng _)
  · exact does_effect (timeStep_idle (s := { s with out := [] }) hidle) (settle_eng _)

end Sys2Proof

/-! Timed outputs and the PLL: pulses and their ends, lock and its loss, and the time-out of SYNC_IN. -/

namespace Sys2Proof

open Sys2Proof.Machine

/-! ### TOUT_FIRE and TOUT_PULSE_END (R351, R353, R354) -/

/-- An armed output after the rising edge that its target and the rules of R354 give it. -/
def firedOut (s : State) (o : TOut) : TOut :=
  let r := toutRise s o
  let late := r.2 || o.lateNext
  { o with
    armed := decide (o.mode = 2)
    mode := if o.mode = 2 then 2 else 0
    target := if o.mode ≠ 2 then o.target else if o.ptp then (o.target + o.period) % 2 ^ 32 else o.target + o.period
    fired := decide (o.mode ≠ 2)
    late := late
    pulses := satAdd 16 o.pulses 1
    lates := satAdd 8 o.lates (if late then 1 else 0)
    last := scaleTime s o.ptp r.1 % 2 ^ 32
    ends := some (r.1 + o.width)
    idleAt := o.ends.getD o.idleAt
    lateNext := false
    first := 0 }

section
variable {i : Nat} {o : TOut} {s : State}

theorem toutFire_armed (ho : s.tout[i]? = some o) (hi : i < 8) (harmed : o.armed = true) (hdue : o.due = none) :
    toutFire i s = raiseIf (firedOut s o).late 0x0C i 7 0 { s with tout := s.tout.set i (firedOut s o) } := by
  have hget : s.tout.getD i TOut.reset = o := by rw [List.getD_eq_getElem?_getD, ho, Option.getD_some]
  unfold toutFire firedOut
  rw [hget]
  refine (if_pos ⟨hi, harmed⟩).trans ?_
  by_cases hmode : o.mode = 2 <;> cases o.ends <;> simp [hmode, hdue, b2n]

theorem toutFire_idle (hno : ∀ o, s.tout[i]? = some o → o.armed = false) : toutFire i s = s := by
  refine if_neg fun h => ?_
  have harmed : (s.tout.getD i TOut.reset).armed = true := h.2
  rw [List.getD_eq_getElem?_getD] at harmed
  cases hi : s.tout[i]? with
  | none => rw [hi] at harmed; exact Bool.false_ne_true harmed
  | some o => rw [hi] at harmed; exact Bool.false_ne_true ((hno o hi).symm.trans harmed)

/-- An armed output fires, and a late pulse is reported. -/
theorem toutFire_fires (ho : s.tout[i]? = some o) (hi : i < 8) (harmed : o.armed = true) (hdue : o.due = none) :
    Does (.toutFire i) s (fun t => engines t = { engines s with tout := s.tout.set i (firedOut s o) } ∧
      ((firedOut s o).late = true → Reported 0x0C i 7 s t)) :=
  does_effect (toutFire_armed (s := { s with out := [] }) ho hi harmed hdue)
    ⟨(settle_eng _).trans (raiseIf_eng ..), fun hlate => (raiseIf_reported hlate ..).settled rfl⟩

theorem toutPulseEnd_ends {e : Nat} (ho : s.tout[i]? = some o) (he : o.ends = some e) :
    toutPulseEnd i s = { s with tout := s.tout.set i { o with ends := none, idleAt := e } } := by
  simp only [toutPulseEnd, modAt_eq_set _ ho, he]

theorem toutPulseEnd_idle (hno : ∀ o, s.tout[i]? = some o → o.ends = none) : toutPulseEnd i s = s := by
  have hfixed : (toutPulseEnd i s).tout = s.tout := modAt_fixed fun o ho => by simp only [hno o ho]
  exact congrArg (fun l => { s with tout := l }) hfixed

end

/-! ### PLL_LOCK and SYNC_IN_TIMEOUT (R358, R362) -/

section
variable {s : State}

theorem pllLock_locks (band us : Nat) (hlock : s.pll.lock = false) (hon : tb s.pwr.on 10 = true) :
    pllLock band us s = { s with pll := { s.pll with
      lock := true, band := band % 64, lockUs := min us 0xFFFF, locks := satAdd 16 s.pll.locks 1, outs := 0x1F } } :=
  if_pos ⟨hlock, hon⟩

theorem pllLock_idle (band us : Nat) (h : s.pll.lock = true ∨ tb s.pwr.on 10 = false) : pllLock band us s = s := by
  refine if_neg fun ⟨hlock, hon⟩ => ?_
  obtain h | h := h
  · exact Bool.false_ne_true (hlock.symm.trans h)
  · exact Bool.false_ne_true (h.symm.trans hon)

theorem syncInTimeout_armed (harmed : s.pll.armed = true) : syncInTimeout s =
    raise 0x0D 0 1 0 { s with pll := { s.pll with armed := false, syncMiss := true } } := if_pos harmed

theorem syncInTimeout_idle (hno : s.pll.armed = false) : syncInTimeout s = s := if_neg (Bool.eq_false_iff.mp hno)

/-! ### PLL_UNLOCK (R363, R422) -/

theorem fltCore_lines (m : FMsg) (fr : Nat) (s : State) : (fltCore m fr s).1.flt.lines = s.flt.lines := by
  have hrecord : (fltRecord m fr s.flt).lines = s.flt.lines := by
    simp only [fltRecord]
    (repeat' split) <;> rfl
  exact hrecord

theorem evrPush_lines (tr : Trig) (s : State) : (evrPush tr s).flt.lines = s.flt.lines := by
  simp only [evrPush]
  (repeat' split) <;> simp only [fltCore_lines]

/-- A fault message leaves the fatal lines. -/
theorem fltTake_lines (m : FMsg) (fr : Nat) (s : State) : (fltTake m fr s).flt.lines = s.flt.lines := by
  simp only [fltTake]
  split
  · exact (evrPush_lines ..).trans (fltCore_lines ..)
  · exact fltCore_lines ..

/-- The collector with line `l` asserted by its block's part `inst`, as the message of the line finds it. -/
def lineAsserted (l inst : Nat) (s : State) : State :=
  { s with flt := { s.flt with
    lines := setB s.flt.lines l true
    asserted := setB s.flt.asserted l true
    lastKind := (lineKind l).2
    fatalSrc := if s.flt.lines = 0 then (lineKind l).1 * 32 + inst else s.flt.fatalSrc
    fatalKind := if s.flt.lines = 0 then (lineKind l).2 else s.flt.fatalKind } }

/-- Line 0 darkens the device at once, with or without a partner. -/
theorem fatalLine_clock (inst detail : Nat) (hreset : s.pwr.inReset = false) : fatalLine 0 inst detail s =
    goDark (raiseSev 0x0D inst 2 3 detail (lineAsserted 0 inst s)) :=
  (if_neg (Bool.eq_false_iff.mp hreset)).trans (if_pos (.inl rfl))

/-- The device without its clock: the PLL has no lock and no outputs, and the frame engine stands. -/
def clockLost (s : State) : State :=
  { s with
    pll := { s.pll with lock := false, outs := 0, unlocks := satAdd 16 s.pll.unlocks 1 }
    frm := { s.frm with run := false, armed := false } }

theorem pllUnlock_locked (hlock : s.pll.lock = true) : pllUnlock s = fatalLine 0 0 0 (clockLost s) := if_pos hlock

theorem pllUnlock_idle (hlock : s.pll.lock = false) : pllUnlock s = s := if_neg (Bool.eq_false_iff.mp hlock)

theorem goDark_eng (x : State) :
    engines (goDark x) = { engines x with pwr := { x.pwr with dark := true, darkNext := false } } := rfl

/-- The loss of the clock asserts line 0 with its message, and the device goes dark. -/
theorem pllUnlock_darkens (hlock : s.pll.lock = true) (hreset : s.pwr.inReset = false) :
    Does .pllUnlock s (fun t =>
      engines t = { engines (clockLost s) with pwr := { s.pwr with dark := true, darkNext := false } } ∧
      tb t.flt.lines 0 = true ∧ isActive t 0x0D 0 2 = true) := by
  have heng := raiseSev_eng 0x0D 0 2 3 0 (lineAsserted 0 0 (clockLost { s with out := [] }))
  have hactive := (raiseSev_reported 0x0D 0 2 3 0 (lineAsserted 0 0 (clockLost { s with out := [] }))).2 (by decide)
  have hlines := fltTake_lines ⟨0x0D, 0, 2, 3, 0, s.frm.count % 4096⟩ s.frm.count
    (lineAsserted 0 0 (clockLost { s with out := [] }))
  have hpwr := congrArg Engines.pwr heng
  refine does_effect ((pllUnlock_locked (s := { s with out := [] }) hlock).trans (fatalLine_clock 0 0 hreset))
    ⟨?_, ?_, hactive⟩
  · rw [settle_eng, goDark_eng, heng]
    exact congrArg (fun p : Pwr =>
      { engines (clockLost s) with pwr := { p with dark := true, darkNext := false } }) hpwr
  · exact (congrArg (tb · 0) hlines).trans ((tb_setB ..).trans (Bool.or_true _))

end

/-- Settles O53: each command has its effect where its condition stands, and is quiet where it does not. -/
theorem outputsPulseAndThePllLocks : Obligations.OutputsPulseAndThePllLocks := by
  intro s i band us
  refine ⟨fun o ho hi harmed hdue => toutFire_fires ho hi harmed hdue, fun hno => ?_, fun o e ho he => ?_,
    fun hno => ?_, fun hlock hon => ?_, fun h => ?_, fun harmed => ?_, fun hno => ?_, pllUnlock_darkens,
    fun hlock => ?_⟩
  · exact does_effect (toutFire_idle (s := { s with out := [] }) hno) (settle_eng _)
  · exact does_effect (toutPulseEnd_ends (s := { s with out := [] }) ho he) (settle_eng _)
  · exact does_effect (toutPulseEnd_idle (s := { s with out := [] }) hno) (settle_eng _)
  · exact does_effect (pllLock_locks (s := { s with out := [] }) band us hlock hon) (settle_eng _)
  · exact does_effect (pllLock_idle (s := { s with out := [] }) band us h) (settle_eng _)
  · exact raise_does (syncInTimeout_armed (s := { s with out := [] }) harmed) rfl rfl
  · exact does_effect (syncInTimeout_idle (s := { s with out := [] }) hno) (settle_eng _)
  · exact does_effect (pllUnlock_idle (s := { s with out := [] }) hlock) (settle_eng _)

end Sys2Proof

/-! The queue of waiting commands. -/

namespace Sys2Proof

open Sys2Proof.Machine

/-- Every command is made of operations that each keep the queue of waiting commands. -/
theorem effect_keeps_pending (c : Instr) (s : State) : (keep (effect c s)).pending = (keep s).pending := by
  cases c with
  | _ => simp [effect]

/-- Settles O5: neither the effect of a command nor the pins that follow it touch the queue. -/
theorem commandsLeaveTheQueue : Obligations.CommandsLeaveTheQueue := by
  intro c s t h
  exact (congrArg Kept.pending (keep_of_exec h)).trans (effect_keeps_pending c { s with out := [] })

end Sys2Proof

/-! The port and the sessions: resets and losses of the link, opens and their errors, replies to their rings. -/

namespace Sys2Proof

open Sys2Proof.Machine

/-! ### What an open leaves in its ring pair (R370–R372) -/

/-- A ring pair whose open has failed: closed, with the error in its register (R371). -/
def openFailed (err : Nat) (p : RPair) : RPair := { p with open_ := false, replies := [], openErr := err }

/-- A ring pair that a descriptor resumes: open with its indices at 0, NEXT and the window kept (R372). -/
def resumed (o : OpenReq) (p : RPair) : RPair :=
  { p with
    open_ := true, gen := o.gen, vector := o.vector, openErr := 0, cmdBase := o.cmdBase, rplBase := o.rplBase,
    cmdUnits := o.cmdUnits, rplEnts := o.rplEnts, cmdProd := 0, cmdCons := 0, rplProd := 0, rplCons := 0,
    replies := [] }

theorem openFail_eq (k err : Nat) (s : State) : openFail k err s =
    { s with hif := { s.hif with pairs := s.hif.pairs.modify k (openFailed err) } } := by
  simp only [openFail, closePair, State.modPair, modAt, List.modify_modify_eq]
  rfl

theorem openPair_resumes {o : OpenReq} (hresume : o.fresh = none) (s : State) : openPair o (closePair o.pair s) =
    { s with hif := { s.hif with openReq := none, pairs := s.hif.pairs.modify o.pair (resumed o) } } := by
  simp only [openPair, closePair, State.modPair, modAt, List.modify_modify_eq, hresume]
  rfl

/-! ### The checks of a descriptor, in their order (R371) -/

/-- The descriptor is whole: its length, its checksum, its reserved bytes. -/
def descSound (b : List Byte) : Bool :=
  decide (b.length = 64) && decide (crc32c (b.take 60) = fld b 60 4) && decide (fld b 32 28 = 0)

/-- The descriptor asks for a fresh start of a pair with commands in flight. -/
def descBusy (b : List Byte) (s : State) : Bool :=
  decide (fld b 27 1 = 1) && s.hif.fly.any (fun f => f.pair == fld b 24 1)

/-- The request that a descriptor for a resume spells. -/
def resumeReq (b : List Byte) : OpenReq :=
  { pair := fld b 24 1, gen := fld b 25 1, vector := fld b 26 1, fresh := none, cmdBase := fld b 0 8,
    rplBase := fld b 8 8, cmdUnits := fld b 16 4, rplEnts := fld b 20 4, jseq := 0 }

section
variable {addr : Nat} {b : List Byte} {s : State}

theorem descSound_iff : descSound b = true ↔
    ¬ (crc32c (b.take 60) ≠ fld b 60 4 ∨ fld b 32 28 ≠ 0 ∨ b.length ≠ 64) := by
  simp only [descSound, Bool.and_eq_true, decide_eq_true_eq]
  tauto

theorem openCheck_unsound (hbad : descSound b = false) : openCheck addr b s = openFail (fld b 24 1) 1 s :=
  if_pos (not_not.mp fun h => Bool.eq_false_iff.mp hbad (descSound_iff.mpr h))

theorem openCheck_sound (hsound : descSound b = true) : openCheck addr b s =
    if descOk addr b = false then openFail (fld b 24 1) 2 s
    else if fld b 27 1 = 1 ∧ s.hif.fly.any (fun f => f.pair == fld b 24 1) = true then openFail (fld b 24 1) 3 s
    else openStart { resumeReq b with fresh := if fld b 27 1 = 1 then some (fld b 28 4) else none }
      (closePair (fld b 24 1) s) := if_neg (descSound_iff.mp hsound)

theorem openCheck_range (hsound : descSound b = true) (hbad : descOk addr b = false) :
    openCheck addr b s = openFail (fld b 24 1) 2 s := (openCheck_sound hsound).trans (if_pos hbad)

theorem openCheck_busy (hsound : descSound b = true) (hok : descOk addr b = true) (hbusy : descBusy b s = true) :
    openCheck addr b s = openFail (fld b 24 1) 3 s := by
  rw [openCheck_sound hsound, if_neg (Bool.not_eq_false _ ▸ hok), if_pos]
  simpa only [descBusy, Bool.and_eq_true, decide_eq_true_eq] using hbusy

theorem openCheck_resume (hsound : descSound b = true) (hok : descOk addr b = true) (hresume : fld b 27 1 = 0) :
    openCheck addr b s = openPair (resumeReq b) (closePair (fld b 24 1) s) := by
  have hold : fld b 27 1 ≠ 1 := by omega
  rw [openCheck_sound hsound, if_neg (Bool.not_eq_false _ ▸ hok), if_neg fun h => hold h.1, if_neg hold]
  rfl

end

/-! ### SESSION_OPEN_COMPLETE (R370–R372, R485) -/

section
variable {addr : Nat} {b : List Byte} {s : State}

/-- The host interface once the started open is taken up and has left its pair as `f` gives it. -/
def openEnded (k : Nat) (f : RPair → RPair) (h : Hif) : Hif :=
  { h with opening := none, pairs := h.pairs.modify k f }

theorem sessionOpenComplete_waits (desc : Option (List Byte)) (hst : s.st = .off ∨ s.st = .starting) :
    sessionOpenComplete desc s = s := by
  unfold sessionOpenComplete
  split
  · rfl
  · exact if_pos hst

variable (hopening : s.hif.opening = some addr) (hoff : s.st ≠ .off) (hup : s.st ≠ .starting)
include hopening hoff hup

theorem sessionOpenComplete_taken (desc : Option (List Byte)) : sessionOpenComplete desc s =
    match desc with
    | some b => openCheck addr b { s with hif := { s.hif with opening := none } }
    | none => openFail (s.freeV % 4) 4 { s.draw with hif := { s.hif with opening := none } } := by
  unfold sessionOpenComplete
  rw [hopening]
  exact if_neg (not_or.mpr ⟨hoff, hup⟩)

end

section
variable {addr : Nat} {b : List Byte} {s : State} (hheld : s.hif.held = [])
include hheld

/-- An open that fails leaves its pair closed with the error, and nothing else. -/
theorem open_fails {desc : Option (List Byte)} {x : State} {k err : Nat}
    (hx : sessionOpenComplete desc { s with out := [] } = openFail k err x) (heng : engines x = engines s)
    (hhif : x.hif = { s.hif with opening := none }) : Does (.sessionOpenComplete desc) s (fun t =>
      engines t = engines s ∧ t.hif = openEnded k (openFailed err) s.hif) := by
  refine does_waking rfl (hx.trans (openFail_eq k err x)) ?_ ⟨heng, ?_⟩
  · rw [hhif]
    exact hheld
  · rw [settle_hif, hhif]
    rfl

theorem open_waits (desc : Option (List Byte)) (hst : s.st = .off ∨ s.st = .starting) :
    Does (.sessionOpenComplete desc) s (fun t => engines t = engines s ∧ t.hif = s.hif) :=
  does_waking rfl (sessionOpenComplete_waits (s := { s with out := [] }) desc hst) hheld ⟨rfl, rfl⟩

variable (hopening : s.hif.opening = some addr) (hoff : s.st ≠ .off) (hup : s.st ≠ .starting)
include hopening hoff hup

/-- A descriptor that could not be read fails the open of some pair (log 2). -/
theorem open_unread : Does (.sessionOpenComplete none) s (fun t => ∃ k, k < 4 ∧
    engines t = engines s ∧ t.hif = openEnded k (openFailed 4) s.hif) :=
  (open_fails hheld (sessionOpenComplete_taken (s := { s with out := [] }) hopening hoff hup none) rfl rfl).imp
    fun _ hfails => ⟨_, Nat.mod_lt _ (by decide), hfails⟩

/-- A descriptor whose check fails fails the open of its pair. -/
theorem open_refused {k err : Nat}
    (hcheck : ∀ x : State, x.hif.fly = s.hif.fly → openCheck addr b x = openFail k err x) :
    Does (.sessionOpenComplete (some b)) s (fun t =>
      engines t = engines s ∧ t.hif = openEnded k (openFailed err) s.hif) :=
  open_fails hheld ((sessionOpenComplete_taken (s := { s with out := [] }) hopening hoff hup (some b)).trans
    (hcheck _ rfl)) rfl rfl

theorem open_resumes (hsound : descSound b = true) (hok : descOk addr b = true) (hresume : fld b 27 1 = 0) :
    Does (.sessionOpenComplete (some b)) s (fun t => engines t = engines s ∧
      t.hif = { openEnded (fld b 24 1) (resumed (resumeReq b)) s.hif with openReq := none }) :=
  does_waking rfl ((sessionOpenComplete_taken (s := { s with out := [] }) hopening hoff hup (some b)).trans
    ((openCheck_resume hsound hok hresume).trans (openPair_resumes rfl _))) hheld ⟨rfl, rfl⟩

end

/-! ### HOST_PORT_RESET (R368) -/

/-- A ring pair that is closed: no reply is owed to its ring (R371, R373). -/
def pairClosed (p : RPair) : RPair := { p with open_ := false, replies := [] }

theorem hostPortReset_closes (s : State) : Does .hostPortReset s (fun t => engines t = engines s ∧
    t.hif.downs = satAdd 16 s.hif.downs 1 ∧ t.hif.linkUp = false ∧ t.hif.fly = s.hif.fly ∧
    t.hif.pairs = s.hif.pairs.map pairClosed) :=
  does_effect rfl ⟨rfl, rfl, rfl, rfl, rfl⟩

/-! ### REPLY_WRITE (R376, R378) -/

theorem pairs_getD {l : List RPair} {k : Nat} {p : RPair} (hp : l[k]? = some p) : l.getD k RPair.reset = p := by
  rw [List.getD_eq_getElem?_getD, hp]
  rfl

/-- A ring pair whose oldest reply is written to its ring. -/
def replied (more : List Reply) (p : RPair) : RPair :=
  { p with replies := more, rplProd := (p.rplProd + 1) % 2 ^ 16 }

section
variable {s : State} {k : Nat} {p : RPair} {r : Reply} {more : List Reply} (hp : s.hif.pairs[k]? = some p)
  (hreplies : p.replies = r :: more)
include hp hreplies

theorem replyWrite_due : replyWrite k s =
    if p.open_ ∧ k < 4 ∧ idxDist p.rplCons p.rplProd < p.rplEnts then
      ((s.modPair k (replied more)).emit
        (.host (p.rplBase + 64 * (p.rplProd % p.rplEnts))
          (replyBytes (decide (p.rplProd / p.rplEnts % 2 = 0)) r))).emit (.msi p.vector)
    else s := by
  simp only [replyWrite, pairs_getD hp, hreplies]
  rfl

/-- The oldest reply goes to the next entry of its ring, and the vector is raised. -/
theorem reply_written (hk : k < 4) (hopen : p.open_ = true) (hroom : idxDist p.rplCons p.rplProd < p.rplEnts) :
    Does (.replyWrite k) s (fun t => engines t = engines s ∧
      t.hif = { s.hif with pairs := s.hif.pairs.set k (replied more p) } ∧
      t.out = [.host (p.rplBase + 64 * (p.rplProd % p.rplEnts))
        (replyBytes (decide (p.rplProd / p.rplEnts % 2 = 0)) r), .msi p.vector]) := by
  refine does_effect ((replyWrite_due (s := { s with out := [] }) hp hreplies).trans (if_pos ⟨hopen, hk, hroom⟩))
    ⟨rfl, ?_, rfl⟩
  rw [← modAt_eq_set (replied more) hp]
  rfl

/-- A full ring keeps its replies waiting. -/
theorem reply_kept (hfull : p.rplEnts ≤ idxDist p.rplCons p.rplProd) :
    Does (.replyWrite k) s (fun t => engines t = engines s ∧ t.hif = s.hif ∧ t.out = []) :=
  does_effect ((replyWrite_due (s := { s with out := [] }) hp hreplies).trans
    (if_neg fun h => Nat.not_lt.mpr hfull h.2.2)) ⟨rfl, rfl, rfl⟩

end

/-- Settles O46: a port event is an update of the interface, an open ends by the first check of its descriptor that
fails, and a reply is written where its ring has room. -/
theorem portEventsAndRepliesAreServed : Obligations.PortEventsAndRepliesAreServed := by
  intro s
  refine ⟨(hostPortReset_closes s).imp fun t ht => ?_, does_effect rfl ⟨rfl, rfl⟩,
    fun addr desc hopening hheld => ⟨open_waits hheld desc, fun hoff hup => ⟨fun hdesc => ?_, fun b hdesc => ?_⟩⟩,
    fun k p r more hp hk hopen hreplies =>
      ⟨reply_written hp hreplies hk hopen, reply_kept hp hreplies⟩⟩
  · obtain ⟨heng, hdowns, hlink, hfly, hpairs⟩ := ht
    rw [hpairs]
    refine ⟨heng, hdowns, hlink, hfly, List.length_map _, fun p hp => ?_, List.map_map⟩
    obtain ⟨q, -, rfl⟩ := List.mem_map.mp hp
    exact ⟨rfl, rfl⟩
  · subst hdesc
    exact open_unread hheld hopening hoff hup
  · subst hdesc
    refine ⟨fun hbad => ?_, fun hsound hbad => ?_, fun hsound hok hbusy => ?_, open_resumes hheld hopening hoff hup⟩
    · exact open_refused hheld hopening hoff hup fun x _ => openCheck_unsound hbad
    · exact open_refused hheld hopening hoff hup fun x _ => openCheck_range hsound hbad
    · refine open_refused hheld hopening hoff hup fun x hfly => openCheck_busy hsound hok ?_
      rw [descBusy, hfly]
      exact hbusy

end Sys2Proof

/-! The intake of packets: the checks in their order, the place in the sequence, the bases that a new command is
offered to. -/

namespace Sys2Proof

open Sys2Proof.Machine

/-! ### The held commands (R393) -/

@[simp] theorem refuseIntake_held (c : Ctx) (st : Nat) (data : List Byte) (s : State) :
    heldOf (refuseIntake c st data s) = heldOf s := by
  simp [refuseIntake]

@[simp] theorem outsideSeq_held (gen : Nat) (c : Ctx) (b : List Byte) (s : State) :
    heldOf (outsideSeq gen c b s) = heldOf s := by
  simp only [outsideSeq]; (repeat' split) <;> simp

@[simp] theorem answerDup_held (c : Ctx) (w : WinE) (s : State) : heldOf (answerDup c w s) = heldOf s := by
  simp only [answerDup]; (repeat' split) <;> simp

@[simp] theorem offerVolatile_held (f : Fly) (s : State) : heldOf (offerVolatile f s) = heldOf s := by
  simp [offerVolatile]

@[simp] theorem offerJournal_held (f : Fly) (s : State) : heldOf (offerJournal f s) = heldOf s := by
  simp [offerJournal]

@[simp] theorem offer_held (f : Fly) (s : State) : heldOf (offer f s) = heldOf s := by
  simp [offer]

@[simp] theorem inSequence_held (k gen t : Nat) (c : Ctx) (b : List Byte) (s : State) :
    heldOf (inSequence k gen t c b s) = heldOf s := by
  simp only [inSequence]; (repeat' split) <;> simp

@[simp] theorem packetIntake_held (k : Nat) (b : List Byte) (t : Nat) (s : State) :
    heldOf (packetIntake k b t s) = heldOf s := by
  simp [packetIntake]

@[simp] theorem mirrorTimeoutCmd_held (pair seq : Nat) (s : State) :
    heldOf (mirrorTimeoutCmd pair seq s) = heldOf s := by
  simp only [mirrorTimeoutCmd]; (repeat' split) <;> simp

/-! ### A ring pair after an operation -/

section
variable {s : State} {k : Nat} {p : RPair}

theorem repliesOf_eq (hp : s.hif.pairs[k]? = some p) : repliesOf s k = p.replies := by
  rw [repliesOf, hp]
  rfl

theorem getElem?_modAt (hp : s.hif.pairs[k]? = some p) (f : RPair → RPair) :
    (modAt s.hif.pairs k f)[k]? = some (f p) := by
  rw [modAt, List.getElem?_modify_eq, hp]
  rfl

theorem modPair_getElem? (hp : s.hif.pairs[k]? = some p) (f : RPair → RPair) :
    (s.modPair k f).hif.pairs[k]? = some (f p) := getElem?_modAt hp f

/-- Two changes of a pair that leave the same pair are one change. -/
theorem modPair_congr (hp : s.hif.pairs[k]? = some p) {f g : RPair → RPair} (hfg : f p = g p) :
    s.modPair k f = s.modPair k g := by
  rw [State.modPair, State.modPair, modAt_eq_set f hp, modAt_eq_set g hp, hfg]

theorem pushReply_getElem? {r : Reply} (hp : s.hif.pairs[r.pair]? = some p) (hopen : p.open_ = true) :
    (pushReply r s).hif.pairs[r.pair]? = some { p with replies := p.replies ++ [r] } :=
  (getElem?_modAt hp _).trans (congrArg some (if_pos hopen))

/-- A refusal at intake is due to the pair's ring and counted (R380). -/
theorem refuseIntake_getElem? {c : Ctx} {st : Nat} {data : List Byte} (hp : s.hif.pairs[c.h.pair]? = some p)
    (hopen : p.open_ = true) : (refuseIntake c st data s).hif.pairs[c.h.pair]? =
      some { p with replies := p.replies ++ [mkReply c st data], refs := satAdd 24 p.refs 1 } :=
  modPair_getElem? (k := c.h.pair) (pushReply_getElem? (r := mkReply c st data) hp hopen) _

end

/-! ### The packet of the pair whose turn it is (R375, R377, R379) -/

/-- What intake knows of a packet's command: the header fields and the opcode of its generation. -/
def pktCtx (k gen time : Nat) (b : List Byte) : Ctx :=
  { h := { pair := k, seq := fld b 0 4, tag := pktTag gen b, force := false, rsvd := false, time := time }
    op := if gen = 1 then 0x10000 + pktOp b else pktOp b }

/-- LEN is one of the generation's, within what the producer has written and within what was read. -/
def pktFits (b : List Byte) (p : RPair) : Bool :=
  lenOk p.gen (pktLen p.gen b) && decide (pktLen p.gen b ≤ 64 * idxDist p.cmdCons p.cmdProd) &&
    decide (pktLen p.gen b ≤ b.length)

/-- The consumer index behind a packet. -/
def consAfter (b : List Byte) (p : RPair) : Nat := (p.cmdCons + cdiv (pktLen p.gen b) 64) % 2 ^ 16

/-- The state in which a packet is judged: its pair is the last served, and its consumer index stands at `cons`. -/
def passed (k time cons : Nat) (s : State) : State :=
  ({ s.at time with hif := { s.hif with turn := k } }).modPair k (fun p => { p with cmdCons := cons })

section
variable {s : State} {k time : Nat} {b : List Byte} {p : RPair} (hp : s.hif.pairs[k]? = some p)
include hp

theorem passed_getElem? (time cons : Nat) : (passed k time cons s).hif.pairs[k]? = some { p with cmdCons := cons } :=
  modPair_getElem? (s := { s.at time with hif := { s.hif with turn := k } }) hp _

theorem nextPair_open (hturn : nextPair s = some k) : p.open_ = true := by
  have hfound := List.find?_some hturn
  simp only [pairs_getD hp, Bool.and_eq_true] at hfound
  exact hfound.1

variable (hreads : readsRings s = true) (hturn : nextPair s = some k)
include hreads hturn

theorem packetIntake_badLen (hlen : pktFits b p = false) : packetIntake k b time s =
    refuseIntake (pktCtx k p.gen time b) 0x0204 [] (passed k time p.cmdProd s) := by
  have hbad : lenOk p.gen (pktLen p.gen b) = false ∨ 64 * idxDist p.cmdCons p.cmdProd < pktLen p.gen b ∨
      b.length < pktLen p.gen b := by
    simpa only [pktFits, Bool.and_eq_false_iff, decide_eq_false_iff_not, Nat.not_le, or_assoc] using hlen
  have hskip : passed k time p.cmdProd s = ({ s.at time with hif := { s.hif with turn := k } }).modPair k
      (fun x => { x with cmdCons := x.cmdProd }) :=
    modPair_congr (s := { s.at time with hif := { s.hif with turn := k } }) hp rfl
  have hpair : (s.at time).hif.pairs.getD k RPair.reset = p := pairs_getD hp
  simp only [packetIntake, hreads, hturn, and_self, if_true, hpair, if_pos hbad, hskip]
  rfl

theorem packetIntake_fits (hlen : pktFits b p = true) : packetIntake k b time s =
    let q := b.take (pktLen p.gen b)
    let x := passed k time (consAfter b p) s
    if pktSum p.gen q ≠ pktCrc p.gen q then refuseIntake (pktCtx k p.gen time b) 0x0401 [] x
    else if acts x then inSequence k p.gen time (pktCtx k p.gen time b) q x
    else outsideSeq p.gen (pktCtx k p.gen time b) q x := by
  have hgood : ¬ (lenOk p.gen (pktLen p.gen b) = false ∨ 64 * idxDist p.cmdCons p.cmdProd < pktLen p.gen b ∨
      b.length < pktLen p.gen b) := by
    simpa only [pktFits, Bool.and_eq_true, decide_eq_true_eq, not_or, Nat.not_lt, Bool.not_eq_false, and_assoc]
      using hlen
  have hskip : passed k time (consAfter b p) s = ({ s.at time with hif := { s.hif with turn := k } }).modPair k
      (fun x => { x with cmdCons := (x.cmdCons + cdiv (pktLen p.gen b) 64) % 2 ^ 16 }) :=
    modPair_congr (s := { s.at time with hif := { s.hif with turn := k } }) hp rfl
  have hpair : (s.at time).hif.pairs.getD k RPair.reset = p := pairs_getD hp
  simp only [packetIntake, hreads, hturn, and_self, if_true, hpair, if_neg hgood, hskip]
  rfl

theorem packetIntake_badCrc (hlen : pktFits b p = true)
    (hcrc : pktSum p.gen (b.take (pktLen p.gen b)) ≠ pktCrc p.gen (b.take (pktLen p.gen b))) :
    packetIntake k b time s = refuseIntake (pktCtx k p.gen time b) 0x0401 [] (passed k time (consAfter b p) s) :=
  (packetIntake_fits hp hreads hturn hlen).trans (if_pos hcrc)

theorem packetIntake_whole (hacts : acts s = true) (hlen : pktFits b p = true)
    (hcrc : pktSum p.gen (b.take (pktLen p.gen b)) = pktCrc p.gen (b.take (pktLen p.gen b))) :
    packetIntake k b time s = inSequence k p.gen time (pktCtx k p.gen time b) (b.take (pktLen p.gen b))
      (passed k time (consAfter b p) s) :=
  (packetIntake_fits hp hreads hturn hlen).trans ((if_neg (not_not.mpr hcrc)).trans (if_pos hacts))

end

/-! ### The place of a command in the sequence of its pair (R380, R383) -/

/-- The record of intake of a new command. -/
def newFly (k gen time : Nat) (c : Ctx) (q : List Byte) : Fly :=
  { pair := k, gen := gen, seq := c.h.seq, crc := pktCrc gen q, opcode := pktOp q, tag := c.h.tag, packet := q
    basis := 0, mirror := false, jseq := 0, since := time, exec := false, old := false }

/-- The record of intake of the command of a packet. -/
def pktFly (k time : Nat) (b : List Byte) (p : RPair) : Fly :=
  newFly k p.gen time (pktCtx k p.gen time b) (b.take (pktLen p.gen b))

/-- A new command enters the window of its pair and stands last in flight. -/
def takenIn (f : Fly) (x : State) : State :=
  { x.modPair f.pair (RPair.take f.seq f.crc 0) with hif :=
    { (x.modPair f.pair (RPair.take f.seq f.crc 0)).hif with fly := x.hif.fly ++ [f] } }

section
variable {x : State} {k gen time : Nat} {c : Ctx} {q : List Byte} {p : RPair} (hp : x.hif.pairs[k]? = some p)
  (hop : isSession c.op = false)
include hp hop

theorem inSequence_eq : inSequence k gen time c q x =
    if c.h.seq = p.next then offer (newFly k gen time c q) (takenIn (newFly k gen time c q) x)
    else if inWindow p.next c.h.seq then
      match p.window.find? (fun w => w.seq == c.h.seq) with
      | some w => if w.crc = pktCrc gen q then answerDup c w x else refuseIntake c 0x0402 [] x
      | none => refuseIntake c 0x0402 [] x
    else refuseIntake c 0x0403 (leBytes 4 p.next) x := by
  simp only [inSequence, pairs_getD hp, hop, Bool.false_eq_true, if_false]
  rfl

theorem inSequence_next (hseq : c.h.seq = p.next) : inSequence k gen time c q x =
    offer (newFly k gen time c q) (takenIn (newFly k gen time c q) x) :=
  (inSequence_eq hp hop).trans (if_pos hseq)

theorem inSequence_outside (hseq : c.h.seq ≠ p.next) (hout : inWindow p.next c.h.seq = false) :
    inSequence k gen time c q x = refuseIntake c 0x0403 (leBytes 4 p.next) x :=
  (inSequence_eq hp hop).trans ((if_neg hseq).trans (if_neg (Bool.eq_false_iff.mp hout)))

variable (hseq : c.h.seq ≠ p.next) (hin : inWindow p.next c.h.seq = true)
include hseq hin

theorem inSequence_unknown (hno : p.window.find? (fun w => w.seq == c.h.seq) = none) :
    inSequence k gen time c q x = refuseIntake c 0x0402 [] x := by
  rw [inSequence_eq hp hop, if_neg hseq, if_pos hin, hno]

theorem inSequence_other {w : WinE} (hw : p.window.find? (fun w => w.seq == c.h.seq) = some w)
    (hcrc : w.crc ≠ pktCrc gen q) : inSequence k gen time c q x = refuseIntake c 0x0402 [] x := by
  rw [inSequence_eq hp hop, if_neg hseq, if_pos hin, hw]
  exact if_neg hcrc

/-- A duplicate of a command that is complete is answered with its final reply again. -/
theorem inSequence_dup {w : WinE} {r : Reply} (hw : p.window.find? (fun w => w.seq == c.h.seq) = some w)
    (hcrc : w.crc = pktCrc gen q) (hr : w.reply = some r) : inSequence k gen time c q x =
      pushReply { r with dup := true } (x.modPair c.h.pair (fun p => { p with dups := satAdd 32 p.dups 1 })) := by
  rw [inSequence_eq hp hop, if_neg hseq, if_pos hin, hw]
  refine (if_pos hcrc).trans ?_
  rw [answerDup, hr]

end

/-! ### The bases that a new command is offered to (R381) -/

/-- What decides on the bases without a partner is the same: the journal, the parameters and the role. -/
structure SameBases (x y : State) : Prop where
  jnl    : y.jnl = x.jnl
  params : y.params = x.params
  role   : y.pair.role = x.pair.role

namespace SameBases

variable {x y z : State}

theorem refl (x : State) : SameBases x x := ⟨rfl, rfl, rfl⟩

theorem trans (h : SameBases x y) (h' : SameBases y z) : SameBases x z :=
  ⟨h'.jnl.trans h.jnl, h'.params.trans h.params, h'.role.trans h.role⟩

theorem healthy (h : SameBases x y) : jnlHealthy y.toDev = jnlHealthy x.toDev := by
  unfold jnlHealthy
  rw [h.jnl]

theorem param (h : SameBases x y) (id : Nat) : y.p id = x.p id := by
  unfold State.p pv pvI
  rw [h.params]

end SameBases

theorem tell_hif (m : PMsg) (s : State) : (s.tell m).hif = s.hif := by
  obtain ⟨n, out, h⟩ := tell_eq m s
  rw [h]

section
variable {f : Fly} {x : State}

/-- With a synchronised partner a new command is sent to it and waits for its MIR_ACK. -/
theorem offer_mirrors (hsync : partnerSynced x = true) : offer f x =
    (x.modFly f.pair f.seq (fun y => { y with mirror := true })).tell (.mirror f.pair f.gen f.seq f.packet) :=
  if_pos hsync

/-- Without one it is offered to the journal, whether or not a joining partner is told. -/
theorem offer_alone (hsync : partnerSynced x = false) :
    ∃ y, offer f x = offerJournal f y ∧ SameBases x y ∧ y.hif = x.hif := by
  unfold offer
  rw [if_neg (Bool.eq_false_iff.mp hsync)]
  split
  · obtain ⟨n, out, htell⟩ := tell_eq (.mirror f.pair f.gen f.seq f.packet) x
    exact ⟨_, congrArg (offerJournal f) htell, ⟨rfl, rfl, rfl⟩, rfl⟩
  · exact ⟨x, rfl, SameBases.refl x, rfl⟩

/-- The commands in flight with one that waits for the record `j`. -/
def journalling (f : Fly) (j : Nat) (l : List Fly) : List Fly :=
  l.map (fun y => if y.pair = f.pair ∧ y.seq = f.seq then { y with mirror := false, jseq := j } else y)

/-- A healthy journal starts the COMMAND record of a command, which waits for it. -/
theorem offerJournal_hif (hjnl : jnlHealthy x.toDev = true) :
    (offerJournal f x).hif = { x.hif with fly := journalling f x.jnl.next x.hif.fly } := by
  unfold offerJournal
  rw [if_pos hjnl]
  simp only [State.modFly, jnlAdd_pairs, jnlNext, journalling]

/-- A command that no basis takes: it waits for none, and its pair counts the refusal. -/
def refusedFly (f : Fly) (x : State) : State :=
  (x.modFly f.pair f.seq (fun y => { y with mirror := false })).modPair f.pair
    (fun p => { p with refs := satAdd 24 p.refs 1 })

/-- The refusal of such a command is due to its ring. -/
theorem refusedFly_replies {p : RPair} (hp : x.hif.pairs[f.pair]? = some p) (hopen : p.open_ = true)
    (ha : acts x = true) : repliesOf (finish f.ctx 0x0404 [] (refusedFly f x)) f.pair =
      p.replies ++ [mkReply f.ctx 0x0404 []] := by
  have hafter : (refusedFly f x).hif.pairs[f.pair]? = some { p with refs := satAdd 24 p.refs 1 } :=
    getElem?_modAt hp _
  have hacts : acts (refusedFly f x) = true := ha
  have hanswers := finish_answers f.ctx.op f.ctx.h 0x0404 [] (refusedFly f x)
    ((congrArg (Option.map RPair.open_) hafter).trans (congrArg some hopen)) (by simp [Delivers, hacts])
  have hreplied : repliesOf (refusedFly f x) f.pair = p.replies := by rw [repliesOf_eq hafter]
  exact hanswers.trans (congrArg (· ++ [_]) hreplied)

/-- With neither basis, and volatile acceptance off, a command is refused. -/
theorem offerJournal_refuses (hjnl : jnlHealthy x.toDev = false) (hvol : x.p 0 ≠ 1) : offerJournal f x =
    finish f.ctx 0x0404 [] (refusedFly f x) := by
  unfold offerJournal
  rw [if_neg (Bool.eq_false_iff.mp hjnl)]
  exact if_neg hvol

end

/-! ### PACKET_INTAKE (R375, R377, R379–R381, R383) -/

/-- The packet is refused: its reply is due, it is counted, the consumer index stands at `cons`, and the sequence
stays. -/
def IntakeRefused (c : Ctx) (st : Nat) (data : List Byte) (cons : Nat) (p : RPair) (s t : State) : Prop :=
  Answers c.op c.h st data s t ∧ engines t = engines s ∧
    (t.hif.pairs[c.h.pair]?).map (fun x => (x.cmdCons, x.refs, x.next, x.window)) =
      some (cons, satAdd 24 p.refs 1, p.next, p.window)

/-- The command of the packet is taken in behind those in flight, `g` giving what its record of intake waits for. -/
def IntakeWaits (f : Fly) (g : Fly → Fly) (cons : Nat) (p : RPair) (s t : State) : Prop :=
  t.hif.fly = (s.hif.fly ++ [f]).map (fun y => if y.pair = f.pair ∧ y.seq = f.seq then g y else y) ∧
    engines t = engines s ∧ repliesOf t f.pair = repliesOf s f.pair ∧
    (t.hif.pairs[f.pair]?).map (fun x => (x.cmdCons, x.next, x.window)) =
      some (cons, (p.next + 1) % 2 ^ 32, (RPair.take f.seq f.crc 0 p).window)

/-- The state in which a new command is offered to the bases. -/
def offered (k time cons : Nat) (f : Fly) (s : State) : State := takenIn f (passed k time cons { s with out := [] })

section
variable {s : State} {k : Nat} {p : RPair} {f : Fly} (time cons : Nat)

theorem offered_sameBases : SameBases s (offered k time cons f s) := ⟨rfl, rfl, rfl⟩

theorem offered_synced : partnerSynced (offered k time cons f s) = partnerSynced s := rfl

theorem offered_fly : (offered k time cons f s).hif.fly = s.hif.fly ++ [f] := rfl

theorem offered_getElem? (hp : s.hif.pairs[f.pair]? = some p) : (offered f.pair time cons f s).hif.pairs[f.pair]? =
    some (RPair.take f.seq f.crc 0 { p with cmdCons := cons }) :=
  modPair_getElem? (passed_getElem? (s := { s with out := [] }) hp time cons) _

end

section
variable {s : State} {k time : Nat} {b : List Byte} {p : RPair}

/-- What the intake of a packet gives, the command does: it leaves the blocks of the converter, and no held command is
woken. -/
theorem intake_does {x : State} {P : State → Prop} (hheld : s.hif.held = [])
    (hx : packetIntake k b time { s with out := [] } = x) (hP : engines (settle x) = engines s → P (settle x)) :
    Does (.packetIntake k b time) s P := by
  subst hx
  exact does_waking rfl rfl ((packetIntake_held ..).trans hheld)
    (hP ((settle_eng _).trans (packetIntake_eng ..)))

variable (hp : s.hif.pairs[k]? = some p) (hheld : s.hif.held = [])
include hp hheld

theorem intake_refuses {c : Ctx} {st cons : Nat} {data : List Byte} (hc : c.h.pair = k) (hopen : p.open_ = true)
    (hx : packetIntake k b time { s with out := [] } =
      refuseIntake c st data (passed k time cons { s with out := [] })) :
    Does (.packetIntake k b time) s (IntakeRefused c st data cons p s) := by
  subst hc
  have hafter := refuseIntake_getElem? (c := c) (st := st) (data := data)
    (passed_getElem? (s := { s with out := [] }) hp time cons) hopen
  refine intake_does hheld hx fun heng => ⟨?_, heng, congrArg (Option.map _) hafter⟩
  exact (repliesOf_eq hafter).trans (congrArg (· ++ [_]) (repliesOf_eq hp).symm)

/-- A duplicate is answered with the final reply that stands in the window, and counted. -/
theorem intake_repeats {cons : Nat} {r : Reply} (hpair : r.pair = k) (hopen : p.open_ = true)
    (hx : packetIntake k b time { s with out := [] } = pushReply { r with dup := true }
      ((passed k time cons { s with out := [] }).modPair k (fun p => { p with dups := satAdd 32 p.dups 1 }))) :
    Does (.packetIntake k b time) s (fun t => repliesOf t k = repliesOf s k ++ [{ r with dup := true }] ∧
      engines t = engines s ∧ (t.hif.pairs[k]?).map (fun x => (x.dups, x.refs, x.next)) =
        some (satAdd 32 p.dups 1, p.refs, p.next)) := by
  subst hpair
  have hafter := pushReply_getElem? (r := { r with dup := true }) (modPair_getElem?
    (passed_getElem? (s := { s with out := [] }) hp time cons) (fun p => { p with dups := satAdd 32 p.dups 1 })) hopen
  refine intake_does hheld hx fun heng => ⟨?_, heng, congrArg (Option.map _) hafter⟩
  exact (repliesOf_eq hafter).trans (congrArg (· ++ [_]) (repliesOf_eq hp).symm)

end

section
variable {s : State} {time cons : Nat} {b : List Byte} {p : RPair} {f : Fly}
  (hp : s.hif.pairs[f.pair]? = some p) (hheld : s.hif.held = []) (hseq : f.seq = p.next)

section
include hp hheld hseq

/-- A new command that waits for a basis is in flight and in the window, and is owed no reply. -/
theorem intake_waits {g : Fly → Fly} {y : State} (hx : packetIntake f.pair b time { s with out := [] } = y)
    (hfly : y.hif.fly = (s.hif.fly ++ [f]).map (fun y => if y.pair = f.pair ∧ y.seq = f.seq then g y else y))
    (hpairs : y.hif.pairs = (offered f.pair time cons f s).hif.pairs) :
    Does (.packetIntake f.pair b time) s (IntakeWaits f g cons p s) := by
  have hafter : y.hif.pairs[f.pair]? = some (RPair.take f.seq f.crc 0 { p with cmdCons := cons }) := by
    rw [hpairs]
    exact offered_getElem? time cons hp
  refine intake_does hheld hx fun heng => ⟨hfly, heng, ?_, ?_⟩
  · exact (repliesOf_eq hafter).trans (repliesOf_eq hp).symm
  · rw [settle_hif, hafter, ← hseq]
    rfl

end

variable (hx : packetIntake f.pair b time { s with out := [] } = offer f (offered f.pair time cons f s))
include hp hheld hx

theorem intake_mirrors (hseq : f.seq = p.next) (hsync : partnerSynced s = true) :
    Does (.packetIntake f.pair b time) s (IntakeWaits f (fun y => { y with mirror := true }) cons p s) := by
  have hoffer := hx.trans (offer_mirrors ((offered_synced time cons).trans hsync))
  refine intake_waits hp hheld hseq hoffer ?_ ?_
  · rw [tell_hif]
    rfl
  · rw [tell_hif]
    rfl

theorem intake_journals (hseq : f.seq = p.next) (hsync : partnerSynced s = false) (hjnl : jnlHealthy s.toDev = true) :
    Does (.packetIntake f.pair b time) s
      (IntakeWaits f (fun y => { y with mirror := false, jseq := s.jnl.next }) cons p s) := by
  obtain ⟨y, hoffer, hbases, hhif⟩ := offer_alone (f := f) ((offered_synced (k := f.pair) time cons).trans hsync)
  have hsame := (offered_sameBases (k := f.pair) time cons).trans hbases
  have hjournal := offerJournal_hif (f := f) (hsame.healthy.trans hjnl)
  refine intake_waits hp hheld hseq (hx.trans hoffer) ?_ ?_
  · rw [hjournal, hhif, hsame.jnl, offered_fly]
    rfl
  · rw [hjournal, hhif]

/-- A command without a basis is refused, and its place in the sequence stays used (R381). -/
theorem intake_unbased (hopen : p.open_ = true) (ha : acts s = true) (hsync : partnerSynced s = false)
    (hjnl : jnlHealthy s.toDev = false) (hvol : s.p 0 ≠ 1) : Does (.packetIntake f.pair b time) s (fun t =>
      Answers f.ctx.op f.ctx.h 0x0404 [] s t ∧ engines t = engines s) := by
  obtain ⟨y, hoffer, hbases, hhif⟩ := offer_alone (f := f) ((offered_synced (k := f.pair) time cons).trans hsync)
  have hsame := (offered_sameBases (k := f.pair) time cons).trans hbases
  have hrefuses := offerJournal_refuses (f := f) (hsame.healthy.trans hjnl) (by rw [hsame.param]; exact hvol)
  have hpair : y.hif.pairs[f.pair]? = some (RPair.take f.seq f.crc 0 { p with cmdCons := cons }) := by
    rw [hhif]
    exact offered_getElem? time cons hp
  have hreplies := refusedFly_replies hpair hopen ((acts_role s y hsame.role).trans ha)
  refine intake_does hheld (hx.trans (hoffer.trans hrefuses)) fun heng => ⟨?_, heng⟩
  exact hreplies.trans (congrArg (· ++ [_]) (repliesOf_eq hp).symm)

end

section
variable {s : State} {k seq : Nat} {f : Fly}

/-- MIRROR_TIMEOUT of a command that waits for its MIR_ACK offers it to the journal, where no session is being
opened. -/
theorem mirrorTimeout_journals (hf : awaited k seq s.hif.fly = some f) (hjnl : jnlHealthy s.toDev = true)
    (hreq : s.hif.openReq = none) : mirrorTimeout k seq s = offerJournal f s := by
  have hcmd : mirrorTimeoutCmd k seq s = offerJournal f s := by
    unfold mirrorTimeoutCmd
    unfold awaited at hf
    rw [hf]
  rw [mirrorTimeout, hcmd, mirrorTimeoutOpen, offerJournal_hif hjnl, hreq]

theorem timeout_journals (hheld : s.hif.held = []) (hf : awaited k seq s.hif.fly = some f)
    (hjnl : jnlHealthy s.toDev = true) (hreq : s.hif.openReq = none) : Does (.mirrorTimeout k seq) s (fun t =>
      engines t = engines s ∧ repliesOf t k = repliesOf s k ∧ t.hif.fly = journalling f s.jnl.next s.hif.fly) := by
  have hhif := offerJournal_hif (f := f) (x := { s with out := [] }) hjnl
  refine does_waking rfl (mirrorTimeout_journals (s := { s with out := [] }) hf hjnl hreq) ?_
    ⟨(settle_eng _).trans (offerJournal_eng ..), ?_, ?_⟩
  · rw [hhif]
    exact hheld
  · exact repliesOf_of_pairs (by rw [settle_hif, hhif]) k
  · exact congrArg Hif.fly hhif

end

/-- Settles O47: the packet is judged check by check; a new command is offered to the partner, to the journal, or
refused. -/
theorem packetsAreTakenInOrder : Obligations.PacketsAreTakenInOrder := by
  intro s k time b p hp hreads hturn hheld hacts
  have hopen := nextPair_open hp hturn
  refine ⟨fun hbad => ?_, fun hfits hcrc => ?_, fun hfits hcrc hop => ⟨fun hseq hout => ?_, fun hseq hin =>
    ⟨fun hno => ?_, fun w hw => ⟨fun hother => ?_, fun r hsame hr hpair => ?_⟩⟩, fun hseq => ⟨fun hsync => ?_,
    fun hsync hjnl => ?_, fun hsync hjnl hvol => ?_⟩⟩, fun seq f => timeout_journals hheld⟩
  · exact intake_refuses hp hheld rfl hopen (packetIntake_badLen (s := { s with out := [] }) hp hreads hturn hbad)
  · exact intake_refuses hp hheld rfl hopen (packetIntake_badCrc (s := { s with out := [] }) hp hreads hturn hfits hcrc)
  all_goals
    have hwhole := packetIntake_whole (s := { s with out := [] }) (time := time) hp hreads hturn hacts hfits hcrc
    have hx := passed_getElem? (s := { s with out := [] }) hp time (consAfter b p)
  · exact intake_refuses hp hheld rfl hopen (hwhole.trans (inSequence_outside hx hop hseq hout))
  · exact intake_refuses hp hheld rfl hopen (hwhole.trans (inSequence_unknown hx hop hseq hin hno))
  · exact intake_refuses hp hheld rfl hopen (hwhole.trans (inSequence_other hx hop hseq hin hw hother))
  · have hdup := hwhole.trans (inSequence_dup (c := pktCtx k p.gen time b) hx hop hseq hin hw hsame hr)
    exact intake_repeats hp hheld hpair hopen hdup
  all_goals
    have hnext := hwhole.trans (inSequence_next hx hop hseq)
  · exact intake_mirrors (f := pktFly k time b p) hp hheld hnext hseq hsync
  · exact intake_journals (f := pktFly k time b p) hp hheld hnext hseq hsync hjnl
  · exact intake_unbased (f := pktFly k time b p) hp hheld hnext hopen hacts hsync hjnl hvol

end Sys2Proof

/-! The journal: records that commit and what waits for them, flashes that fail, compaction and erasure. -/

namespace Sys2Proof

open Sys2Proof.Machine

/-! ### What the checks and batches of the journal change (R454, R456) -/

/-- The journal, the rank, the fault collector and the event recorder are all that differs. -/
def JnlForm (s t : State) : Prop := ∃ j r f e, t = { s with jnl := j, rnk := r, flt := f, evr := e }

namespace JnlForm

variable {s t u : State}

theorem refl (s : State) : JnlForm s s := ⟨_, _, _, _, rfl⟩

theorem trans (h1 : JnlForm s t) (h2 : JnlForm t u) : JnlForm s u := by
  obtain ⟨_, _, _, _, rfl⟩ := h1
  obtain ⟨j, r, f, e, rfl⟩ := h2
  exact ⟨j, r, f, e, rfl⟩

theorem hif (h : JnlForm s t) : t.hif = s.hif := by
  obtain ⟨_, _, _, _, rfl⟩ := h
  rfl

theorem eng (h : JnlForm s t) : engines t = { engines s with rnk := t.rnk } := by
  obtain ⟨_, _, _, _, rfl⟩ := h
  rfl

end JnlForm

section
variable (s : State)

theorem raiseIf_jnlForm (c : Bool) (blk inst kind detail : Nat) : JnlForm s (raiseIf c blk inst kind detail s) := by
  unfold raiseIf
  split
  · obtain ⟨f, e, h⟩ := raise_eq blk inst kind detail s
    exact ⟨_, _, f, e, h⟩
  · exact .refl s

theorem jnlFullCheck_jnlForm : JnlForm s (jnlFullCheck s) :=
  JnlForm.trans ⟨_, _, _, _, rfl⟩ (raiseIf_jnlForm _ _ 0x11 0 2 0)

theorem jnlFullCheck_jnl : (jnlFullCheck s).jnl =
    { s.jnl with full := decide (jnlFree s.jnl < 8) && s.jnl.restored } := by
  rw [jnlFullCheck, raiseIf_jnl]

theorem jnlBatch_jnlForm (ckpt : Bool) (ks : List Nat) : JnlForm s (jnlBatch ckpt ks s) := by
  unfold jnlBatch
  simp only
  split
  · exact .refl s
  · exact JnlForm.trans ⟨_, _, _, _, rfl⟩ (jnlFullCheck_jnlForm _)

theorem ckptAdd_jnlForm (l : List JPayload) : JnlForm s (ckptAdd l s) := ⟨_, _, _, _, rfl⟩

/-! ### Compaction and erasure (R457) -/

/-- The state that a starting compaction leaves before the number of free blocks is judged. -/
theorem compactStart_eq (h : Option CmdHdr) : ∃ x, JnlForm s x ∧ compactStart h s = jnlFullCheck x ∧
    x.jnl.compact = true ∧ x.jnl.ckBegin = s.jnl.next ∧ x.jnl.compHdr = h := by
  refine ⟨_, ?_, rfl, rfl, rfl, rfl⟩
  refine JnlForm.trans ?_ ⟨_, _, _, _, rfl⟩
  exact ((ckptAdd_jnlForm ..).trans (ckptAdd_jnlForm ..)).trans
    ((jnlBatch_jnlForm ..).trans ((ckptAdd_jnlForm ..).trans (ckptAdd_jnlForm ..)))

end

section
variable {s : State}

/-- A compaction that is due opens its checkpoint at the next record number. -/
theorem compaction_starts (htakes : jnlTakes s = true) (hno : s.jnl.compact = false)
    (hdue : s.p 0x0200 * 2048 ≤ 100 * s.jnl.blocks.length) : Does .jnlCompactionStart s (fun t =>
      engines t = { engines s with rnk := t.rnk } ∧ t.hif = s.hif ∧ t.jnl.compact = true ∧
      t.jnl.ckBegin = s.jnl.next ∧ t.jnl.compHdr = none) := by
  obtain ⟨x, hform, hstart, hcompact, hbegin, hhdr⟩ := compactStart_eq { s with out := [] } none
  have hx := hform.trans (jnlFullCheck_jnlForm x)
  have hcond : (jnlTakes s && !s.jnl.compact && compactDue s) = true := by
    simp [htakes, hno, compactDue, hdue]
  refine does_effect ((if_pos hcond).trans hstart) ⟨(settle_eng _).trans hx.eng, hx.hif, ?_⟩
  rw [settle_jnl, jnlFullCheck_jnl]
  exact ⟨hcompact, hbegin, hhdr⟩

theorem compaction_waits (h : s.jnl.compact = true ∨ 100 * s.jnl.blocks.length < s.p 0x0200 * 2048) :
    jnlCompactionStart s = s := by
  refine if_neg fun hcond => ?_
  simp only [compactDue, Bool.and_eq_true, Bool.not_eq_true', decide_eq_true_eq] at hcond
  obtain ⟨⟨-, hno⟩, hdue⟩ := hcond
  rcases h with hcompact | hbelow
  · exact absurd hcompact (Bool.eq_false_iff.mp hno)
  · exact absurd hdue (Nat.not_le.mpr hbelow)

theorem erase_frees (hdirty : s.jnl.dirty ≠ 0) : Does .blockEraseDone s (fun t => engines t = engines s ∧
    t.hif = s.hif ∧ t.jnl = { s.jnl with dirty := s.jnl.dirty - 1, full := t.jnl.full }) := by
  refine does_effect (if_neg hdirty) ⟨(settle_eng _).trans (jnlFullCheck_eng _), (jnlFullCheck_jnlForm _).hif, ?_⟩
  rw [settle_jnl, jnlFullCheck_jnl]

end

/-! ### What waits for a commit (R134, R372, R381, R404, R450, R455) -/

/-- The command that waits for its COMMAND record is accepted. -/
def admitWaiting (q : Nat) (s : State) : State :=
  match s.hif.fly.find? (fun f => f.basis == 0 && !f.mirror && f.jseq == q) with
  | some f => accept 2 f s
  | none => s

/-- The session that waits for its record opens. -/
def openWaiting (q : Nat) (s : State) : State :=
  match s.hif.openReq with
  | some o => if o.jseq = q then openPair o s else s
  | none => s

/-- The replies that wait for their COMPLETION are given. -/
def answerDue (q : Nat) (s : State) : State :=
  (s.hif.due.filter (fun d => d.jseq == q)).foldl
    (fun a d => deliver d.opcode (mkReply { h := d.hdr, op := d.opcode } 0 d.data)
      (complete (mkReply { h := d.hdr, op := d.opcode } 0 d.data) a))
    { s with hif := { s.hif with due := s.hif.due.filter (fun d => d.jseq != q) } }

/-- The EVR_CLEAR_FIRST commands that wait for their record are answered. -/
def answerClears (q : Nat) (s : State) : State :=
  (s.jnl.evrClears.filter (fun x => x.2 == q)).foldl (fun a x => done { h := x.1, op := 0x0611 } [] a)
    { s with jnl := { s.jnl with evrClears := s.jnl.evrClears.filter (fun x => x.2 != q) } }

/-- The JNL_SYNC commands that wait for no other record are answered. -/
def answerSyncs (q : Nat) (s : State) : State :=
  let left := s.jnl.syncs.map (fun x => (x.1, x.2.1, x.2.2.filter (fun i => i != q)))
  (left.filter (fun x => x.2.2 == [])).foldl (fun a x => done { h := x.1, op := x.2.1 } [] a)
    { s with jnl := { s.jnl with syncs := left.filter (fun x => x.2.2 != []) } }

/-- The reply that waited is given, and none waits. -/
def answered (d : Due) (s : State) : State :=
  pushReply (mkReply { h := d.hdr, op := d.opcode } 0 d.data)
    (complete (mkReply { h := d.hdr, op := d.opcode } 0 d.data) { s with hif := { s.hif with due := [] } })

theorem answered_eng (d : Due) (s : State) : engines (answered d s) = engines s :=
  (pushReply_eng ..).trans (complete_eng ..)

theorem answered_replies {d : Due} {s : State} (hopen : PairOpen s d.hdr.pair) :
    Answers d.opcode d.hdr 0 d.data s (answered d s) :=
  (repliesOf_push _ _ ((PairOpen_complete ..).mpr hopen)).trans
    (congrArg (· ++ [_]) (repliesOf_complete _ { s with hif := { s.hif with due := [] } } d.hdr.pair))

section
variable {q : Nat} {s : State}

theorem commitWaiters_eq : commitWaiters q s =
    answerSyncs q (answerClears q (answerDue q (openWaiting q (admitWaiting q s)))) := rfl

theorem admitWaiting_one {f : Fly} (hf : s.hif.fly.find? (fun f => f.basis == 0 && !f.mirror && f.jseq == q) = some f) :
    admitWaiting q s = accept 2 f s := by
  unfold admitWaiting
  rw [hf]

theorem admitWaiting_none (hno : s.hif.fly.find? (fun f => f.basis == 0 && !f.mirror && f.jseq == q) = none) :
    admitWaiting q s = s := by
  unfold admitWaiting
  rw [hno]

theorem openWaiting_none (hno : s.hif.openReq = none) : openWaiting q s = s := by
  unfold openWaiting
  rw [hno]

theorem answerDue_none (hno : s.hif.due = []) : answerDue q s = s := by
  unfold answerDue
  rw [hno]
  show { s with hif := { s.hif with due := [] } } = s
  rw [← hno]

/-- In a device that executes commands, the one reply that waits goes to its ring. -/
theorem answerDue_one {d : Due} (hd : s.hif.due = [d]) (hq : d.jseq = q) (ha : acts s = true) :
    answerDue q s = answered d s := by
  have hdeliver : ∀ r x, acts x = true → deliver d.opcode r x = pushReply r x := fun r x hx =>
    if_pos (by rw [hx]; rfl)
  unfold answerDue
  rw [hd]
  simp only [List.filter_cons, List.filter_nil, hq, beq_self_eq_true, bne_self_eq_false, if_true, if_false,
    Bool.false_eq_true, List.foldl_cons, List.foldl_nil]
  exact hdeliver _ _ ha

theorem answerClears_none (hno : s.jnl.evrClears = []) : answerClears q s = s := by
  unfold answerClears
  rw [hno]
  show { s with jnl := { s.jnl with evrClears := [] } } = s
  rw [← hno]

theorem answerSyncs_none (hno : s.jnl.syncs = []) : answerSyncs q s = s := by
  unfold answerSyncs
  rw [hno]
  show { s with jnl := { s.jnl with syncs := [] } } = s
  rw [← hno]

/-- What an acceptance does to the host interface, where the command's form passes its check. -/
theorem accept_sound {basis : Nat} {f : Fly} (hform : formStatus f.gen f.opcode f.packet = none) : accept basis f s =
    pushReply (acceptedReply f.ctx basis false)
      ((s.modFly f.pair f.seq (fun x => { x with basis := basis, mirror := false })).modPair f.pair
        (acceptedPair basis f)) := judgeForm_ok hform _

variable (hclears : s.jnl.evrClears = []) (hsyncs : s.jnl.syncs = []) (hreq : s.hif.openReq = none)
include hclears hsyncs hreq

theorem commitWaiters_accepts {f : Fly}
    (hf : s.hif.fly.find? (fun f => f.basis == 0 && !f.mirror && f.jseq == q) = some f) (hdue : s.hif.due = [])
    (hform : formStatus f.gen f.opcode f.packet = none) : commitWaiters q s = accept 2 f s := by
  have haccept := accept_sound (s := s) (basis := 2) hform
  rw [commitWaiters_eq, admitWaiting_one hf, openWaiting_none, answerDue_none, answerClears_none, answerSyncs_none]
  · rw [haccept]
    exact hsyncs
  · rw [haccept]
    exact hclears
  · rw [haccept]
    exact hdue
  · rw [haccept]
    exact hreq

theorem commitWaiters_answers {d : Due}
    (hno : s.hif.fly.find? (fun f => f.basis == 0 && !f.mirror && f.jseq == q) = none) (hdue : s.hif.due = [d])
    (hq : d.jseq = q) (ha : acts s = true) : commitWaiters q s = answered d s := by
  rw [commitWaiters_eq, admitWaiting_none hno, openWaiting_none hreq, answerDue_one hdue hq ha]
  exact (congrArg (answerSyncs q) (answerClears_none (s := answered d s) hclears)).trans
    (answerSyncs_none (s := answered d s) hsyncs)

end

/-! ### JNL_RECORD_COMMIT (R453) -/

/-- The journal with the record `q`, written as `r` shows, marked. -/
def marked (q : Nat) (r : JRec) (j : Jnl) : Jnl :=
  { j with
    recs := j.recs.map (fun x => if x.jseq = q then { x with c0 := writes0 j r, c1 := writes1 j r } else x)
    committed := max j.committed q }

/-- The state in which what waits for a committed record proceeds. -/
def committed (q : Nat) (r : JRec) (s : State) : State := { s with jnl := marked q r s.jnl }

/-- A record that neither ends a batch nor a checkpoint. -/
def PlainRec (r : JRec) : Prop := (∀ a b c, r.pl ≠ .batch a b c) ∧ ∀ b, r.pl ≠ .ckptEnd b

/-- A command that leaves the converter, the journal and the host interface. -/
def Still (s t : State) : Prop := engines t = engines s ∧ t.jnl = s.jnl ∧ t.hif = s.hif

theorem still_waking {c : Instr} {f : State → State} {s : State} (hheld : s.hif.held = [])
    (he : effect c = fun y => runHeld (f y)) (hx : f { s with out := [] } = { s with out := [] }) :
    Does c s (Still s) :=
  does_waking he hx hheld ⟨rfl, rfl, rfl⟩

theorem xor_of_ne {a b : Bool} (h : a ≠ b) : (a || b) = true ∧ (a && b) = false := by
  revert h
  cases a <;> cases b <;> decide

section
variable {q : Nat} {s : State} {r : JRec}

theorem jnlRecordCommit_closed (hno : s.jnl.recs.find? (fun r => r.jseq == q && r.open_) = none) :
    jnlRecordCommit q s = s := by
  unfold jnlRecordCommit
  rw [hno]

variable (hr : s.jnl.recs.find? (fun r => r.jseq == q && r.open_) = some r)
include hr

theorem jnlRecordCommit_unwritten (h0 : writes0 s.jnl r = false) (h1 : writes1 s.jnl r = false) :
    jnlRecordCommit q s = s := by
  unfold jnlRecordCommit
  rw [hr]
  exact if_neg (by rw [h0, h1]; exact Bool.false_ne_true)

theorem jnlRecordCommit_plain (hw : (writes0 s.jnl r || writes1 s.jnl r) = true) (hplain : PlainRec r) :
    jnlRecordCommit q s = if writes0 s.jnl r && writes1 s.jnl r then commitWaiters q (committed q r s)
      else committed q r s := by
  unfold jnlRecordCommit
  rw [hr]
  refine (if_pos hw).trans ?_
  split
  · next hpl => exact (hplain.1 _ _ _ hpl).elim
  · next hpl => exact (hplain.2 _ hpl).elim
  · rfl

/-- A record in both flashes lets what waits for it proceed. -/
theorem jnlRecordCommit_both (h0 : writes0 s.jnl r = true) (h1 : writes1 s.jnl r = true) (hplain : PlainRec r) :
    jnlRecordCommit q s = commitWaiters q (committed q r s) :=
  (jnlRecordCommit_plain hr (by rw [h0]; rfl) hplain).trans (if_pos (by rw [h0, h1]; rfl))

theorem jnlRecordCommit_batch {num first : Nat} {es : List BatchEnt}
    (hw : (writes0 s.jnl r || writes1 s.jnl r) = true) (hone : (writes0 s.jnl r && writes1 s.jnl r) = false)
    (hpl : r.pl = .batch num first es) (hlast : r.last = true) : jnlRecordCommit q s =
      { committed q r s with rnk := { s.rnk with batchFrame := s.frm.count % 2 ^ 32 } } := by
  unfold jnlRecordCommit
  rw [hr]
  refine (if_pos hw).trans ((if_neg (Bool.eq_false_iff.mp hone)).trans ?_)
  rw [hpl]
  exact if_pos hlast

/-- A record in one flash is marked, and nothing that waits for both proceeds. -/
theorem commit_marks (hheld : s.hif.held = []) (hone : writes0 s.jnl r ≠ writes1 s.jnl r) (hplain : PlainRec r) :
    Does (.jnlRecordCommit q) s (fun t => engines t = engines s ∧ t.hif = s.hif ∧ t.jnl = marked q r s.jnl) := by
  obtain ⟨hsome, hboth⟩ := xor_of_ne hone
  exact does_waking rfl ((jnlRecordCommit_plain (s := { s with out := [] }) hr hsome hplain).trans
    (if_neg (Bool.eq_false_iff.mp hboth))) hheld ⟨rfl, rfl, rfl⟩

theorem commit_endsBatch (hheld : s.hif.held = []) {num first : Nat} {es : List BatchEnt}
    (hone : writes0 s.jnl r ≠ writes1 s.jnl r) (hpl : r.pl = .batch num first es) (hlast : r.last = true) :
    Does (.jnlRecordCommit q) s (fun t => t.jnl = marked q r s.jnl ∧ t.hif = s.hif ∧
      engines t = { engines s with rnk := { s.rnk with batchFrame := s.frm.count % 2 ^ 32 } }) := by
  obtain ⟨hsome, hboth⟩ := xor_of_ne hone
  exact does_waking rfl (jnlRecordCommit_batch (s := { s with out := [] }) hr hsome hboth hpl hlast) hheld
    ⟨rfl, rfl, rfl⟩

section
variable (hheld : s.hif.held = []) (h0 : writes0 s.jnl r = true) (h1 : writes1 s.jnl r = true) (hplain : PlainRec r)
  (hclears : s.jnl.evrClears = []) (hsyncs : s.jnl.syncs = []) (hreq : s.hif.openReq = none)
include hheld h0 h1 hplain hclears hsyncs hreq

/-- The command that waited for its COMMAND record is accepted with basis JOURNALLED. -/
theorem commit_accepts {f : Fly}
    (hf : s.hif.fly.find? (fun f => f.basis == 0 && !f.mirror && f.jseq == q) = some f) (hdue : s.hif.due = [])
    (hform : formStatus f.gen f.opcode f.packet = none) (hopen : PairOpen s f.pair) :
    Does (.jnlRecordCommit q) s (fun t => engines t = engines s ∧ t.jnl = marked q r s.jnl ∧
      repliesOf t f.pair = repliesOf s f.pair ++ [acceptedReply f.ctx 2 false] ∧
      t.hif.fly = s.hif.fly.map (fun x =>
        if x.pair = f.pair ∧ x.seq = f.seq then { x with basis := 2, mirror := false } else x)) := by
  have hx := (jnlRecordCommit_both (s := { s with out := [] }) hr h0 h1 hplain).trans
    (commitWaiters_accepts (s := committed q r { s with out := [] }) hclears hsyncs hreq hf hdue hform)
  obtain ⟨hreplies, hfly, -⟩ := accept_replies (basis := 2) (s := committed q r { s with out := [] }) hform hopen
  refine does_waking rfl hx ((accept_held ..).trans hheld) ⟨(settle_eng _).trans (accept_eng ..), ?_, hreplies, hfly⟩
  rw [settle_jnl, accept_sound hform]
  rfl

/-- The reply that waited for its COMPLETION is given. -/
theorem commit_answers {d : Due}
    (hno : s.hif.fly.find? (fun f => f.basis == 0 && !f.mirror && f.jseq == q) = none) (hdue : s.hif.due = [d])
    (hq : d.jseq = q) (hopen : PairOpen s d.hdr.pair) (ha : acts s = true) :
    Does (.jnlRecordCommit q) s (fun t => engines t = engines s ∧ t.jnl = marked q r s.jnl ∧
      Answers d.opcode d.hdr 0 d.data s t ∧ t.hif.due = []) := by
  have hx := (jnlRecordCommit_both (s := { s with out := [] }) hr h0 h1 hplain).trans
    (commitWaiters_answers (s := committed q r { s with out := [] }) hclears hsyncs hreq hno hdue hq ha)
  have hreplies := answered_replies (s := committed q r { s with out := [] }) hopen
  exact does_waking rfl hx hheld ⟨(settle_eng _).trans (answered_eng ..), rfl, hreplies, rfl⟩

end

end

end Sys2Proof

/-! The failure of a flash: what waits for its records, and what it leaves of the journal. -/

namespace Sys2Proof

open Sys2Proof.Machine

/-! ### What a failing flash leaves alone (R456) -/

/-- The flashes in service and behind, and their counts of errors. -/
def flashesOf (j : Jnl) : Bool × Bool × Bool × Bool × Nat × Nat := (j.f0, j.f1, j.behind0, j.behind1, j.err0, j.err1)

/-- The flashes and the held commands stay, and nothing that the collector has is lost. -/
structure FlashesStay (s t : State) : Prop where
  grows   : FltGrows s t
  flashes : flashesOf t.jnl = flashesOf s.jnl
  held    : heldOf t = heldOf s

namespace FlashesStay

variable {s t u : State}

theorem refl (s : State) : FlashesStay s s := ⟨.refl s, rfl, rfl⟩

theorem trans (h1 : FlashesStay s t) (h2 : FlashesStay t u) : FlashesStay s u :=
  ⟨h1.grows.trans h2.grows, h2.flashes.trans h1.flashes, h2.held.trans h1.held⟩

/-- From a state with the same collector, flashes and held commands. -/
theorem source (h : FlashesStay t u) (hflt : t.flt = s.flt) (hjnl : flashesOf t.jnl = flashesOf s.jnl)
    (hheld : heldOf t = heldOf s) : FlashesStay s u :=
  ⟨h.grows.source hflt, h.flashes.trans hjnl, h.held.trans hheld⟩

/-- What touches neither the collector nor the flashes nor the held commands. -/
theorem of_eq (hflt : t.flt = s.flt) (hjnl : flashesOf t.jnl = flashesOf s.jnl) (hheld : heldOf t = heldOf s) :
    FlashesStay s t := ⟨(FltGrows.refl s).target hflt, hjnl, hheld⟩

theorem foldl {α : Type} {f : State → α → State} (hf : ∀ a x, FlashesStay a (f a x)) (l : List α) (s : State) :
    FlashesStay s (l.foldl f s) := by
  induction l generalizing s with
  | nil => exact .refl s
  | cons x l ih => exact (hf s x).trans (ih (f s x))

end FlashesStay

section
variable (s : State)

theorem jnlAdd_flashes (pl : JPayload) : flashesOf (jnlAdd pl s).jnl = flashesOf s.jnl := by
  unfold jnlAdd
  split
  · rw [jnlFullCheck_jnl]
    rfl
  · rfl

theorem deliver_stays (op : Nat) (r : Reply) : FlashesStay s (deliver op r s) := by
  refine .of_eq ?_ ?_ (deliver_held ..)
  all_goals
    unfold deliver
    split <;> rfl

theorem deliver_complete_stays (op : Nat) (r : Reply) : FlashesStay s (deliver op r (complete r s)) :=
  FlashesStay.source (deliver_stays ..) rfl rfl (complete_held ..)

theorem finish_stays (c : Ctx) (st : Nat) (data : List Byte) : FlashesStay s (finish c st data s) := by
  unfold finish
  split
  · exact FlashesStay.trans ⟨jnlAdd_grows .., jnlAdd_flashes .., jnlAdd_held ..⟩ (deliver_complete_stays ..)
  · exact deliver_stays ..

theorem judgeForm_stays (f : Fly) : FlashesStay s (judgeForm f s) := by
  unfold judgeForm
  split
  · exact FlashesStay.source (finish_stays ..) rfl rfl (markExec_held ..)
  · exact .refl s

theorem accept_stays (basis : Nat) (f : Fly) : FlashesStay s (accept basis f s) :=
  FlashesStay.source (judgeForm_stays ..) rfl rfl rfl

theorem offerVolatile_stays (f : Fly) : FlashesStay s (offerVolatile f s) := by
  unfold offerVolatile
  split
  · exact accept_stays ..
  · exact FlashesStay.source (finish_stays ..) rfl rfl rfl

/-! ### What waits for a record that will not commit (R381, R456) -/

variable (lost : Nat → Bool)

/-- The commands that wait for a lost record go on to the next basis. -/
def passOn (s : State) : State :=
  (s.hif.fly.filter (fun f => f.basis == 0 && !f.mirror && lost f.jseq)).foldl (fun a f => offerVolatile f a) s

/-- The session that waits for a lost record opens. -/
def openLost (s : State) : State :=
  match s.hif.openReq with
  | some o => if o.jseq ≠ 0 ∧ lost o.jseq = true then openPair o s else s
  | none => s

/-- The replies that wait for a lost record carry JNL_FAULT. -/
def faultDue (s : State) : State :=
  (s.hif.due.filter (fun d => lost d.jseq)).foldl
    (fun a d => deliver d.opcode (mkReply { h := d.hdr, op := d.opcode } 0x0405 [])
      (complete (mkReply { h := d.hdr, op := d.opcode } 0x0405 []) a))
    { s with hif := { s.hif with due := s.hif.due.filter (fun d => !lost d.jseq) } }

/-- The EVR_CLEAR_FIRST commands that wait for a lost record are refused. -/
def faultClears (s : State) : State :=
  (s.jnl.evrClears.filter (fun x => lost x.2)).foldl (fun a x => refuse { h := x.1, op := 0x0611 } 0x0405 a)
    { s with jnl := { s.jnl with evrClears := s.jnl.evrClears.filter (fun x => !lost x.2) } }

/-- The JNL_SYNC commands that wait for a lost record are refused. -/
def faultSyncs (s : State) : State :=
  (s.jnl.syncs.filter (fun x => x.2.2.any lost)).foldl (fun a x => refuse { h := x.1, op := x.2.1 } 0x0405 a)
    { s with jnl := { s.jnl with syncs := s.jnl.syncs.filter (fun x => !x.2.2.any lost) } }

theorem waitersFail_eq : waitersFail lost s =
    faultSyncs lost (faultClears lost (faultDue lost (openLost lost (passOn lost s)))) := rfl

theorem passOn_stays : FlashesStay s (passOn lost s) := .foldl (fun a f => offerVolatile_stays a f) _ s

theorem openLost_stays : FlashesStay s (openLost lost s) := by
  unfold openLost
  split
  · split
    · exact .of_eq rfl rfl rfl
    · exact .refl s
  · exact .refl s

theorem faultDue_stays : FlashesStay s (faultDue lost s) :=
  FlashesStay.source (.foldl (fun a _ => deliver_complete_stays a _ _) _ _) rfl rfl rfl

theorem faultClears_stays : FlashesStay s (faultClears lost s) :=
  FlashesStay.source (.foldl (fun a _ => finish_stays a _ _ _) _ _) rfl rfl rfl

theorem faultSyncs_stays : FlashesStay s (faultSyncs lost s) :=
  FlashesStay.source (.foldl (fun a _ => finish_stays a _ _ _) _ _) rfl rfl rfl

theorem waitersFail_stays : FlashesStay s (waitersFail lost s) := by
  rw [waitersFail_eq]
  exact ((passOn_stays ..).trans (openLost_stays ..)).trans
    ((faultDue_stays ..).trans ((faultClears_stays ..).trans (faultSyncs_stays ..)))

theorem compactFail_stays (stop : Bool) : FlashesStay s (compactFail stop s) := by
  unfold compactFail
  split
  · exact FlashesStay.source (finish_stays ..) rfl rfl rfl
  · exact .of_eq rfl rfl rfl

end

/-! ### JNL_FLASH_FAIL (R456) -/

/-- The journal without a flash. -/
def withoutFlash (flash : Nat) (j : Jnl) : Jnl :=
  if flash = 0 then { j with f0 := false, behind0 := false, err0 := satAdd 16 j.err0 1 }
  else { j with f1 := false, behind1 := false, err1 := satAdd 16 j.err1 1 }

/-- The flash is in service, or is written from the next checkpoint on. -/
def FlashUsed (flash : Nat) (j : Jnl) : Prop :=
  (flash = 0 ∧ (j.f0 || j.behind0) = true) ∨ (flash = 1 ∧ (j.f1 || j.behind1) = true)

section
variable {flash addr : Nat} {s : State}

theorem jnlFlashFail_fails (hused : FlashUsed flash s.jnl) : ∃ x,
    FlashesStay { s with jnl := withoutFlash flash s.jnl } x ∧ jnlFlashFail flash addr s = raise 0x11 flash 1 addr x :=
  ⟨_, (waitersFail_stays _ _).trans (compactFail_stays ..), if_pos hused⟩

theorem jnlFlashFail_idle (h : ¬ FlashUsed flash s.jnl) : jnlFlashFail flash addr s = s := if_neg h

/-- A flash in use that fails leaves service, is counted and reported. -/
theorem flash_fails (hheld : s.hif.held = []) (hused : FlashUsed flash s.jnl) :
    Does (.jnlFlashFail flash addr) s (fun t => engines t = engines s ∧
      flashesOf t.jnl = flashesOf (withoutFlash flash s.jnl) ∧ Reported 0x11 flash 1 s t) := by
  obtain ⟨x, hstays, hx⟩ := jnlFlashFail_fails (addr := addr) (s := { s with out := [] }) hused
  have heng := jnlFlashFail_eng flash addr { s with out := [] }
  obtain ⟨f, e, hraise⟩ := raise_eq 0x11 flash 1 addr x
  refine does_waking rfl hx ?_ ⟨?_, ?_, ?_⟩
  · rw [raise_hif]
    exact hstays.held.trans hheld
  · rw [settle_eng, ← hx, heng]
    rfl
  · rw [settle_jnl, hraise]
    exact hstays.flashes
  · have hreported := raise_reported 0x11 flash 1 addr x
    have hgrows := hstays.grows.1
    exact ⟨by have := hreported.1; simp only [settle_total] at this hgrows ⊢; omega, hreported.2⟩

/-- What the journal of a failed flash 0 shows. -/
theorem flashesOf_without_zero {j k : Jnl} (h : flashesOf k = flashesOf (withoutFlash 0 j)) : k.f0 = false ∧
    k.behind0 = false ∧ k.f1 = j.f1 ∧ k.err0 = satAdd 16 j.err0 1 ∧ k.err1 = j.err1 := by
  simp only [flashesOf, withoutFlash, if_true, Prod.mk.injEq] at h
  obtain ⟨hf0, hf1, hbehind0, -, herr0, herr1⟩ := h
  exact ⟨hf0, hbehind0, hf1, herr0, herr1⟩

/-- What the journal of a failed flash 1 shows. -/
theorem flashesOf_without_one {j k : Jnl} (h : flashesOf k = flashesOf (withoutFlash 1 j)) : k.f1 = false ∧
    k.behind1 = false ∧ k.f0 = j.f0 ∧ k.err1 = satAdd 16 j.err1 1 ∧ k.err0 = j.err0 := by
  simp only [flashesOf, withoutFlash, one_ne_zero, if_false, Prod.mk.injEq] at h
  obtain ⟨hf0, hf1, -, hbehind1, herr0, herr1⟩ := h
  exact ⟨hf1, hbehind1, hf0, herr1, herr0⟩

theorem not_flashUsed {j : Jnl} (h : (flash = 0 → j.f0 = false ∧ j.behind0 = false) ∧
    (flash = 1 → j.f1 = false ∧ j.behind1 = false)) : ¬ FlashUsed flash j := by
  rintro (⟨hflash, hused⟩ | ⟨hflash, hused⟩)
  · obtain ⟨hf, hbehind⟩ := h.1 hflash
    rw [hf, hbehind] at hused
    exact Bool.false_ne_true hused
  · obtain ⟨hf, hbehind⟩ := h.2 hflash
    rw [hf, hbehind] at hused
    exact Bool.false_ne_true hused

end

/-- Settles O56: a commit marks its record and, in both flashes, lets go what waits; a flash in use that fails leaves
service; a compaction starts where it is due. -/
theorem recordsCommitAndFlashesFail : Obligations.RecordsCommitAndFlashesFail := by
  intro s q flash addr hheld
  refine ⟨fun hno => ?_, fun r hr => ⟨fun h0 h1 => ?_, commit_marks hr hheld, fun num first es =>
    commit_endsBatch hr hheld, fun h0 h1 hplain hclears hsyncs hreq => ⟨fun f =>
    commit_accepts hr hheld h0 h1 hplain hclears hsyncs hreq, fun d =>
    commit_answers hr hheld h0 h1 hplain hclears hsyncs hreq⟩⟩, fun hused => ?_, fun hused => ?_, fun hunused => ?_,
    compaction_starts, fun hno => ?_, erase_frees, fun hclean => ?_⟩
  · exact still_waking hheld rfl (jnlRecordCommit_closed (s := { s with out := [] }) hno)
  · exact still_waking hheld rfl (jnlRecordCommit_unwritten (s := { s with out := [] }) hr h0 h1)
  · refine (flash_fails (addr := addr) hheld (.inl ⟨rfl, hused⟩)).imp fun t ⟨heng, hflashes, hreported⟩ => ?_
    obtain ⟨hf0, hbehind, hf1, herr0, herr1⟩ := flashesOf_without_zero hflashes
    exact ⟨heng, hf0, hbehind, hf1, herr0, herr1, hreported⟩
  · refine (flash_fails (addr := addr) hheld (.inr ⟨rfl, hused⟩)).imp fun t ⟨heng, hflashes, hreported⟩ => ?_
    obtain ⟨hf1, hbehind, hf0, herr1, herr0⟩ := flashesOf_without_one hflashes
    exact ⟨heng, hf1, hbehind, hf0, herr1, herr0, hreported⟩
  · exact still_waking hheld rfl (jnlFlashFail_idle (s := { s with out := [] }) (not_flashUsed hunused))
  · exact does_effect (compaction_waits (s := { s with out := [] }) hno) ⟨rfl, rfl, rfl⟩
  · exact does_effect (if_pos hclean) ⟨rfl, rfl, rfl⟩

end Sys2Proof

/-! The device state. -/

namespace Sys2Proof

open Sys2Proof.Machine

/-! ### What moves the device state (R393, R395, R398, R482) -/

/-- The commands that may move the device state: the rim, the resets, and the start-up. -/
def movesState : Instr → Bool
  | .rim _ | .powerOn | .powerLoss | .boardReset | .devRestartExpire | .fatalRestart _ | .leaveReset _
  | .startUpStep _ => true
  | _ => false

theorem movesState_eq_false (c : Instr) (hrim : ∀ inp, c ≠ .rim inp) (hon : c ≠ .powerOn) (hloss : c ≠ .powerLoss)
    (hreset : c ≠ .boardReset) (hexpire : c ≠ .devRestartExpire) (hfatal : ∀ n, c ≠ .fatalRestart n)
    (hleave : ∀ n, c ≠ .leaveReset n) (hstart : ∀ inp, c ≠ .startUpStep inp) : movesState c = false := by
  unfold movesState
  split
  · exact absurd rfl (hrim _)
  · exact absurd rfl hon
  · exact absurd rfl hloss
  · exact absurd rfl hreset
  · exact absurd rfl hexpire
  · exact absurd rfl (hfatal _)
  · exact absurd rfl (hleave _)
  · exact absurd rfl (hstart _)
  · rfl

/-- Every other command is made of operations that each keep the device state. -/
theorem effect_keeps_st (c : Instr) (s : State) (hc : movesState c = false) : (keep (effect c s)).st = (keep s).st := by
  cases c with
  | rim | powerOn | powerLoss | boardReset | devRestartExpire | fatalRestart | leaveReset | startUpStep => cases hc
  | _ => simp [effect]

/-- Settles O6: a command's effect that is none of the exceptions keeps the device state, and so does what surrounds
it. -/
theorem deviceStateMovesAtRims : Obligations.DeviceStateMovesAtRims := by
  intro c s t h hrim hon hloss hreset hexpire hfatal hleave hstart
  have hc := movesState_eq_false c hrim hon hloss hreset hexpire hfatal hleave hstart
  exact (congrArg Kept.st (keep_of_exec h)).trans (effect_keeps_st c { s with out := [] } hc)

end Sys2Proof

/-! Host commands that only answer: identity, status and reads, and the transitions that wait. -/

namespace Sys2Proof

open Sys2Proof.Machine

/-! ### Host commands that only answer -/

section
variable {c : Instr} {op : Nat} {h : CmdHdr} {states : DevState → Bool} {own : State → State} {s : State}

/-- An own effect that is its final reply where it begins answers it, and no block of the converter changes. -/
theorem HostRow.repliesFrom (row : HostRow c op h states own) (m : MayRun op h states s) (ho : PairOpen s h.pair)
    (hd : Delivers op s) {st : Nat} {data : List Byte}
    (hown : ∀ x, Began s x → own x = finish { h := h, op := op } st data x) :
    Does c s (fun t => Answers op h st data s t ∧ engines t = engines s) :=
  host_answers c op h states own s row.runs m row.held ho hd st data (hown _ (taken_began ..))

theorem delivers_of_acts (ha : acts s = true) : Delivers op s := by simp [Delivers, ha]

theorem delivers_of_session (hop : isSession op = true) : Delivers op s := by simp [Delivers, hop]

end

/-! ### Session, identity and status (R399, R400) -/

/-- The reply data of SESSION_INFO to the ring pair `k` (R400). -/
def infoData (s : State) (k : Nat) : List Byte :=
  let p := s.hif.pairs.getD k RPair.reset
  leBytes 1 (roleCode s.pair.role) ++ leBytes 1 (b2n s.pair.sys) ++ leBytes 1 (devCode s.st) ++
    leBytes 1 revLetter ++ leBytes 2 s.pwr.compat ++ leBytes 2 (Config.firmware % 2 ^ 16) ++ leBytes 1 p.gen ++
    leBytes 1 k ++ leBytes 2 0 ++ leBytes 4 p.next ++ leBytes 8 s.frm.g ++ leBytes 8 (Config.uid % 2 ^ 64)

theorem sessionInfo_eq (c : Ctx) (s : State) : sessionInfo c s = finish c 0 (infoData s c.h.pair) s := rfl

theorem infoData_began {s x : State} (hx : Began s x) (k : Nat) : infoData x k = infoData s k := by
  obtain ⟨_, _, _, _, _, _, rfl⟩ := hx
  rfl

theorem convData_began {s x : State} (hx : Began s x) :
    convData x x.st false x.frm.count = convData s s.st false s.frm.count := by
  obtain ⟨_, _, _, _, _, _, rfl⟩ := hx
  rfl

theorem hostRow_sessionInfo (h : CmdHdr) :
    HostRow (.sessionInfo h) 0x0000 h stAny (sessionInfo { h := h, op := 0x0000 }) := ⟨rfl, sessionInfo_held _⟩

theorem hostRow_fcs1Ident (h : CmdHdr) :
    HostRow (.fcs1Ident h) 0x10001 h stAny (sessionInfo { h := h, op := 0x10001 }) := ⟨rfl, sessionInfo_held _⟩

theorem hostRow_echo (h : CmdHdr) (v : Nat) :
    HostRow (.echo h v) 0x0001 h stAny (done { h := h, op := 0x0001 } (leBytes 8 v)) := ⟨rfl, done_held _ _⟩

theorem hostRow_fcs1Nop (h : CmdHdr) (v : Nat) :
    HostRow (.fcs1Nop h v) 0x10002 h stAny (done { h := h, op := 0x10002 } (leBytes 8 v)) := ⟨rfl, done_held _ _⟩

theorem hostRow_convStatus (h : CmdHdr) :
    HostRow (.convStatus h) 0x0200 h stAny (convStatus { h := h, op := 0x0200 }) := ⟨rfl, convStatus_held _⟩

/-- Both identity commands answer the information of their ring pair. -/
theorem info_answered {c : Instr} {op : Nat} {h : CmdHdr} {s : State}
    (row : HostRow c op h stAny (sessionInfo { h := h, op := op })) (hop : isSession op = true)
    (m : MayRun op h stAny s) (ho : PairOpen s h.pair) :
    Does c s (fun t => Answers op h 0 (infoData s h.pair) s t ∧ engines t = engines s) :=
  row.repliesFrom m ho (delivers_of_session hop) fun x hx => by rw [sessionInfo_eq, infoData_began hx]

/-- Settles O11: each command is its final reply, of what the state holds at execution or of the bytes sent. What
the replies read at execution is the choice of log 55, the firmware and the identity that of log 7. -/
theorem identityAndStatusAreAnswered : Obligations.IdentityAndStatusAreAnswered := by
  intro s h v ho
  refine ⟨fun m => ?_, fun m => ?_, fun m => ?_, fun m => ?_, fun m ha => ?_⟩
  · exact info_answered (hostRow_sessionInfo h) rfl m ho
  · exact info_answered (hostRow_fcs1Ident h) rfl m ho
  · exact (hostRow_echo h v).repliesFrom m ho (delivers_of_session rfl) fun _ _ => rfl
  · exact (hostRow_fcs1Nop h v).repliesFrom m ho (delivers_of_session rfl) fun _ _ => rfl
  · exact (hostRow_convStatus h).repliesFrom m ho (delivers_of_acts ha) fun x hx => by
      rw [← convData_began hx]
      rfl

/-! ### Transitions without a check of their own (R393, R396) -/

/-- A transition without a check of its own waits for the rim. -/
theorem HostRow.awaitsRim {c : Instr} {op : Nat} {h : CmdHdr} {states : DevState → Bool} {target : DevState} {s : State}
    (row : HostRow c op h states (convWait { h := h, op := op } target)) (m : MayRun op h states s) :
    Does c s (AwaitsRim op h target s) :=
  row.doesFrom m fun _ hx => convWait_awaits hx op h target

/-- Settles O13: each of the nine commands is one transition, which waits from its states with its target. -/
theorem transitionsWaitForTheRim : Obligations.TransitionsWaitForTheRim := by
  intro s h x hx m
  refine HostRow.awaitsRim ?_ m
  simp only [List.mem_cons, List.not_mem_nil, or_false] at hx
  rcases hx with rfl | rfl | rfl | rfl | rfl | rfl | rfl | rfl | rfl <;> exact ⟨rfl, convWait_held _ _⟩

/-! ### Results in an output buffer (R391) -/

section
variable {c : Ctx} {b : OutBuf} {bytes data : List Byte} {eff : State → State} {s : State}

theorem toBuffer_fills (haddr : b.addr % 8 = 0) (hroom : bytes.length ≤ b.len) (hok : b.ok = true) :
    toBuffer c b bytes data eff s = finish c 0 data ((eff s).emit (.host b.addr bytes)) :=
  (if_neg (not_not_intro haddr)).trans ((if_neg (Nat.not_lt.mpr hroom)).trans (if_pos hok))

theorem toBuffer_short (haddr : b.addr % 8 = 0) (hshort : b.len < bytes.length) :
    toBuffer c b bytes data eff s = finish c 0x0207 (leBytes 4 bytes.length) s :=
  (if_neg (not_not_intro haddr)).trans (if_pos hshort)

end

/-- A host command that ends with its reply behind a write of `bytes` to its buffer, in a state with the ring pairs, the
role and the blocks of the converter of the state before, answers it and emits the bytes; what holds at the end of the
reply holds too. -/
theorem HostRow.fillsBufferAnd {c : Instr} {op : Nat} {h : CmdHdr} {states : DevState → Bool} {own : State → State}
    {s : State} (row : HostRow c op h states own) (m : MayRun op h states s) (ho : PairOpen s h.pair)
    (ha : acts s = true) {b : OutBuf} {bytes data : List Byte} {P : State → Prop}
    (hown : ∀ x, Began s x → ∃ y : State, own x = finish { h := h, op := op } 0 data (y.emit (.host b.addr bytes)) ∧
      y.hif.pairs = s.hif.pairs ∧ y.pair.role = s.pair.role ∧ engines y = engines s ∧
      P (settle (finish { h := h, op := op } 0 data (y.emit (.host b.addr bytes))))) :
    Does c s (fun t => Answers op h 0 data s t ∧ engines t = engines s ∧ .host b.addr bytes ∈ t.out ∧ P t) :=
  row.answersFrom m ho ha fun x hx => by
    obtain ⟨y, hfin, hpairs, hrole, heng, hP⟩ := hown x hx
    refine ⟨y.emit (.host b.addr bytes), hfin, hpairs, hrole, ?_, ?_, hP⟩
    · exact (settle_eng _).trans ((finish_eng ..).trans ((State_emit_eng ..).trans heng))
    · rw [settle_out, finish_out]
      exact List.mem_append_right _ (List.mem_singleton.mpr rfl)

/-- The same without more to say of the end of the reply. -/
theorem HostRow.fillsBuffer {c : Instr} {op : Nat} {h : CmdHdr} {states : DevState → Bool} {own : State → State}
    {s : State} (row : HostRow c op h states own) (m : MayRun op h states s) (ho : PairOpen s h.pair)
    (ha : acts s = true) {b : OutBuf} {bytes data : List Byte}
    (hown : ∀ x, Began s x → ∃ y : State, own x = finish { h := h, op := op } 0 data (y.emit (.host b.addr bytes)) ∧
      y.hif.pairs = s.hif.pairs ∧ y.pair.role = s.pair.role ∧ engines y = engines s) :
    Does c s (fun t => Answers op h 0 data s t ∧ engines t = engines s ∧ .host b.addr bytes ∈ t.out) := by
  refine (row.fillsBufferAnd m ho ha (P := fun _ => True) fun x hx => ?_).imp
    fun t ⟨hans, heng, hout, _⟩ => ⟨hans, heng, hout⟩
  obtain ⟨y, hfin, hpairs, hrole, heng⟩ := hown x hx
  exact ⟨y, hfin, hpairs, hrole, heng, trivial⟩

/-! ### Reads of parameters (R402, R409) -/

theorem leBytes_length (n x : Nat) : (leBytes n x).length = n := by
  induction n generalizing x with
  | zero => rfl
  | succ n ih => exact congrArg (· + 1) (ih _)

/-- PARAM_BLOCK_GET writes 24 bytes for an ID, existing or not. -/
theorem blockGetBytes_length (s : State) (id : Nat) : (blockGetBytes s id).length = 24 := by
  unfold blockGetBytes
  split <;> simp [leBytes_length]

/-- The bytes that PARAM_BLOCK_GET writes for `count` IDs from `first` on. -/
def blockBytes (s : State) (first count : Nat) : List Byte :=
  (List.range count).flatMap (fun i => blockGetBytes s (first + i))

theorem blockBytes_length (s : State) (first count : Nat) : (blockBytes s first count).length = 24 * count := by
  simp [blockBytes, List.length_flatMap, blockGetBytes_length, Nat.mul_comm]

/-- The reply data of PARAM_GET (R402). -/
def getData (s : State) (id : Nat) : List Byte :=
  leBytes 2 id ++ [BitVec.ofNat 8 (b2n (pendingOf s id).isSome), 0, 0, 0, 0, 0] ++
    leBytes 8 (toBits 64 (s.pI id)) ++ leBytes 8 (toBits 64 ((pendingOf s id).getD 0))

/-- The reply data of FCS-1 GET_PARAM (R409). -/
def getData1 (s : State) (id : Nat) : List Byte :=
  leBytes 2 id ++ [BitVec.ofNat 8 (b2n (pendingOf s id).isSome +
      4 * b2n (wideVal (s.pI id) || wideVal ((pendingOf s id).getD 0))), 0, 0, 0, 0, 0] ++
    leBytes 4 (toBits 32 (s.pI id)) ++ leBytes 4 (toBits 32 ((pendingOf s id).getD 0))

section
variable {c : Ctx} {id : Nat} {s x : State}

theorem paramGet_known (hid : (pspec id).isSome = true) : paramGet c id s = finish c 0 (getData s id) s :=
  if_neg (by simp [Option.isSome_iff_ne_none.mp hid])

theorem paramGet_unknown (hid : (pspec id).isNone = true) : paramGet c id s = finish c 0x0202 [] s := if_pos hid

theorem getParam1_known (hid : (pspec id).isSome = true) : getParam1 c id s = finish c 0 (getData1 s id) s :=
  if_neg (by simp [Option.isSome_iff_ne_none.mp hid])

theorem paramBlockGet_fills {count : Nat} {b : OutBuf} (h1 : 1 ≤ count) (h4096 : count ≤ 4096)
    (hids : id + count ≤ 0x10000) (hroom : 24 * count ≤ b.len) (haddr : b.addr % 8 = 0) (hok : b.ok = true) :
    paramBlockGet c id count b s =
      finish c 0 (leBytes 4 (24 * count)) (s.emit (.host b.addr (blockBytes s id count))) :=
  (if_neg (by omega)).trans (toBuffer_fills haddr (by rwa [← blockBytes, blockBytes_length]) hok)

/-- What is read of the parameters does not see what stands before an own effect begins. -/
theorem getData_began (hx : Began s x) : getData x id = getData s id := by
  obtain ⟨_, _, _, _, _, _, rfl⟩ := hx
  rfl

theorem getData1_began (hx : Began s x) : getData1 x id = getData1 s id := by
  obtain ⟨_, _, _, _, _, _, rfl⟩ := hx
  rfl

theorem blockBytes_began (hx : Began s x) (first count : Nat) :
    blockBytes x first count = blockBytes s first count := by
  obtain ⟨_, _, _, _, _, _, rfl⟩ := hx
  rfl

end

theorem hostRow_paramGet (h : CmdHdr) (id : Nat) :
    HostRow (.paramGet h id) 0x0100 h stAny (paramGet { h := h, op := 0x0100 } id) := ⟨rfl, paramGet_held _ _⟩

theorem hostRow_fcs1GetParam (h : CmdHdr) (id : Nat) :
    HostRow (.fcs1GetParam h id) 0x10010 h stAny (getParam1 { h := h, op := 0x10010 } id) := ⟨rfl, getParam1_held _ _⟩

theorem hostRow_paramBlockGet (h : CmdHdr) (first count : Nat) (b : OutBuf) :
    HostRow (.paramBlockGet h first count b) 0x0103 h stAny (paramBlockGet { h := h, op := 0x0103 } first count b) :=
  ⟨rfl, paramBlockGet_held _ _ _ _⟩

/-- Settles O12: a read is its final reply of what the parameters hold, a block of them behind the write of its
bytes. -/
theorem parametersAreRead : Obligations.ParametersAreRead := by
  intro s h id ho ha
  have hd : ∀ op, Delivers op s := fun _ => delivers_of_acts ha
  refine ⟨fun m hid => ?_, fun m hid => ?_, fun m hid => ?_, fun count b m h1 h4096 hids hroom haddr hok => ?_⟩
  · exact (hostRow_paramGet h id).repliesFrom m ho (hd _) fun x hx => by
      rw [paramGet_known hid, getData_began hx, getData]
  · exact (hostRow_paramGet h id).repliesFrom m ho (hd _) fun _ _ => paramGet_unknown hid
  · exact (hostRow_fcs1GetParam h id).repliesFrom m ho (hd _) fun x hx => by
      rw [getParam1_known hid, getData1_began hx, getData1]
  · refine (hostRow_paramBlockGet h id count b).fillsBuffer m ho ha fun x hx =>
      ⟨x, ?_, hx.pairs, hx.role, hx.engines⟩
    rw [paramBlockGet_fills h1 h4096 hids hroom haddr hok, blockBytes_began hx, blockBytes]

end Sys2Proof

/-! The transient recorder: arms, triggers and disarms by command. -/

namespace Sys2Proof

open Sys2Proof.Machine

/-! ### Host commands that change some blocks of the converter and answer -/

/-- An own effect that ends with its final reply, in a state that has the ring pairs and the role of the state before,
answers it and leaves the blocks of the converter that stand there. -/
theorem HostRow.answersWith {c : Instr} {op : Nat} {h : CmdHdr} {states : DevState → Bool} {own : State → State}
    {s : State} (row : HostRow c op h states own) (m : MayRun op h states s) (ho : PairOpen s h.pair)
    (ha : acts s = true) {st : Nat} {data : List Byte} {P : Engines → Prop}
    (hown : ∀ x, Began s x → ∃ y : State, own x = finish { h := h, op := op } st data y ∧
      y.hif.pairs = s.hif.pairs ∧ y.pair.role = s.pair.role ∧ P (engines y)) :
    Does c s (fun t => Answers op h st data s t ∧ P (engines t)) :=
  row.answersFrom m ho ha fun x hx => by
    obtain ⟨y, hfin, hpairs, hrole, hP⟩ := hown x hx
    refine ⟨y, hfin, hpairs, hrole, ?_⟩
    rw [settle_eng, finish_eng]
    exact hP

/-! ### TRC_ARM (R408, R432) -/

/-- The recorder can be armed: it is in IDLE or DONE, and no arm waits for its rim. -/
def TrcIdle (s : State) : Prop := (s.trc.st = 0 ∨ s.trc.st = 5) ∧ s.trc.armDue = false

/-- The recorder is armed for the next rim from segment 0 on, with no segment done; beside it the parameters that wait
for the arm may have changed. -/
def ArmedFrom (s : State) (e : Engines) : Prop :=
  e.trc.armDue = true ∧ e.trc.seg = 0 ∧ e.trc.doneMap = 0 ∧ e.trc.st = s.trc.st ∧
    e = { engines s with trc := e.trc, params := e.params }

theorem trcArm_arms (s : State) : ArmedFrom s (engines (trcArm s)) := ⟨rfl, rfl, rfl, rfl, rfl⟩

section
variable {c : Ctx} {s : State}

theorem trcIdle_iff : TrcIdle s ↔ ¬ (¬ (s.trc.st = 0 ∨ s.trc.st = 5) ∨ s.trc.armDue = true) := by
  rw [TrcIdle, not_or, not_not, Bool.not_eq_true]

theorem trcArmCmd_busy (hbusy : ¬ TrcIdle s) : trcArmCmd c s = refuse c 0x0301 s :=
  if_pos (not_not.mp (mt trcIdle_iff.mpr hbusy))

theorem trcArmCmd_noSrc (hidle : TrcIdle s) (hsrc : trcNoSrc s = true) : trcArmCmd c s = refuse c 0x0203 s :=
  (if_neg (trcIdle_iff.mp hidle)).trans (if_pos hsrc)

theorem trcArmCmd_noMem (hidle : TrcIdle s) (hsrc : trcNoSrc s = false) (hmem : tb s.pwr.on 4 = false) :
    trcArmCmd c s = refuse c 0x0302 s :=
  (if_neg (trcIdle_iff.mp hidle)).trans ((if_neg (Bool.eq_false_iff.mp hsrc)).trans (if_pos hmem))

theorem trcArmCmd_arms (hidle : TrcIdle s) (hsrc : trcNoSrc s = false) (hmem : tb s.pwr.on 4 = true) :
    trcArmCmd c s = finish c 0 [] (trcArm s) :=
  (if_neg (trcIdle_iff.mp hidle)).trans ((if_neg (Bool.eq_false_iff.mp hsrc)).trans
    (if_neg (by rw [hmem]; exact Bool.noConfusion)))

end

/-- TRC_ARM and FCS-1 CAPTURE_ARM are one arm. -/
theorem hostRow_trcArm {h : CmdHdr} {x : Instr × Nat}
    (hx : x ∈ [(Instr.trcArm h, 0x0600), (.fcs1CaptureArm h, 0x10060)]) :
    HostRow x.1 x.2 h stUp (trcArmCmd { h := h, op := x.2 }) := by
  simp only [List.mem_cons, List.not_mem_nil, or_false] at hx
  rcases hx with rfl | rfl <;> exact ⟨rfl, trcArmCmd_held _⟩

section
variable {i : Instr} {op : Nat} {h : CmdHdr} {s : State}

theorem arm_arms (row : HostRow i op h stUp (trcArmCmd { h := h, op := op })) (m : MayRun op h stUp s)
    (ho : PairOpen s h.pair) (ha : acts s = true) (hidle : TrcIdle s) (hsrc : trcNoSrc s = false)
    (hmem : tb s.pwr.on 4 = true) : Does i s (fun t => Answers op h 0 [] s t ∧ ArmedFrom s (engines t)) :=
  row.answersWith m ho ha fun
    | x, ⟨_, _, _, _, _, _, hx⟩ => by
      subst hx
      exact ⟨_, trcArmCmd_arms hidle hsrc hmem, rfl, rfl, trcArm_arms _⟩

theorem arm_refused (row : HostRow i op h stUp (trcArmCmd { h := h, op := op })) (m : MayRun op h stUp s)
    (ho : PairOpen s h.pair) (ha : acts s = true) {st : Nat}
    (hbad : (¬ TrcIdle s ∧ st = 0x0301) ∨ (TrcIdle s ∧ trcNoSrc s = true ∧ st = 0x0203) ∨
      (TrcIdle s ∧ trcNoSrc s = false ∧ tb s.pwr.on 4 = false ∧ st = 0x0302)) :
    Does i s (fun t => Answers op h st [] s t ∧ engines t = engines s) := by
  refine row.refusesFrom m ho ha fun | x, ⟨_, _, _, _, _, _, hx⟩ => ?_
  subst hx
  rcases hbad with ⟨hbusy, rfl⟩ | ⟨hidle, hsrc, rfl⟩ | ⟨hidle, hsrc, hmem, rfl⟩
  · exact trcArmCmd_busy hbusy
  · exact trcArmCmd_noSrc hidle hsrc
  · exact trcArmCmd_noMem hidle hsrc hmem

end

/-! ### TRC_TRIGGER (R408, R436) -/

/-- The recorder is in POST by a trigger by command at an instant. -/
def InPost (g : Nat) (q : Trc) : Prop := q.st = 3 ∧ q.src = 4 ∧ q.trigG = g ∧ q.trigSlot = 0xFF

/-- A trigger by command in READY starts POST. -/
theorem trcTrig_ready {s : State} {g : Nat} (hready : s.trc.st = 2) : InPost g (trcTrig 4 0xFF g s).trc := by
  have hcode : ¬ (4 < 4 ∧ tb (s.p 0xF015) 4 = false) := fun hlt => Nat.lt_irrefl _ hlt.1
  simp only [trcTrig, if_neg hcode, if_pos hready]
  generalize hy : trcHeader 2 _ = y
  obtain ⟨n, out, hfire⟩ := fireOut_eq 4 y
  rw [hfire, ← hy]
  exact ⟨rfl, rfl, rfl, rfl⟩

/-- Elsewhere a trigger leaves the state of the recorder. -/
theorem trcTrig_st {s : State} {code slot g : Nat} (hready : s.trc.st ≠ 2) :
    (trcTrig code slot g s).trc.st = s.trc.st := by
  simp only [trcTrig, if_neg hready]
  (repeat' split) <;> rfl

theorem trcTrig_leaves (code slot g : Nat) (s : State) :
    (trcTrig code slot g s).hif = s.hif ∧ (trcTrig code slot g s).pair = s.pair ∧
      engines (trcTrig code slot g s) = { engines s with trc := (trcTrig code slot g s).trc } := by
  obtain ⟨q, out, h⟩ := trcTrig_eq code slot g s
  rw [h]
  exact ⟨rfl, rfl, rfl⟩

/-- TRC_TRIGGER and FCS-1 CAPTURE_FORCE are one trigger. -/
theorem hostRow_trcTrigger {h : CmdHdr} {x : Instr × Nat}
    (hx : x ∈ [(Instr.trcTrigger h, 0x0602), (.fcs1CaptureForce h, 0x10061)]) :
    HostRow x.1 x.2 h stUp (trcTrigger { h := h, op := x.2 }) := by
  simp only [List.mem_cons, List.not_mem_nil, or_false] at hx
  rcases hx with rfl | rfl <;> exact ⟨rfl, trcTrigger_held _⟩

/-- A trigger by command answers whether it is ignored, and leaves the recorder that it gives. -/
theorem trigger_answers {i : Instr} {op : Nat} {h : CmdHdr} {s : State} {d : Byte} {P : Trc → Prop}
    (row : HostRow i op h stUp (trcTrigger { h := h, op := op })) (m : MayRun op h stUp s) (ho : PairOpen s h.pair)
    (ha : acts s = true) (hd : BitVec.ofNat 8 (b2n (decide (s.trc.st ≠ 2))) = d)
    (hP : ∀ x : State, x.trc = s.trc → P (trcTrig 4 0xFF h.time x).trc) :
    Does i s (fun t => Answers op h 0 [d] s t ∧ P t.trc ∧ engines t = { engines s with trc := t.trc }) :=
  row.answersWith m ho ha (P := fun e => P e.trc ∧ e = { engines s with trc := e.trc }) fun x hx => by
    obtain ⟨hhif, hpair, heng⟩ := trcTrig_leaves 4 0xFF h.time x
    have htrc : x.trc = s.trc := congrArg Engines.trc hx.engines
    refine ⟨trcTrig 4 0xFF h.time x, ?_, (congrArg Hif.pairs hhif).trans hx.pairs,
      (congrArg Pair.role hpair).trans hx.role, hP x htrc, ?_⟩
    · rw [trcTrigger, htrc, hd]
      rfl
    · exact heng.trans (congrArg (fun e : Engines => { e with trc := (trcTrig 4 0xFF h.time x).trc }) hx.engines)

/-! ### TRC_DISARM (R435) -/

theorem raiseIf_eq (c : Bool) (blk inst kind detail : Nat) (s : State) :
    ∃ f e, raiseIf c blk inst kind detail s = { s with flt := f, evr := e } := by
  unfold raiseIf
  split
  · exact raise_eq ..
  · exact ⟨_, _, rfl⟩

/-- A completed capture is counted; beside the recorder the collector and the event recorder may have changed. -/
theorem trcComplete_eq (flag : Nat) (s : State) : ∃ q f e,
    trcComplete flag s = { s with trc := q, flt := f, evr := e } ∧ q.captures = satAdd 32 s.trc.captures 1 := by
  unfold trcComplete
  simp only
  generalize hy : ({ trcHeader 3 _ with trc := _ } : State) = y
  obtain ⟨f, e, hraise⟩ := raise_eq 0x0F 0 1 s.trc.seg y
  obtain ⟨f', e', hlast⟩ := raiseIf_eq (decide (s.p 0xF012 = 1) && !segsLeft s) 0x0F 0 3 s.trc.seg
    (raise 0x0F 0 1 s.trc.seg y)
  refine ⟨y.trc, f', e', ?_, ?_⟩
  · rw [hlast, hraise, ← hy]
    rfl
  · rw [← hy]
    rfl

/-- A header changes the memory of the recorder alone. -/
theorem trcHeader_eq (st : Nat) (s : State) : ∃ mem, trcHeader st s = { s with trc := { s.trc with mem := mem } } :=
  ⟨_, rfl⟩

section
variable {s : State}

theorem trcDisarm_filling (hst : s.trc.st = 1 ∨ s.trc.st = 2) :
    ∃ q, trcDisarm s = { s with trc := q } ∧ q.st = 0 := by
  obtain ⟨mem, hhead⟩ := trcHeader_eq 4 s
  refine ⟨{ s.trc with mem := mem, st := 0 }, (if_pos hst).trans ?_, rfl⟩
  rw [hhead]

theorem trcDisarm_post (hst : s.trc.st = 3) : ∃ q f e,
    trcDisarm s = { s with trc := q, flt := f, evr := e } ∧ q.st = 5 ∧ q.captures = satAdd 32 s.trc.captures 1 := by
  obtain ⟨q, f, e, hdone, hcap⟩ := trcComplete_eq 8 s
  refine ⟨{ q with st := 5 }, f, e, ?_, rfl, hcap⟩
  refine (if_neg (by omega)).trans ((if_pos hst).trans ?_)
  rw [hdone]

theorem trcDisarm_idle (hst : ¬ (1 ≤ s.trc.st ∧ s.trc.st ≤ 3)) : trcDisarm s = s :=
  (if_neg (by omega)).trans (if_neg (by omega))

end

theorem hostRow_trcDisarm (h : CmdHdr) :
    HostRow (.trcDisarm h) 0x0601 h stUp (fun s => done { h := h, op := 0x0601 } [] (trcDisarm s)) :=
  ⟨rfl, fun _ => (done_held ..).trans (trcDisarm_held _)⟩

/-- TRC_DISARM answers DONE and leaves the recorder that a disarm gives. -/
theorem disarm_answers {h : CmdHdr} {s : State} {P : Trc → Prop} (m : MayRun 0x0601 h stUp s)
    (ho : PairOpen s h.pair) (ha : acts s = true)
    (hdis : ∀ x : State, x.trc = s.trc → ∃ q f e, trcDisarm x = { x with trc := q, flt := f, evr := e } ∧ P q) :
    Does (.trcDisarm h) s (fun t =>
      Answers 0x0601 h 0 [] s t ∧ P t.trc ∧ engines t = { engines s with trc := t.trc }) :=
  (hostRow_trcDisarm h).answersWith m ho ha (P := fun e => P e.trc ∧ e = { engines s with trc := e.trc }) fun x hx => by
    obtain ⟨q, f, e, heq, hP⟩ := hdis x (congrArg Engines.trc hx.engines)
    refine ⟨_, rfl, ?_⟩
    rw [heq]
    exact ⟨hx.pairs, hx.role, hP, congrArg (fun e : Engines => { e with trc := q }) hx.engines⟩

/-- Settles O29: an arm is a chain of checks before it arms, a trigger starts POST or is ignored, and a disarm ends what
the recorder is at. That a trigger outside FILLING, READY and POST is ignored, and that a disarm in POST ends in DONE,
are choices of log 46. -/
theorem recorderIsArmedTriggeredAndStopped : Obligations.RecorderIsArmedTriggeredAndStopped := by
  intro s h ho ha
  refine ⟨fun x hx m => ⟨fun hidle hsrc hmem => ?_, fun st hbad => ?_⟩,
    fun x hx m => ⟨fun hready => ?_, fun hready => ?_⟩, fun m => ⟨fun hst => ?_, fun hst => ?_, fun hst => ?_⟩⟩
  · exact arm_arms (hostRow_trcArm hx) m ho ha hidle hsrc hmem
  · exact arm_refused (hostRow_trcArm hx) m ho ha hbad
  · refine (trigger_answers (d := 0) (P := InPost h.time) (hostRow_trcTrigger hx) m ho ha (by simp [hready, b2n])
      fun y hy => trcTrig_ready (hy ▸ hready)).imp
      fun t ⟨hans, ⟨hst, hsrc, hg, hslot⟩, heng⟩ => ⟨hans, hst, hsrc, hg, hslot, heng⟩
  · exact trigger_answers (d := 1) (P := fun q => q.st = s.trc.st) (hostRow_trcTrigger hx) m ho ha
      (by simp [hready, b2n]) fun y hy => by rw [trcTrig_st (hy ▸ hready), hy]
  · exact disarm_answers (P := fun q => q.st = 0) m ho ha fun y hy => by
      obtain ⟨q, heq, hq⟩ := trcDisarm_filling (s := y) (hy ▸ hst)
      exact ⟨q, _, _, heq, hq⟩
  · refine (disarm_answers (P := fun q => q.st = 5 ∧ q.captures = satAdd 32 s.trc.captures 1) m ho ha
      fun y hy => ?_).imp fun t ⟨hans, ⟨hst, hcap⟩, heng⟩ => ⟨hans, hst, hcap, heng⟩
    rw [← hy]
    exact trcDisarm_post (hy ▸ hst)
  · refine (hostRow_trcDisarm h).repliesFrom m ho (delivers_of_acts ha) fun x hx => ?_
    have htrc : x.trc = s.trc := congrArg Engines.trc hx.engines
    rw [trcDisarm_idle (htrc ▸ hst)]
    rfl

end Sys2Proof

/-! Commands of the journal and of the fault collector. -/

namespace Sys2Proof

open Sys2Proof.Machine

/-! ### JNL_SYNC, JNL_COMPACT and JNL_EXPORT (R408, R456, R457) -/

theorem JnlForm.pair {s t : State} (h : JnlForm s t) : t.pair = s.pair := by
  obtain ⟨_, _, _, _, rfl⟩ := h
  rfl

theorem Began.jnl {s x : State} (hx : Began s x) : x.jnl = s.jnl := by
  obtain ⟨_, _, _, _, _, _, rfl⟩ := hx
  rfl

theorem jnlReach_began {s x : State} (hx : Began s x) : jnlReach x = jnlReach s := by
  rw [jnlReach, hx.jnl, jnlReach]

theorem jnlHealthy_began {s x : State} (hx : Began s x) : jnlHealthy x.toDev = jnlHealthy s.toDev := by
  rw [jnlHealthy, hx.jnl, jnlHealthy]

theorem pendingSeqs_began {s x : State} (hx : Began s x) : pendingSeqs x = pendingSeqs s := by
  rw [pendingSeqs, hx.jnl, pendingSeqs]

section
variable {c : Ctx} {s : State}

theorem jnlSync_free (hhealthy : jnlHealthy s.toDev = true) (hfree : pendingSeqs s = []) :
    jnlSync c s = finish c 0 [] s := by
  simp only [jnlSync, hhealthy, if_true, hfree]
  rfl

theorem jnlSync_waits (hhealthy : jnlHealthy s.toDev = true) (hwait : pendingSeqs s ≠ []) :
    jnlSync c s = { s with jnl := { s.jnl with syncs := s.jnl.syncs ++ [(c.h, c.op, pendingSeqs s)] } } := by
  obtain ⟨q, l, hl⟩ := List.exists_cons_of_ne_nil hwait
  simp only [jnlSync, hhealthy, if_true, hl]

theorem jnlSync_unhealthy (hhealthy : jnlHealthy s.toDev = false) : jnlSync c s = refuse c 0x0405 s :=
  if_neg (Bool.eq_false_iff.mp hhealthy)

/-- What starts a compaction changes the journal, the marked entries and what the collector records. -/
theorem compactStart_jnlForm (w : Option CmdHdr) (s : State) : JnlForm s (compactStart w s) := by
  obtain ⟨x, hform, hstart, -, -, -⟩ := compactStart_eq s w
  rw [hstart]
  exact hform.trans (jnlFullCheck_jnlForm x)

/-- A compaction that starts opens its checkpoint at the next record number, and the command waits for it. -/
theorem compactStart_jnl (w : Option CmdHdr) (s : State) :
    let j := (compactStart w s).jnl
    j.compact = true ∧ j.compHdr = w ∧ j.ckBegin = s.jnl.next := by
  obtain ⟨x, -, hstart, hcompact, hbegin, hhdr⟩ := compactStart_eq s w
  rw [hstart, jnlFullCheck_jnl]
  exact ⟨hcompact, hhdr, hbegin⟩

theorem jnlCompact_busy (hbusy : s.jnl.compact = true) : jnlCompact c s = refuse c 0x0301 s := if_pos hbusy

theorem jnlCompact_starts (hfree : s.jnl.compact = false) (hreach : jnlReach s = true) :
    jnlCompact c s = compactStart (some c.h) s := (if_neg (Bool.eq_false_iff.mp hfree)).trans (if_pos hreach)

/-- Where a flash is out of reach the command is refused, behind a compaction that may start without it. -/
theorem jnlCompact_unreached (hfree : s.jnl.compact = false) (hreach : jnlReach s = false) :
    ∃ y, JnlForm s y ∧ jnlCompact c s = refuse c 0x0405 y := by
  refine ⟨_, ?_, (if_neg (Bool.eq_false_iff.mp hfree)).trans (if_neg (Bool.eq_false_iff.mp hreach))⟩
  split
  · exact compactStart_jnlForm none s
  · exact .refl s

end

/-- The operands of JNL_EXPORT name bytes of a flash. -/
def ExportOk (flash off len : Nat) : Prop := flash ≤ 1 ∧ 8 ≤ len ∧ len ≤ 1048576 ∧ len % 8 = 0 ∧ off + len ≤ 2 ^ 27

/-- The bytes that JNL_EXPORT writes. -/
def exportBytes (s : State) (flash off len : Nat) : List Byte :=
  (List.range len).map (fun i => Config.flashByte s.free (flash * 2 ^ 27 + off + i))

theorem exportBytes_began {s x : State} (hx : Began s x) (flash off len : Nat) :
    exportBytes x flash off len = exportBytes s flash off len := by
  obtain ⟨_, _, _, _, _, _, rfl⟩ := hx
  rfl

theorem exportBytes_length (s : State) (flash off len : Nat) : (exportBytes s flash off len).length = len := by
  simp [exportBytes]

section
variable {c : Ctx} {flash off len : Nat} {b : OutBuf} {s : State}

theorem jnlExport_bad (hbad : ¬ ExportOk flash off len) : jnlExport c flash off len b s = refuse c 0x0203 s :=
  if_pos (by unfold ExportOk at hbad; omega)

theorem jnlExport_fills (hok : ExportOk flash off len) (haddr : b.addr % 8 = 0) (hroom : len ≤ b.len)
    (hbuf : b.ok = true) : jnlExport c flash off len b s =
      finish c 0 [] (s.draw.emit (.host b.addr (exportBytes s flash off len))) :=
  (if_neg (by unfold ExportOk at hok; omega)).trans
    (toBuffer_fills haddr (by rwa [← exportBytes, exportBytes_length]) hbuf)

end

/-- JNL_SYNC and FCS-1 SAVE are one synchronisation. -/
theorem hostRow_jnlSync {h : CmdHdr} {x : Instr × Nat}
    (hx : x ∈ [(Instr.jnlSync h, 0x0700), (.fcs1Save h, 0x10070)]) :
    HostRow x.1 x.2 h stAny (jnlSync { h := h, op := x.2 }) := by
  simp only [List.mem_cons, List.not_mem_nil, or_false] at hx
  rcases hx with rfl | rfl <;> exact ⟨rfl, jnlSync_held _⟩

theorem hostRow_jnlCompact (h : CmdHdr) :
    HostRow (.jnlCompact h) 0x0701 h stUp (jnlCompact { h := h, op := 0x0701 }) := ⟨rfl, jnlCompact_held _⟩

theorem hostRow_jnlExport (h : CmdHdr) (flash off len : Nat) (b : OutBuf) :
    HostRow (.jnlExport h flash off len b) 0x0702 h stAny (jnlExport { h := h, op := 0x0702 } flash off len b) :=
  ⟨rfl, jnlExport_held _ _ _ _ _⟩

section
variable {h : CmdHdr} {s : State}

/-- A synchronisation with records pending waits for exactly these, without a reply. -/
theorem jnlSync_awaits {i : Instr} {op : Nat} (row : HostRow i op h stAny (jnlSync { h := h, op := op }))
    (m : MayRun op h stAny s) (hhealthy : jnlHealthy s.toDev = true) (hwait : pendingSeqs s ≠ []) :
    Does i s (fun t => t.jnl = { s.jnl with syncs := s.jnl.syncs ++ [(h, op, pendingSeqs s)] } ∧
      engines t = engines s ∧ repliesOf t h.pair = repliesOf s h.pair) :=
  row.doesFrom m fun x hx => by
    have hpending := pendingSeqs_began hx
    rw [jnlSync_waits ((jnlHealthy_began hx).trans hhealthy) (hpending ▸ hwait), hpending, hx.jnl]
    exact ⟨rfl, hx.engines, repliesOf_of_pairs hx.pairs _⟩

theorem compact_starts (m : MayRun 0x0701 h stUp s) (hfree : s.jnl.compact = false) (hreach : jnlReach s = true) :
    Does (.jnlCompact h) s (fun t => t.jnl.compact = true ∧ t.jnl.compHdr = some h ∧ t.jnl.ckBegin = s.jnl.next ∧
      engines t = { engines s with rnk := t.rnk } ∧ repliesOf t h.pair = repliesOf s h.pair) :=
  (hostRow_jnlCompact h).doesFrom m fun x hx => by
    have hown : jnlCompact { h := h, op := 0x0701 } x = compactStart (some h) x :=
      jnlCompact_starts (hx.jnl ▸ hfree) ((jnlReach_began hx).trans hreach)
    have hform := compactStart_jnlForm (some h) x
    obtain ⟨hcompact, hhdr, hbegin⟩ := compactStart_jnl (some h) x
    rw [hown]
    generalize compactStart (some h) x = y at hform hcompact hhdr hbegin ⊢
    have heng : engines y = { engines s with rnk := y.rnk } := by rw [hform.eng, hx.engines]
    exact ⟨hcompact, hhdr, hbegin.trans (congrArg Jnl.next hx.jnl), (settle_eng _).trans heng,
      repliesOf_of_pairs ((congrArg Hif.pairs hform.hif).trans hx.pairs) _⟩

theorem compact_unreached (m : MayRun 0x0701 h stUp s) (ho : PairOpen s h.pair) (ha : acts s = true)
    (hfree : s.jnl.compact = false) (hreach : jnlReach s = false) :
    Does (.jnlCompact h) s (fun t => Answers 0x0701 h 0x0405 [] s t ∧ engines t = { engines s with rnk := t.rnk }) :=
  (hostRow_jnlCompact h).answersWith m ho ha (P := fun e => e = { engines s with rnk := e.rnk }) fun x hx => by
    obtain ⟨y, hform, heq⟩ := jnlCompact_unreached (c := { h := h, op := 0x0701 }) (hx.jnl ▸ hfree)
      ((jnlReach_began hx).trans hreach)
    refine ⟨y, heq, (congrArg Hif.pairs hform.hif).trans hx.pairs, (congrArg Pair.role hform.pair).trans hx.role, ?_⟩
    rw [hform.eng, hx.engines]

theorem export_answers {flash off len : Nat} {b : OutBuf} (m : MayRun 0x0702 h stAny s) (ho : PairOpen s h.pair)
    (ha : acts s = true) (hok : ExportOk flash off len) (haddr : b.addr % 8 = 0) (hroom : len ≤ b.len)
    (hbuf : b.ok = true) : Does (.jnlExport h flash off len b) s (fun t =>
      Answers 0x0702 h 0 [] s t ∧ engines t = engines s ∧ .host b.addr (exportBytes s flash off len) ∈ t.out) := by
  refine (hostRow_jnlExport h flash off len b).fillsBuffer m ho ha fun x hx =>
    ⟨x.draw, ?_, hx.pairs, hx.role, hx.engines⟩
  rw [jnlExport_fills hok haddr hroom hbuf, exportBytes_began hx]

end

/-- Settles O31: a synchronisation answers or waits for what is pending, a compaction starts or is refused, and
JNL_EXPORT fills its buffer or is refused by its operands. -/
theorem journalCommandsAreAnswered : Obligations.JournalCommandsAreAnswered := by
  intro s h flash off len b ho ha
  refine ⟨fun x hx m => ⟨fun hhealthy hfree => ?_, fun hhealthy hwait => ?_, fun hhealthy => ?_⟩,
    fun m => ⟨fun hbusy => ?_, fun hfree hreach => ?_, fun hfree hreach => ?_⟩,
    fun m => ⟨fun hok haddr hroom hbuf => ?_, fun hbad => ?_⟩⟩
  · exact (hostRow_jnlSync hx).repliesFrom m ho (delivers_of_acts ha)
      fun | _, ⟨_, _, _, _, _, _, rfl⟩ => jnlSync_free hhealthy hfree
  · exact jnlSync_awaits (hostRow_jnlSync hx) m hhealthy hwait
  · exact (hostRow_jnlSync hx).refusesFrom m ho ha
      fun | _, ⟨_, _, _, _, _, _, rfl⟩ => jnlSync_unhealthy hhealthy
  · exact (hostRow_jnlCompact h).refusesFrom m ho ha
      fun | _, ⟨_, _, _, _, _, _, rfl⟩ => jnlCompact_busy hbusy
  · exact compact_starts m hfree hreach
  · exact compact_unreached m ho ha hfree hreach
  · exact (export_answers m ho ha hok haddr hroom hbuf).imp fun t ⟨hans, heng, hout⟩ =>
      ⟨hans, heng, _, exportBytes_length .., hout⟩
  · exact (hostRow_jnlExport h flash off len b).refusesFrom m ho ha fun _ _ => jnlExport_bad hbad

/-! ### What a completion record can put into the collector (R418–R420, R446, R456) -/

/-- The collector holds at most `n` records, all of the journal or of the event recorder, none coalesced, and `lost` are
lost. -/
structure OwnRecords (n lost : Nat) (d : Flt) : Prop where
  table : d.table = []
  lost  : d.lost = lost
  few   : d.queue.length ≤ n
  own   : ∀ m ∈ d.queue, m.1.blk = 0x11 ∨ m.1.blk = 0x10

section
variable {n lost : Nat} {s : State}

theorem OwnRecords.mono {k : Nat} {d : Flt} (hd : OwnRecords n lost d) (hk : n ≤ k) : OwnRecords k lost d :=
  { hd with few := Nat.le_trans hd.few hk }

/-- A message of the journal or of the event recorder is one more record while there is room. -/
theorem fltCore_own {m : FMsg} (fr : Nat) (hd : OwnRecords n lost s.flt) (hn : n < 256)
    (hm : m.blk = 0x11 ∨ m.blk = 0x10) : OwnRecords (n + 1) lost (fltCore m fr s).1.flt := by
  have hroom : s.flt.queue.length < 256 := Nat.lt_of_le_of_lt hd.few hn
  have hrec : fltRecord m fr s.flt = { s.flt with queue := s.flt.queue ++ [(m, fr)] } := if_pos hroom
  unfold fltCore
  rw [hrec]
  refine ⟨hd.table, hd.lost, ?_, fun x hx => ?_⟩
  · simpa using hd.few
  · rcases List.mem_append.mp hx with hold | hnew
    · exact hd.own x hold
    · rw [List.mem_singleton.mp hnew]
      exact hm

/-- A trigger that is dropped is one record of the event recorder. -/
theorem evrPush_own (tr : Trig) (hd : OwnRecords n lost s.flt) (hn : n < 256) :
    OwnRecords (n + 1) lost (evrPush tr s).flt := by
  have hstays : OwnRecords (n + 1) lost s.flt := hd.mono (Nat.le_succ n)
  have hdropped (x : State) (hx : x.flt = s.flt) :
      OwnRecords (n + 1) lost (fltCore (lostMsg x) x.frm.count x).1.flt :=
    fltCore_own _ (hx ▸ hd) hn (.inr rfl)
  unfold evrPush
  split
  · exact hstays
  split
  · exact hstays
  simp only
  split
  · exact hstays
  split <;> exact hdropped _ rfl

/-- A message of the journal is one record, and one more of the event recorder where its trigger is dropped. -/
theorem raise_own (inst kind detail : Nat) (hd : OwnRecords n lost s.flt) (hn : n < 255) :
    OwnRecords (n + 2) lost (raise 0x11 inst kind detail s).flt := by
  have hcore (m : FMsg) (hm : m.blk = 0x11) : OwnRecords (n + 1) lost (fltCore m s.frm.count s).1.flt :=
    fltCore_own _ hd (Nat.lt_succ_of_lt hn) (.inl hm)
  unfold raise raiseSev fltTake
  simp only
  split
  · exact evrPush_own _ (hcore _ rfl) (by omega)
  · exact (hcore _ rfl).mono (Nat.le_succ _)

theorem raiseIf_own (c : Bool) (inst kind detail : Nat) (hd : OwnRecords n lost s.flt) (hn : n < 255) :
    OwnRecords (n + 2) lost (raiseIf c 0x11 inst kind detail s).flt := by
  unfold raiseIf
  split
  · exact raise_own _ _ _ hd hn
  · exact hd.mono (Nat.le_add_right ..)

theorem jnlAdd_own (pl : JPayload) (hd : OwnRecords n lost s.flt) (hn : n < 255) :
    OwnRecords (n + 2) lost (jnlAdd pl s).flt := by
  unfold jnlAdd
  split
  · exact raiseIf_own _ 0 2 0 hd hn
  · exact hd.mono (Nat.le_add_right ..)

/-- The completion record of a final reply may report the journal full, and a trigger dropped by it. -/
theorem finish_own (c : Ctx) (st : Nat) (data : List Byte) (hd : OwnRecords n lost s.flt) (hn : n < 255) :
    OwnRecords (n + 2) lost (finish c st data s).flt := by
  have hdeliver : ∀ op r x, (deliver op r x).flt = x.flt := fun op r x => by unfold deliver; split <;> rfl
  unfold finish
  split
  · rw [hdeliver]
    exact jnlAdd_own _ hd hn
  · rw [hdeliver]
    exact hd.mono (Nat.le_add_right ..)

end

/-! ### FLT_CLEAR, STATS_CLEAR and FLT_DRAIN (R408, R420, R421) -/

/-- FLT_CLEAR and FCS-1 CLEAR_FAULTS are one clear. -/
theorem hostRow_fltClear {h : CmdHdr} {source kind : Nat} {x : Instr × Nat × Nat × Nat}
    (hx : x ∈ [(Instr.fltClear h source kind, 0x0A00, source, kind), (.fcs1ClearFaults h, 0x10090, 0x3FF, 0xFF)]) :
    HostRow x.1 x.2.1 h stAny (fltClear { h := h, op := x.2.1 } x.2.2.1 x.2.2.2) := by
  simp only [List.mem_cons, List.not_mem_nil, or_false] at hx
  rcases hx with rfl | rfl <;> exact ⟨rfl, fltClear_held _ _ _⟩

/-- STATS_CLEAR and FCS-1 STATS_RESET are one clear. -/
theorem hostRow_statsClear {h : CmdHdr} {x : Instr × Nat}
    (hx : x ∈ [(Instr.statsClear h, 0x0F00), (.fcs1StatsReset h, 0x100F0)]) :
    HostRow x.1 x.2 h stAny (statsClear { h := h, op := x.2 }) := by
  simp only [List.mem_cons, List.not_mem_nil, or_false] at hx
  rcases hx with rfl | rfl <;> exact ⟨rfl, statsClear_held _⟩

theorem hostRow_fltDrain (h : CmdHdr) (clr : Bool) (b : OutBuf) :
    HostRow (.fltDrain h clr b) 0x0A01 h stAny (fltDrain { h := h, op := 0x0A01 } clr b) := ⟨rfl, fltDrain_held _ _ _⟩

/-- A clear of faults waits for the rim: no fault bit and no line changes. -/
theorem faultClear_waits {i : Instr} {op : Nat} {h : CmdHdr} {source kind : Nat} {s : State}
    (row : HostRow i op h stAny (fltClear { h := h, op := op } source kind)) (m : MayRun op h stAny s) :
    Does i s (fun t => t.flt.clears = s.flt.clears ++ [(h, op, source, kind)] ∧ t.flt.active = s.flt.active ∧
      t.flt.lines = s.flt.lines ∧ engines t = engines s ∧ repliesOf t h.pair = repliesOf s h.pair) :=
  row.doesFrom m fun | _, ⟨_, _, _, _, _, _, rfl⟩ => ⟨rfl, rfl, rfl, rfl, rfl⟩

/-- A clear of the statistics waits for the rim. -/
theorem statsClear_waits {i : Instr} {op : Nat} {h : CmdHdr} {s : State}
    (row : HostRow i op h stAny (statsClear { h := h, op := op })) (m : MayRun op h stAny s) :
    Does i s (fun t => engines t = { engines s with frm := { s.frm with stats := s.frm.stats ++ [(h, op)] } } ∧
      repliesOf t h.pair = repliesOf s h.pair) :=
  row.doesFrom m fun | _, ⟨_, _, _, _, _, _, rfl⟩ => ⟨rfl, rfl⟩

/-- The records that FLT_DRAIN writes: the queue, then the coalescing table (R420). -/
def drainBytes (d : Flt) : List Byte := d.queue.flatMap queueBytes ++ d.table.flatMap coalBytes

/-- The reply data of FLT_DRAIN (R408). -/
def drainData (d : Flt) : List Byte := leBytes 2 d.queue.length ++ leBytes 2 d.table.length ++ leBytes 4 d.lost

/-- FLT_LOST after a drain. -/
def lostAfter (clr : Bool) (d : Flt) : Nat := if clr then 0 else d.lost

/-- The state with its fault records drained. -/
def drained (clr : Bool) (s : State) : State :=
  { s with flt := { s.flt with queue := [], table := [], lost := lostAfter clr s.flt } }

theorem drained_own (clr : Bool) (s : State) : OwnRecords 0 (lostAfter clr s.flt) (drained clr s).flt :=
  ⟨rfl, rfl, Nat.le_refl 0, fun _ hm => absurd hm List.not_mem_nil⟩

section
variable {clr : Bool} {b : OutBuf} {s : State}

theorem fltDrain_eq (c : Ctx) :
    fltDrain c clr b s = toBuffer c b (drainBytes s.flt) (drainData s.flt) (drained clr) s := rfl

theorem fltDrain_fills {c : Ctx} (haddr : b.addr % 8 = 0) (hroom : (drainBytes s.flt).length ≤ b.len)
    (hok : b.ok = true) : fltDrain c clr b s =
      finish c 0 (drainData s.flt) ((drained clr s).emit (.host b.addr (drainBytes s.flt))) :=
  (fltDrain_eq c).trans (toBuffer_fills haddr hroom hok)

theorem fltDrain_short {c : Ctx} (haddr : b.addr % 8 = 0) (hshort : b.len < (drainBytes s.flt).length) :
    fltDrain c clr b s = finish c 0x0207 (leBytes 4 (drainBytes s.flt).length) s :=
  (fltDrain_eq c).trans (toBuffer_short haddr hshort)

/-- A drain writes the records and answers their counts; only the record of its own completion can follow. -/
theorem drain_answers {h : CmdHdr} (m : MayRun 0x0A01 h stAny s) (ho : PairOpen s h.pair) (ha : acts s = true)
    (haddr : b.addr % 8 = 0) (hroom : (drainBytes s.flt).length ≤ b.len) (hok : b.ok = true) :
    Does (.fltDrain h clr b) s (fun t => Answers 0x0A01 h 0 (drainData s.flt) s t ∧ engines t = engines s ∧
      .host b.addr (drainBytes s.flt) ∈ t.out ∧ ∃ n, OwnRecords n (lostAfter clr s.flt) t.flt) :=
  (hostRow_fltDrain h clr b).fillsBufferAnd m ho ha fun x hx => by
    refine ⟨drained clr x, ?_, hx.pairs, hx.role, hx.engines, 2, ?_⟩
    · rw [← hx.flt] at hroom ⊢
      exact fltDrain_fills haddr hroom hok
    · rw [← hx.flt]
      obtain ⟨htable, hlost, hfew, hown⟩ := finish_own (s := (drained clr x).emit (.host b.addr (drainBytes x.flt)))
        { h := h, op := 0x0A01 } 0 (drainData x.flt) (drained_own clr x) (by omega)
      exact ⟨htable, hlost, hfew, hown⟩

end

/-- Settles O34: both kinds of clear wait for the rim, and a drain fills its buffer or is refused by its length. -/
theorem faultAndDiagnosticCommands : Obligations.FaultAndDiagnosticCommands := by
  intro s h source kind clr b
  refine ⟨fun x hx m => faultClear_waits (hostRow_fltClear hx) m,
    fun x hx m => statsClear_waits (hostRow_statsClear hx) m,
    fun m ho ha haddr => ⟨fun hroom hok => ?_, fun hshort => ?_⟩⟩
  · exact (drain_answers m ho ha haddr hroom hok).imp fun t ⟨hans, heng, hout, _, hrec⟩ =>
      ⟨hans, heng, hout, hrec.table, hrec.lost, hrec.own⟩
  · refine (hostRow_fltDrain h clr b).repliesFrom m ho (delivers_of_acts ha) fun x hx => ?_
    have hflt : drainBytes x.flt = drainBytes s.flt := congrArg drainBytes hx.flt
    exact (fltDrain_short haddr (hflt ▸ hshort)).trans (by rw [hflt, drainBytes])

end Sys2Proof

/-! One step: the front of the queue runs, an empty queue idles, and the memories of the recorders stay canonical. -/

namespace Sys2Proof

open Sys2Proof.Machine

theorem step_of_front {s : State} {c : Instr} {rest : List Instr} (hq : s.pending = c :: rest) :
    step s = exec c { s with pending := rest } := by
  rw [step, hq]

theorem step_of_empty {s : State} (hq : s.pending = []) : step s = .next s := by
  rw [step, hq]

/-- Settles O1: a step takes the command at the front of the queue. -/
theorem frontCommandRuns : Obligations.FrontCommandRuns := fun _ _ _ => step_of_front

/-- Settles O2: a step finds no command in an empty queue. That the device idles then is the choice of log 1. -/
theorem emptyQueueIdles : Obligations.EmptyQueueIdles := fun _ => step_of_empty

/-- Every command is made of operations that each keep the canonical form of the recorders' memories. -/
theorem effect_keeps_memOk (c : Instr) (s : State) (hm : memOk (keep s).mem) : memOk (keep (effect c s)).mem := by
  cases c with
  | _ => simp [effect, hm]

/-- Settles O8: a step is the effect of a command, which keeps the canonical form, and the pins that follow it, which do
not touch the memories; or it changes nothing. The canonical form, with a byte that nothing has written as 0, is the
choice of log 9. -/
theorem stepKeepsMemories : Obligations.StepKeepsMemories := by
  intro s t hm ht
  cases hq : s.pending with
  | nil =>
    rw [step_of_empty hq] at ht
    cases ht
    exact hm
  | cons c rest =>
    rw [step_of_front hq] at ht
    have hkept : memOk (keep t).mem := by
      rw [keep_of_exec ht]
      exact effect_keeps_memOk c { s with pending := rest, out := [] } hm
    exact hkept

end Sys2Proof

/-! Fatal lines: what asserts one, what its message leaves, and whether the device darkens at once or blocks first. -/

namespace Sys2Proof

open Sys2Proof.Machine

/-! ### The assertion of a line (R422, R423) -/

/-- The state behind the assertion of line `l` and its message. -/
def lineTold (l inst detail : Nat) (s : State) : State :=
  raiseSev (lineKind l).1 inst (lineKind l).2 3 detail (lineAsserted l inst s)

/-- A line stands, and the kind of its message is active. -/
def LineStands (l inst : Nat) (t : State) : Prop :=
  tb t.flt.lines l = true ∧ isActive t (lineKind l).1 inst (lineKind l).2 = true

section
variable {l inst detail : Nat} {s : State}

theorem LineStands.of_flt {x y : State} (h : LineStands l inst x) (hy : y.flt = x.flt) : LineStands l inst y := by
  unfold LineStands isActive at h ⊢
  rw [hy]
  exact h

/-- The pins that follow leave the lines and what is active. -/
theorem LineStands.settled {x : State} (h : LineStands l inst x) : LineStands l inst (settle x) := h

theorem lineTold_stands : LineStands l inst (lineTold l inst detail s) := by
  refine ⟨?_, (raiseSev_reported ..).2 (by decide)⟩
  exact (congrArg (tb · l) (fltTake_lines ..)).trans ((tb_setB ..).trans (by simp))

theorem lineTold_eng : engines (lineTold l inst detail s) = engines s := raiseSev_eng ..

/-- With a synchronised partner a line but line 1 darkens the device at once. -/
theorem fatalLine_darkens (hreset : s.pwr.inReset = false) (hl : l ≠ 1) (hsync : partnerSynced s = true) :
    fatalLine l inst detail s = goDark (lineTold l inst detail s) :=
  (if_neg (Bool.eq_false_iff.mp hreset)).trans (if_pos (.inr ⟨hl, hsync⟩))

/-- The device is to go dark at FATAL_DARK. -/
def darkDue (s : State) : State := { s with pwr := { s.pwr with darkNext := true } }

/-- Line 1, and without a synchronised partner every line but line 0, blocks the device first. -/
theorem fatalLine_blocks (hreset : s.pwr.inReset = false) (hl : l ≠ 0) (h : l = 1 ∨ partnerSynced s = false) :
    fatalLine l inst detail s =
      darkDue (injectSafeBlock 0x0B 0 (lineTold l inst detail s).now (lineTold l inst detail s)) := by
  refine (if_neg (Bool.eq_false_iff.mp hreset)).trans (if_neg ?_)
  rintro (h0 | ⟨h1, hsync⟩)
  · exact hl h0
  · exact h.elim h1 fun hno => Bool.false_ne_true (hno.symm.trans hsync)

theorem fatalLine_reset (hreset : s.pwr.inReset = true) : fatalLine l inst detail s = s := if_pos hreset

/-! ### What a fatal line does (R422) -/

/-- The blocks of a device that is dark. -/
def darkened (s : State) : Engines := { engines s with pwr := { s.pwr with dark := true, darkNext := false } }

/-- What a fatal line that blocks first leaves: it stands, the Safe Block latch is set and A_r taken afresh, and the
device is to go dark. Beside the power block and the trips only Safe Block, the cells, the lane transmitters and the
marked entries may change. -/
structure BlockedByLine (l inst : Nat) (s t : State) : Prop where
  stands : LineStands l inst t
  latch  : t.trp.sbLatch = true
  acted  : Acted t
  blocks : engines t = { engines s with
    pwr := { s.pwr with darkNext := true }, trp := t.trp, sbk := t.sbk, cells := t.cells, cev := t.cev, rnk := t.rnk }

theorem goDark_darkened {x : State} (heng : engines x = engines s) : engines (goDark x) = darkened s := by
  have hpwr : x.pwr = s.pwr := congrArg Engines.pwr heng
  rw [goDark_eng, heng, hpwr, darkened]

section
variable {c : Instr} (he : effect c { s with out := [] } = fatalLine l inst detail { s with out := [] })
  (hreset : s.pwr.inReset = false)
include he hreset

theorem fatal_darkens (hl : l ≠ 1) (hsync : partnerSynced s = true) :
    Does c s (fun t => engines t = darkened s ∧ LineStands l inst t) :=
  does_effect (he.trans (fatalLine_darkens (s := { s with out := [] }) hreset hl hsync))
    ⟨(settle_eng _).trans (goDark_darkened lineTold_eng),
      (lineTold_stands.of_flt (y := goDark (lineTold l inst detail { s with out := [] })) rfl).settled⟩

theorem fatal_blocks (hl : l ≠ 0) (h : l = 1 ∨ partnerSynced s = false) : Does c s (BlockedByLine l inst s) := by
  refine does_effect (he.trans (fatalLine_blocks (s := { s with out := [] }) hreset hl h)) ?_
  have htold : LineStands l inst (lineTold l inst detail { s with out := [] }) := lineTold_stands
  have heng : engines (lineTold l inst detail { s with out := [] }) = engines s := lineTold_eng
  generalize lineTold l inst detail { s with out := [] } = x at htold heng
  have hblock := injectSafeBlock_engines 0x0B 0 x.now x
  have hpwr : (injectSafeBlock 0x0B 0 x.now x).pwr = s.pwr := by
    exact (congrArg Engines.pwr hblock).trans (congrArg Engines.pwr heng)
  have hflt : (darkDue (injectSafeBlock 0x0B 0 x.now x)).flt = x.flt := injectSafeBlock_flt ..
  refine ⟨(htold.of_flt hflt).settled, injectSafeBlock_sbLatch .., (injectSafeBlock_acted ..).of_trp rfl, ?_⟩
  rw [heng] at hblock
  rw [settle_eng]
  have hdue := congrArg (fun e : Engines => { e with pwr := { s.pwr with darkNext := true } }) hblock
  rw [← hpwr] at hdue ⊢
  exact hdue

end

/-! ### The events (R415, R422, R492) -/

theorem eccError_corrected {r : Nat} (addr : Nat) (hr : r < 6) (hreset : s.pwr.inReset = false) :
    eccError r addr true s = raise 0x0E r 1 addr s := by
  refine (if_neg ?_).trans (if_pos rfl)
  simp [hreset, hr]

/-- An uncorrected error of a region without a line is reported as an error. -/
theorem eccError_plain {r : Nat} (addr : Nat) (hr : r ∈ [2, 3, 4]) (hreset : s.pwr.inReset = false) :
    eccError r addr false s = raiseSev 0x0E r 2 2 addr s := by
  have hrun : ¬ (6 ≤ r ∨ s.pwr.inReset = true) := by
    simp at hr
    simp [hreset]
    omega
  simp only [List.mem_cons, List.not_mem_nil, or_false] at hr
  rcases hr with rfl | rfl | rfl <;> exact (if_neg hrun).trans (if_neg Bool.false_ne_true)

/-- The region of a line, and its part of the line's block. -/
theorem eccError_fatal {r l inst : Nat} (addr : Nat) (hr : (r, l, inst) ∈ [(0, 2, 0), (1, 2, 1), (5, 1, 5)])
    (hreset : s.pwr.inReset = false) : eccError r addr false s = fatalLine l inst addr s := by
  have hrun (k : Nat) (hk : k < 6) : ¬ (6 ≤ k ∨ s.pwr.inReset = true) := by
    simp [hreset, hk]
  simp only [List.mem_cons, Prod.mk.injEq, List.not_mem_nil, or_false] at hr
  rcases hr with ⟨rfl, rfl, rfl⟩ | ⟨rfl, rfl, rfl⟩ | ⟨rfl, rfl, rfl⟩ <;>
    exact (if_neg (hrun _ (by decide))).trans (if_neg Bool.false_ne_true)

theorem eccError_idle {r : Nat} (addr : Nat) (b : Bool) (h : 6 ≤ r ∨ s.pwr.inReset = true) : eccError r addr b s = s :=
  if_pos h

theorem supplyFail_powered {d : Nat} (hd : d ≠ 0) (hon : tb s.pwr.on d = true) :
    supplyFail d s = fatalLine 4 d 0 s := if_pos ⟨hd, hon⟩

theorem supplyFail_idle {d : Nat} (h : d = 0 ∨ tb s.pwr.on d = false) : supplyFail d s = s := by
  refine if_neg fun ⟨hd, hon⟩ => ?_
  exact h.elim hd fun hoff => Bool.false_ne_true (hoff.symm.trans hon)

theorem tempHigh_warns {tj : Int} (hreset : s.pwr.inReset = false) (hnew : s.pwr.warned = false) (hmin : 1120 ≤ tj)
    (hhigh : tempWarn s ≤ tj) :
    tempHigh tj s = raise 0x13 0 3 0 { s with pwr := { s.pwr with warned := true } } :=
  if_pos (by simp [hreset, hnew, hmin, hhigh])

theorem tempHigh_idle {tj : Int} (h : s.pwr.inReset = true ∨ s.pwr.warned = true ∨ tj < tempWarn s) :
    tempHigh tj s = s := by
  refine if_neg fun hall => ?_
  simp only [Bool.and_eq_true, Bool.not_eq_true', decide_eq_true_eq] at hall
  obtain ⟨⟨⟨hreset, hnew⟩, -⟩, hhigh⟩ := hall
  rcases h with hin | hold | hlow
  · exact Bool.false_ne_true (hreset.symm.trans hin)
  · exact Bool.false_ne_true (hnew.symm.trans hold)
  · omega

theorem fatalDark_due (hdue : s.pwr.darkNext = true) : fatalDark s = goDark s := if_pos hdue

theorem fatalDark_idle (hno : s.pwr.darkNext = false) : fatalDark s = s := if_neg (Bool.eq_false_iff.mp hno)

/-- A fault message is counted, and active where it is an error or worse. -/
theorem faultMessage_taken (w : BitVec 64) (hreset : s.pwr.inReset = false) :
    min (s.flt.total + 1) (2 ^ 32 - 1) ≤ (faultMessage w s).flt.total ∧
      (2 ≤ (FMsg.ofWord w.toNat).sev → isActive (faultMessage w s)
        (FMsg.ofWord w.toNat).blk (FMsg.ofWord w.toNat).inst (FMsg.ofWord w.toNat).kind = true) := by
  have htake : faultMessage w s = _ := if_neg (Bool.eq_false_iff.mp hreset)
  obtain ⟨htotal, hactive, -⟩ := fltTake_reported (FMsg.ofWord w.toNat) _ s
  rw [htake]
  exact ⟨htotal, hactive⟩

theorem faultMessage_idle (w : BitVec 64) (hreset : s.pwr.inReset = true) : faultMessage w s = s := if_pos hreset

/-- A command that changes nothing leaves the blocks of the converter. -/
theorem does_nothing {c : Instr} (he : effect c { s with out := [] } = { s with out := [] }) :
    Does c s (fun t => engines t = engines s) := does_effect he (settle_eng _)

/-- In reset no circuit detects anything. -/
theorem reset_detects_nothing (hreset : s.pwr.inReset = true) (addr : Nat) (w : BitVec 64) (r : Nat) (b : Bool)
    (tj : Int) {c : Instr} (hc : c ∈ [Instr.fltSelf, .tempCrit, .eccError r addr b, .tempHigh tj, .faultMessage w]) :
    effect c s = s := by
  simp only [List.mem_cons, List.not_mem_nil, or_false] at hc
  rcases hc with rfl | rfl | rfl | rfl | rfl
  · exact fatalLine_reset hreset
  · exact fatalLine_reset hreset
  · exact eccError_idle addr b (.inr hreset)
  · exact tempHigh_idle (.inl hreset)
  · exact faultMessage_idle w hreset

end

/-- A fatal event of line `l`, with and without a synchronised partner, in the terms of the statement. -/
theorem fatal_does {c : Instr} {l inst detail : Nat} {s : State}
    (he : effect c { s with out := [] } = fatalLine l inst detail { s with out := [] })
    (hreset : s.pwr.inReset = false) (hl : l ≠ 0) :
    (l ≠ 1 → partnerSynced s = true → Does c s (fun t => engines t = darkened s ∧ LineStands l inst t)) ∧
    (l = 1 ∨ partnerSynced s = false → Does c s (fun t => t.pwr = { s.pwr with darkNext := true } ∧
      tb t.flt.lines l = true ∧ isActive t (lineKind l).1 inst (lineKind l).2 = true ∧ t.trp.sbLatch = true ∧ Acted t ∧
      t.st = s.st ∧ t.frm = s.frm ∧ t.params = s.params)) :=
  ⟨fatal_darkens he hreset, fun h => (fatal_blocks he hreset hl h).imp
    fun _ ⟨⟨hline, hactive⟩, hlatch, hacted, heng⟩ => ⟨congrArg Engines.pwr heng, hline, hactive, hlatch, hacted,
      congrArg Engines.st heng, congrArg Engines.frm heng, congrArg Engines.params heng⟩⟩

/-- Settles O54: each fatal event is one line, which darkens the device or blocks it first; the others are reports, and
what finds no condition changes nothing. FLT_SELF, and that a line puts its message into the collector, are the choice
of log 32. -/
theorem fatalEventsDarkenOrBlock : Obligations.FatalEventsDarkenOrBlock := by
  intro s addr same dark fatal
  refine ⟨fun hreset => ⟨?_, ?_, fun d hd hon => ?_, ?_, ?_, ?_, fun r hr => ?_, fun r hr => ?_,
    fun tj hnew hmin hhigh => ?_, fun w => ?_⟩, fun d h => ?_, fun tj h => ?_, fun r b hr => ?_, fun hdue => ?_,
    fun hno => ?_, fun hreset w r b tj c hc => ?_⟩
  · exact fatal_does rfl hreset (by decide)
  · exact fatal_does rfl hreset (by decide)
  · exact fatal_does (supplyFail_powered (s := { s with out := [] }) hd hon) hreset (by decide)
  · exact fatal_does (eccError_fatal (s := { s with out := [] }) addr (by decide) hreset) hreset (by decide)
  · exact fatal_does (eccError_fatal (s := { s with out := [] }) addr (by decide) hreset) hreset (by decide)
  · exact fatal_does (eccError_fatal (s := { s with out := [] }) addr (by decide) hreset) hreset (by decide)
  · exact does_effect (eccError_plain (s := { s with out := [] }) addr hr hreset)
      ⟨(settle_eng _).trans (raiseSev_eng ..), (raiseSev_reported ..).2 (by decide)⟩
  · exact (raise_does (c := .eccError r addr true) (s := s)
      (eccError_corrected (s := { s with out := [] }) addr hr hreset) rfl rfl).imp fun _ => And.symm
  · exact (raise_does (c := .tempHigh tj) (s := s) (tempHigh_warns (s := { s with out := [] }) hreset hnew hmin
      hhigh) rfl rfl).imp fun _ => And.symm
  · exact does_effect rfl
      ⟨(settle_eng _).trans (faultMessage_eng ..), faultMessage_taken (s := { s with out := [] }) w hreset⟩
  · exact does_nothing (supplyFail_idle (s := { s with out := [] }) h)
  · exact does_nothing (tempHigh_idle (s := { s with out := [] }) (.inr h))
  · exact does_nothing (eccError_idle (s := { s with out := [] }) addr b (.inl hr))
  · exact does_effect (fatalDark_due (s := { s with out := [] }) hdue) (settle_eng _)
  · exact does_nothing (fatalDark_idle (s := { s with out := [] }) hno)
  · exact does_nothing (reset_detects_nothing (s := { s with out := [] }) hreset addr w r b tj hc)

end Sys2Proof

/-! Commands of the event recorder: a trigger by the host, and the first area cleared. -/

namespace Sys2Proof

open Sys2Proof.Machine

/-! ### What messages and journal records leave of the event recorder (R446, R449, R450) -/

/-- The queued triggers stay in front, and the records and the count of the first area stay. -/
structure EvrGrows (d e : Evr) : Prop where
  queue     : d.queue <+: e.queue
  mem       : e.mem = d.mem
  first     : e.first = d.first
  firstFull : e.firstFull = d.firstFull

theorem EvrGrows.refl (d : Evr) : EvrGrows d d := ⟨List.prefix_rfl, rfl, rfl, rfl⟩

theorem EvrGrows.trans {a b c : Evr} (h1 : EvrGrows a b) (h2 : EvrGrows b c) : EvrGrows a c :=
  ⟨h1.queue.trans h2.queue, h2.mem.trans h1.mem, h2.first.trans h1.first, h2.firstFull.trans h1.firstFull⟩

section
variable {s : State}

theorem evrPush_room {tr : Trig} (hroom : s.evr.queue.length < 64) :
    evrPush tr s = { s with evr := { s.evr with queue := s.evr.queue ++ [tr], dropRun := false } } := if_pos hroom

/-- A trigger joins the queue behind those that wait, or is held, or dropped. -/
theorem evrPush_evrGrows (tr : Trig) (s : State) : EvrGrows s.evr (evrPush tr s).evr := by
  by_cases hroom : s.evr.queue.length < 64
  · rw [evrPush_room hroom]
    exact ⟨List.prefix_append .., rfl, rfl, rfl⟩
  · unfold evrPush
    rw [if_neg hroom]
    simp only
    (repeat' split) <;> exact ⟨List.prefix_rfl, rfl, rfl, rfl⟩

theorem fltTake_evrGrows (m : FMsg) (fr : Nat) (s : State) : EvrGrows s.evr (fltTake m fr s).evr := by
  unfold fltTake
  simp only
  split
  · exact evrPush_evrGrows _ (fltCore m fr s).1
  · exact .refl _

theorem raiseIf_evrGrows {d : Evr} (c : Bool) (blk inst kind detail : Nat) (hd : EvrGrows d s.evr) :
    EvrGrows d (raiseIf c blk inst kind detail s).evr := by
  unfold raiseIf
  split
  · exact hd.trans (fltTake_evrGrows ..)
  · exact hd

/-- A journal record may report the journal full. -/
theorem jnlAdd_evrGrows (pl : JPayload) (s : State) : EvrGrows s.evr (jnlAdd pl s).evr := by
  unfold jnlAdd
  split
  · exact raiseIf_evrGrows _ 0x11 0 2 0 (.refl s.evr)
  · exact .refl _

theorem deliver_evr (op : Nat) (r : Reply) (s : State) : (deliver op r s).evr = s.evr := by
  unfold deliver
  split <;> rfl

/-- So may the record of a completion. -/
theorem finish_evrGrows (c : Ctx) (st : Nat) (data : List Byte) (s : State) :
    EvrGrows s.evr (finish c st data s).evr := by
  unfold finish
  simp only
  split
  · rw [deliver_evr]
    exact jnlAdd_evrGrows _ s
  · rw [deliver_evr]
    exact .refl _

theorem Began.evr {x : State} (hx : Began s x) : x.evr = s.evr := by
  obtain ⟨_, _, _, _, _, _, rfl⟩ := hx
  rfl

/-! ### EVR_RECORD (R408, R444, R446) -/

/-- The trigger that the host asks for. -/
def hostTrig (cause t : Nat) (s : State) : Trig :=
  let l := s.p 0x01E0
  mkTrig s 1 l (causeWords (cause % 2 ^ 16)) (snapWords s l) t

theorem evrTrigger_host (cause t : Nat) (s : State) :
    evrTrigger 1 cause t s = evrPush (hostTrig cause t (s.at t)) (s.at t) := rfl

/-- EVR_RECORD answers the number of the record that its trigger will become, where it is queued. -/
def recordNum (s : State) : Nat :=
  if s.evr.queue.length < 64 then numAfter s.evr.num (s.evr.queue.length + 1) else 0

theorem evrRecord_eq (c : Ctx) (cause : Nat) (s : State) :
    evrRecord c cause s = finish c 0 (leBytes 4 (recordNum s)) (evrTrigger 1 cause c.h.time s) := rfl

theorem hostRow_evrRecord (h : CmdHdr) (cause : Nat) :
    HostRow (.evrRecord h cause) 0x0610 h stUp (evrRecord { h := h, op := 0x0610 } cause) :=
  ⟨rfl, evrRecord_held _ _⟩

/-- EVR_RECORD answers its number; what its trigger leaves of the event recorder the record of the completion keeps. -/
theorem record_answers {h : CmdHdr} {cause : Nat} (m : MayRun 0x0610 h stUp s) (ho : PairOpen s h.pair)
    (ha : acts s = true) : Does (.evrRecord h cause) s (fun t =>
      Answers 0x0610 h 0 (leBytes 4 (recordNum s)) s t ∧ engines t = engines s ∧
      ∃ x : State, x.evr = s.evr ∧ EvrGrows (evrTrigger 1 cause h.time x).evr t.evr) :=
  (hostRow_evrRecord h cause).answersFrom m ho ha fun x hx => by
    obtain ⟨f, e, hpush⟩ := evrPush_eq (hostTrig cause h.time (x.at h.time)) (x.at h.time)
    have htrig : evrTrigger 1 cause h.time x = { x.at h.time with flt := f, evr := e } := hpush
    have hnum : recordNum x = recordNum s := by rw [recordNum, hx.evr, recordNum]
    refine ⟨evrTrigger 1 cause h.time x, ?_, ?_, ?_, ?_, x, hx.evr, finish_evrGrows ..⟩
    · rw [evrRecord_eq, hnum]
    · rw [htrig]
      exact hx.pairs
    · rw [htrig]
      exact hx.role
    · rw [settle_eng, finish_eng, evrTrigger_eng, hx.engines]

/-- With room in the queue the trigger stands behind those that wait. -/
theorem record_queues {h : CmdHdr} {cause : Nat} (m : MayRun 0x0610 h stUp s) (ho : PairOpen s h.pair)
    (ha : acts s = true) (hroom : s.evr.queue.length < 64) : Does (.evrRecord h cause) s (fun t =>
      Answers 0x0610 h 0 (leBytes 4 (numAfter s.evr.num (s.evr.queue.length + 1))) s t ∧ engines t = engines s ∧
      ∃ tr : Trig, tr.typ = 1 ∧ tr.cause = causeWords (cause % 2 ^ 16) ∧ tr.g = h.time ∧
        (s.evr.queue ++ [tr]) <+: t.evr.queue) := by
  refine (record_answers m ho ha).imp fun t ⟨hans, heng, x, hx, hgrows⟩ => ?_
  rw [recordNum, if_pos hroom] at hans
  refine ⟨hans, heng, hostTrig cause h.time (x.at h.time), rfl, rfl, rfl, ?_⟩
  have hqueue := hgrows.queue
  rw [← hx] at hroom ⊢
  rwa [evrTrigger_host, evrPush_room (s := x.at h.time) hroom] at hqueue

/-! ### EVR_CLEAR_FIRST (R408, R450, R456) -/

/-- The first area is empty, and beside it the memory of the event recorder is as it was. -/
structure FirstCleared (s t : State) : Prop where
  mem       : t.evr.mem = s.evr.mem.zero 0 0x40000
  first     : t.evr.first = 0
  firstFull : t.evr.firstFull = false
  blocks    : engines t = engines s

/-- What begins the clear: the first area emptied, and its record. -/
def clearBegun (s : State) : State := jnlAdd .evrClear (evrZeroFirst s)

theorem evrClearFirst_waits {c : Ctx} (hboth : jnlBoth s = true) : evrClearFirst c s =
    { clearBegun s with
      jnl := { (clearBegun s).jnl with evrClears := (clearBegun s).jnl.evrClears ++ [(c.h, s.jnl.next)] } } :=
  if_pos hboth

theorem evrClearFirst_unreached {c : Ctx} (hboth : jnlBoth s = false) :
    evrClearFirst c s = refuse c 0x0405 (clearBegun s) := if_neg (Bool.eq_false_iff.mp hboth)

theorem clearBegun_evrGrows (s : State) : EvrGrows (evrZeroFirst s).evr (clearBegun s).evr := jnlAdd_evrGrows ..

theorem clearBegun_eng (s : State) : engines (clearBegun s) = engines s :=
  (jnlAdd_eng ..).trans (evrZeroFirst_eng s)

theorem clearBegun_hif (s : State) : (clearBegun s).hif = s.hif := jnlAdd_pairs ..

theorem clearBegun_pair (s : State) : (clearBegun s).pair = s.pair := jnlAdd_pair ..

theorem FirstCleared.of_grows {x t : State} (hx : x.evr = s.evr) (h : EvrGrows (evrZeroFirst x).evr t.evr)
    (heng : engines t = engines s) : FirstCleared s t :=
  ⟨hx ▸ h.mem, h.first, h.firstFull, heng⟩

/-- A journal record leaves the clears that wait. -/
theorem jnlAdd_evrClears (pl : JPayload) (s : State) : (jnlAdd pl s).jnl.evrClears = s.jnl.evrClears := by
  unfold jnlAdd
  split
  · rw [jnlFullCheck_jnl]
    rfl
  · rfl

theorem hostRow_evrClearFirst (h : CmdHdr) :
    HostRow (.evrClearFirst h) 0x0611 h stStill (evrClearFirst { h := h, op := 0x0611 }) :=
  ⟨rfl, evrClearFirst_held _⟩

theorem jnlBoth_began {x : State} (hx : Began s x) : jnlBoth x = jnlBoth s := by
  rw [jnlBoth, hx.jnl, jnlBoth]

/-- A clear whose record reaches both flashes waits for it, without a reply. -/
theorem evrClear_waits {h : CmdHdr} (m : MayRun 0x0611 h stStill s) (hboth : jnlBoth s = true) :
    Does (.evrClearFirst h) s (fun t => FirstCleared s t ∧
      t.jnl.evrClears = s.jnl.evrClears ++ [(h, s.jnl.next)] ∧ repliesOf t h.pair = repliesOf s h.pair) :=
  (hostRow_evrClearFirst h).doesFrom m fun x hx => by
    rw [evrClearFirst_waits ((jnlBoth_began hx).trans hboth)]
    have heng : engines (clearBegun x) = engines s := (clearBegun_eng x).trans hx.engines
    refine ⟨.of_grows hx.evr (clearBegun_evrGrows x) ((settle_eng _).trans heng), ?_, ?_⟩
    · have hclears : (clearBegun x).jnl.evrClears = x.jnl.evrClears := jnlAdd_evrClears ..
      rw [← hx.jnl, ← hclears]
      rfl
    · have hpairs : (clearBegun x).hif.pairs = s.hif.pairs := (congrArg Hif.pairs (clearBegun_hif x)).trans hx.pairs
      exact repliesOf_of_pairs hpairs _

/-- A clear whose record does not reach both flashes is refused, with the first area cleared. -/
theorem evrClear_unreached {h : CmdHdr} (m : MayRun 0x0611 h stStill s) (ho : PairOpen s h.pair) (ha : acts s = true)
    (hboth : jnlBoth s = false) :
    Does (.evrClearFirst h) s (fun t => Answers 0x0611 h 0x0405 [] s t ∧ FirstCleared s t) :=
  (hostRow_evrClearFirst h).answersFrom m ho ha fun x hx => by
    refine ⟨clearBegun x, evrClearFirst_unreached ((jnlBoth_began hx).trans hboth),
      (congrArg Hif.pairs (clearBegun_hif x)).trans hx.pairs, (congrArg Pair.role (clearBegun_pair x)).trans hx.role,
      .of_grows hx.evr ((clearBegun_evrGrows x).trans (finish_evrGrows ..)) ?_⟩
    rw [settle_eng, finish_eng, clearBegun_eng, hx.engines]

end

/-- Settles O30: EVR_RECORD queues its trigger, or drops it with the number 0; EVR_CLEAR_FIRST waits for its record, or
is refused. That a full queue answers the number 0 is the model's choice. -/
theorem hostEventsAndClearsAreRecorded : Obligations.HostEventsAndClearsAreRecorded := by
  intro s h cause ho ha
  refine ⟨fun m => ⟨record_queues m ho ha, fun hfull => ?_⟩, fun m => ⟨fun hboth => ?_, fun hboth => ?_⟩⟩
  · refine (record_answers m ho ha).imp fun t ⟨hans, heng, _⟩ => ⟨?_, heng⟩
    rw [recordNum, if_neg (Nat.not_lt.mpr hfull)] at hans
    exact hans
  · exact (evrClear_waits m hboth).imp fun t ⟨⟨hmem, hfirst, hfull, heng⟩, hclears, hreplies⟩ =>
      ⟨⟨hmem, hfirst, hfull, heng⟩, hclears, hreplies⟩
  · exact (evrClear_unreached m ho ha hboth).imp fun t ⟨hans, hmem, hfirst, hfull, heng⟩ =>
      ⟨⟨hmem, hfirst, hfull, heng⟩, hans⟩

end Sys2Proof

/-! The supervisor cores: descriptors that wait, spill or stall, cores that are freed, the watchdog, and the load. -/

namespace Sys2Proof

open Sys2Proof.Machine

/-! ### Levels and cores under a change -/

section
variable {l j c i : Nat} {f : Lvl → Lvl} {g : Core → Core} {s : State}

theorem lvl_modLvl_self (hl : l < s.sch.lvls.length) : (s.modLvl l f).lvl l = f (s.lvl l) := modAt_getD_self _ _ _ _ hl

theorem lvl_modLvl_ne (hj : j ≠ l) : (s.modLvl l f).lvl j = s.lvl j := modAt_getD_ne _ _ _ _ _ hj

@[simp] theorem modLvl_length : (s.modLvl l f).sch.lvls.length = s.sch.lvls.length := modAt_length ..

@[simp] theorem core_modLvl : (s.modLvl l f).core i = s.core i := rfl

theorem core_modCore_self (hc : c < s.sch.cores.length) : (s.modCore c g).core c = g (s.core c) :=
  modAt_getD_self _ _ _ _ hc

theorem core_modCore_ne (hi : i ≠ c) : (s.modCore c g).core i = s.core i := modAt_getD_ne _ _ _ _ _ hi

@[simp] theorem lvl_modCore : (s.modCore c g).lvl j = s.lvl j := rfl

end

/-! ### What the scheduler changes (R464–R469) -/

/-- The scheduler, what it reports and the clock are all that differs. -/
def SchForm (s t : State) : Prop := ∃ q f e n, t = { s with sch := q, flt := f, evr := e, now := n }

namespace SchForm

variable {s t u : State}

theorem refl (s : State) : SchForm s s := ⟨_, _, _, _, rfl⟩

theorem trans (h1 : SchForm s t) (h2 : SchForm t u) : SchForm s u := by
  obtain ⟨_, _, _, _, rfl⟩ := h1
  obtain ⟨q, f, e, n, rfl⟩ := h2
  exact ⟨q, f, e, n, rfl⟩

theorem eng (h : SchForm s t) : engines t = { engines s with sch := t.sch } := by
  obtain ⟨_, _, _, _, rfl⟩ := h
  rfl

end SchForm

theorem raiseIf_schForm (b : Bool) (blk inst kind detail : Nat) (s : State) :
    SchForm s (raiseIf b blk inst kind detail s) := by
  obtain ⟨f, e, h⟩ := raiseIf_eq b blk inst kind detail s
  exact ⟨_, f, e, _, h⟩

theorem modLvl_schForm (l : Nat) (f : Lvl → Lvl) (s : State) : SchForm s (s.modLvl l f) := ⟨_, _, _, _, rfl⟩

theorem modCore_schForm (c : Nat) (g : Core → Core) (s : State) : SchForm s (s.modCore c g) := ⟨_, _, _, _, rfl⟩

theorem depthMark_schForm (l : Nat) (s : State) : SchForm s (depthMark l s) := modLvl_schForm ..

theorem leaveCore_schForm (c t : Nat) (s : State) : SchForm s (leaveCore c t s).1 := by
  unfold leaveCore
  split
  · exact .refl s
  · simp only
    split
    · exact ⟨_, _, _, _, rfl⟩
    · exact modCore_schForm ..

theorem dispatch_schForm (c l i t : Nat) (s : State) : SchForm s (dispatch c l i t s) := by
  unfold dispatch
  split
  · exact .refl s
  · exact (modLvl_schForm ..).trans (modCore_schForm ..)

theorem unspill_schForm (s : State) : SchForm s (unspill s) := by
  unfold unspill
  split
  · exact .refl s
  · exact modLvl_schForm ..

/-- One core's turn when the free cores are served: it takes a descriptor where it is free and one waits for it. -/
def serveCore (t : Nat) (s : State) (c : Nat) : State :=
  if (s.core c).task.isSome then s
  else match pickFor s c with
    | some (l, i) => unspill (dispatch c l i t s)
    | none => s

theorem serveCores_eq (t : Nat) (s : State) : serveCores t s = [0, 1, 2, 3].foldl (serveCore t) s := rfl

theorem serveCore_schForm (t : Nat) (s : State) (c : Nat) : SchForm s (serveCore t s c) := by
  unfold serveCore
  split
  · exact .refl s
  · split
    · exact (dispatch_schForm ..).trans (unspill_schForm _)
    · exact .refl s

theorem serveCores_schForm (t : Nat) (s : State) : SchForm s (serveCores t s) :=
  foldl_form SchForm.refl (fun _ _ _ => SchForm.trans) (serveCore t) (serveCore_schForm t) [0, 1, 2, 3] s

theorem preempt_schForm (cls l t : Nat) (s : State) : SchForm s (preempt cls l t s) := by
  unfold preempt
  split
  · exact .refl s
  · simp only
    have hdispatched (c : Nat) := ((leaveCore_schForm c t s).trans
      (modCore_schForm c (fun x => { x with preempts := satAdd 16 x.preempts 1 }) _)).trans
      (dispatch_schForm c l ((s.lvl l).ready.length - 1) t _)
    split
    · exact (((hdispatched _).trans (modLvl_schForm ..)).trans (depthMark_schForm ..)).trans (unspill_schForm _)
    · exact (hdispatched _).trans (unspill_schForm _)

theorem stall_schForm (l : Nat) (s : State) : SchForm s (stall l s) :=
  SchForm.trans ⟨_, _, _, _, rfl⟩ (raiseIf_schForm _ 0x12 l 2 0 _)

theorem at_schForm (t : Nat) (s : State) : SchForm s (s.at t) := ⟨_, _, _, _, rfl⟩

/-! ### TASK_ENQUEUE (R464, R469) -/

/-- The descriptor that a source enqueues. -/
def newTask (cls src t : Nat) : Task := { cls := cls, src := src, enq := t, seen := false, used := 0 }

/-- A descriptor joins the list of its level. -/
def readied (l : Nat) (k : Task) (s : State) : State :=
  depthMark l (s.modLvl l (fun x => { x with ready := x.ready ++ [k] }))

/-- A descriptor that joined its list is served, or preempts where it is still the last one there. -/
def readyServed (cls l t : Nat) (k : Task) (s : State) : State :=
  let x := serveCores t (readied l k s)
  if (x.lvl l).ready.getLast? = some k then preempt cls l t x else x

/-- A descriptor joins the spill queue of its level. -/
def spillJoined (l : Nat) (k : Task) (s : State) : State :=
  s.modLvl l (fun x => { x with spill := x.spill ++ [k] })

/-- The highest numbers spilled and the highest depth of a level are kept. -/
def spillMarked (l : Nat) (s : State) : State :=
  depthMark l { s with sch := { s.sch with spillMax := max s.sch.spillMax (spilled s) } }

/-- A descriptor that spills is the first of its level, which is reported, or another. -/
def spilledTo (l : Nat) (k : Task) (s : State) : State :=
  spillMarked l (raiseIf (s.lvl l).spill.isEmpty 0x12 l 3 0 (spillJoined l k s))

/-- A descriptor cannot be enqueued; a full spill queue is reported beside it. -/
def stalled (l : Nat) (s : State) : State :=
  stall l (raiseIf (spillMode s l && decide (8192 ≤ spilled s)) 0x12 l 4 0 s)

section
variable {cls src t l : Nat} {k : Task} {s : State}

theorem taskEnqueue_idle (h : 9 ≤ cls ∨ tb s.pwr.on 3 = false) : taskEnqueue cls src t s = s := if_pos h

/-- A descriptor waits in its list, in the spill queue, or stalls, by the room there is. -/
theorem taskEnqueue_eq (hcls : cls < 9) (hon : tb s.pwr.on 3 = true) : taskEnqueue cls src t s =
    if ((s.lvl (classLevel cls)).spill.isEmpty && slotFree s (classLevel cls)) = true then
      readyServed cls (classLevel cls) t (newTask cls src t) (s.at t)
    else if ((!(s.lvl (classLevel cls)).spill.isEmpty || spillMode s (classLevel cls)) &&
        !decide (8192 ≤ spilled s)) = true then
      spilledTo (classLevel cls) (newTask cls src t) (s.at t)
    else stalled (classLevel cls) (s.at t) :=
  if_neg (by simp [hcls, hon])

theorem readyServed_schForm : SchForm s (readyServed cls l t k s) := by
  have hserved : SchForm s (serveCores t (readied l k s)) :=
    ((modLvl_schForm ..).trans (depthMark_schForm ..)).trans (serveCores_schForm ..)
  unfold readyServed
  simp only
  split
  · exact hserved.trans (preempt_schForm ..)
  · exact hserved

theorem spilledTo_schForm : SchForm s (spilledTo l k s) :=
  ((modLvl_schForm ..).trans (raiseIf_schForm ..)).trans (SchForm.trans ⟨_, _, _, _, rfl⟩ (depthMark_schForm ..))

theorem stalled_schForm : SchForm s (stalled l s) := (raiseIf_schForm ..).trans (stall_schForm ..)

theorem taskEnqueue_schForm : SchForm s (taskEnqueue cls src t s) := by
  by_cases hrun : cls < 9 ∧ tb s.pwr.on 3 = true
  · rw [taskEnqueue_eq hrun.1 hrun.2]
    split
    · exact (at_schForm t s).trans readyServed_schForm
    · split
      · exact (at_schForm t s).trans spilledTo_schForm
      · exact (at_schForm t s).trans stalled_schForm
  · have hidle : 9 ≤ cls ∨ tb s.pwr.on 3 = false := by
      by_cases hcls : cls < 9
      · exact .inr (Bool.eq_false_iff.mpr fun hon => hrun ⟨hcls, hon⟩)
      · exact .inl (Nat.le_of_not_lt hcls)
    rw [taskEnqueue_idle hidle]
    exact .refl s

/-- A descriptor that finds a slot is served. -/
theorem taskEnqueue_readies (hcls : cls < 9) (hon : tb s.pwr.on 3 = true)
    (hspill : (s.lvl (classLevel cls)).spill = []) (hslot : slotFree s (classLevel cls) = true) :
    taskEnqueue cls src t s = readyServed cls (classLevel cls) t (newTask cls src t) (s.at t) := by
  rw [taskEnqueue_eq hcls hon, if_pos]
  simp [hspill, hslot]

/-- A descriptor without a slot, and one behind spilled ones, spills while there is room. -/
theorem taskEnqueue_spills (hcls : cls < 9) (hon : tb s.pwr.on 3 = true)
    (h : (s.lvl (classLevel cls)).spill ≠ [] ∨
      (slotFree s (classLevel cls) = false ∧ spillMode s (classLevel cls) = true))
    (hroom : spilled s < 8192) :
    taskEnqueue cls src t s = spilledTo (classLevel cls) (newTask cls src t) (s.at t) := by
  rw [taskEnqueue_eq hcls hon, if_neg, if_pos]
  · rcases h with hspill | ⟨-, hmode⟩
    · simp [hspill, hroom]
    · simp [hmode, hroom]
  · rcases h with hspill | ⟨hslot, -⟩
    · simp [hspill]
    · simp [hslot]

/-- A descriptor without a slot stalls in the other mode. -/
theorem taskEnqueue_stalls (hcls : cls < 9) (hon : tb s.pwr.on 3 = true)
    (hspill : (s.lvl (classLevel cls)).spill = []) (hslot : slotFree s (classLevel cls) = false)
    (hmode : spillMode s (classLevel cls) = false) :
    taskEnqueue cls src t s = stall (classLevel cls) (s.at t) := by
  have hquiet : stalled (classLevel cls) (s.at t) = stall (classLevel cls) (s.at t) := by
    have hmode' : spillMode (s.at t) (classLevel cls) = false := hmode
    rw [stalled, hmode', Bool.false_and]
    rfl
  rw [taskEnqueue_eq hcls hon, if_neg, if_neg, hquiet]
  · simp [hspill, hmode]
  · simp [hslot]

end

/-! ### Cores that are served (R465) -/

section
variable {t c j : Nat} {s : State}

theorem serveCore_busy (hbusy : (s.core c).task.isSome = true) : serveCore t s c = s := if_pos hbusy

theorem foldl_serveCore_busy {cs : List Nat} (hbusy : ∀ i ∈ cs, (s.core i).task.isSome = true) :
    cs.foldl (serveCore t) s = s := by
  induction cs with
  | nil => rfl
  | cons i cs ih =>
    rw [List.foldl_cons, serveCore_busy (hbusy i List.mem_cons_self)]
    exact ih fun k hk => hbusy k (List.mem_cons_of_mem i hk)

/-- Where every core is busy, none is served. -/
theorem serveCores_busy (hbusy : ∀ i, i < 4 → (s.core i).task.isSome = true) : serveCores t s = s :=
  foldl_serveCore_busy fun i hi => hbusy i (by simp at hi; omega)

/-- Where every other core is busy, and stays so, one core is served. -/
theorem serveCores_one (hc : c < 4) (hothers : ∀ i, i < 4 → i ≠ c → (s.core i).task.isSome = true)
    (hstay : ∀ i, i ≠ c → (serveCore t s c).core i = s.core i) : serveCores t s = serveCore t s c := by
  have hmem : c ∈ [0, 1, 2, 3] := by simp; omega
  obtain ⟨before, after, hsplit⟩ := List.append_of_mem hmem
  have hother {i : Nat} (hi : i ∈ before ∨ i ∈ after) : i < 4 ∧ i ≠ c := by
    have hnodup : (before ++ c :: after).Nodup := hsplit ▸ (by decide : [0, 1, 2, 3].Nodup)
    have hlt : i ∈ [0, 1, 2, 3] := by
      rw [hsplit]
      simpa using hi.imp_right Or.inr
    refine ⟨by simp at hlt; omega, ?_⟩
    rintro rfl
    have hnot := (List.nodup_middle.mp hnodup).notMem
    exact hnot (by simpa using hi)
  have hbefore : before.foldl (serveCore t) s = s := foldl_serveCore_busy fun i hi => by
    obtain ⟨hlt, hne⟩ := hother (.inl hi)
    exact hothers i hlt hne
  have hafter : after.foldl (serveCore t) (serveCore t s c) = serveCore t s c := foldl_serveCore_busy fun i hi => by
    obtain ⟨hlt, hne⟩ := hother (.inr hi)
    rw [hstay i hne]
    exact hothers i hlt hne
  rw [serveCores_eq, hsplit, List.foldl_append, List.foldl_cons, hbefore, hafter]

theorem pickFor_none (hempty : ∀ i, i < 8 → (s.lvl i).ready = []) : pickFor s c = none := by
  refine List.findSome?_eq_none_iff.mpr fun l hl => ?_
  rw [hempty l (by simp at hl; omega)]
  rfl

/-- A core takes the first descriptor of the highest level that has any, where it may run that. -/
theorem pickFor_first {k : Task} {more : List Task} (hj : j < 8) (hready : (s.lvl j).ready = k :: more)
    (hruns : (classCores k.cls).contains c = true) (habove : ∀ i, j < i → i < 8 → (s.lvl i).ready = []) :
    pickFor s c = some (j, 0) := by
  have hmem : j ∈ [7, 6, 5, 4, 3, 2, 1, 0] := by simp; omega
  obtain ⟨above, below, hsplit⟩ := List.append_of_mem hmem
  have hdesc : (above ++ j :: below).Pairwise (· > ·) :=
    hsplit ▸ (by decide : [7, 6, 5, 4, 3, 2, 1, 0].Pairwise (· > ·))
  unfold pickFor
  refine List.findSome?_eq_some_iff.mpr ⟨above, j, below, hsplit, ?_, fun i hi => ?_⟩
  · rw [hready, List.findIdx?_cons, if_pos hruns]
    rfl
  · have hlt : i ∈ [7, 6, 5, 4, 3, 2, 1, 0] := hsplit ▸ List.mem_append_left _ hi
    have hgt : i > j := (List.pairwise_append.mp hdesc).2.2 i hi j List.mem_cons_self
    rw [habove i hgt (by simp at hlt; omega)]
    rfl

theorem unspill_none (hspill : ∀ i, i < 8 → (s.lvl i).spill = []) : unspill s = s := by
  have hnone : [7, 6, 5, 4, 3, 2, 1, 0].find? (fun l => !(s.lvl l).spill.isEmpty && slotFree s l) = none := by
    refine List.find?_eq_none.mpr fun l hl => ?_
    simp [hspill l (by simp at hl; omega)]
  unfold unspill
  rw [hnone]

/-- The first descriptor of a level's list goes to a core. -/
theorem dispatch_first {k : Task} {more : List Task} (hready : (s.lvl j).ready = k :: more) :
    ∃ w m : Lvl → Nat, dispatch c j 0 t s =
      (s.modLvl j (fun x => { x with ready := x.ready.eraseIdx 0, wait := w x, waitMax := m x })).modCore c
        (fun x => { x with task := some { k with seen := true }, since := t }) := by
  unfold dispatch
  rw [hready]
  exact ⟨fun _ => _, fun _ => _, rfl⟩

end

/-! ### A core that is freed (R465, R468) -/

/-- A core has no task; the other cores and the levels are as they were. -/
structure Freed (c : Nat) (s x : State) : Prop where
  task   : (x.core c).task = none
  others : ∀ i, i ≠ c → x.core i = s.core i
  lvls   : x.sch.lvls = s.sch.lvls
  count  : x.sch.cores.length = s.sch.cores.length

theorem modCore_freed {c : Nat} {s : State} (hc : c < s.sch.cores.length) :
    Freed c s (s.modCore c (fun x => { x with task := none })) :=
  ⟨congrArg Core.task (core_modCore_self hc), fun _ hi => core_modCore_ne hi, rfl, modAt_length ..⟩

theorem leaveCore_freed {c : Nat} (t : Nat) {s : State} (hc : c < s.sch.cores.length) :
    Freed c s (leaveCore c t s).1 := by
  unfold leaveCore
  split
  · next hnone => exact ⟨hnone, fun _ _ => rfl, rfl, rfl⟩
  · obtain ⟨htask, hothers, hlvls, hcount⟩ := modCore_freed hc
    simp only
    split <;> exact ⟨htask, hothers, hlvls, hcount⟩

theorem Freed.lvl {c : Nat} {s x : State} (h : Freed c s x) (l : Nat) : x.lvl l = s.lvl l := by
  rw [State.lvl, h.lvls, State.lvl]

/-- A core has taken the first descriptor of level `j`; the other cores and levels are as they were. -/
structure Took (c j t : Nat) (k : Task) (more : List Task) (s x : State) : Prop where
  task   : (x.core c).task = some { k with seen := true }
  since  : (x.core c).since = t
  ready  : (x.lvl j).ready = more
  others : ∀ i, i ≠ c → x.core i = s.core i
  lvls   : ∀ i, i ≠ j → x.lvl i = s.lvl i

section
variable {t c j : Nat} {k : Task} {more : List Task} {s : State}

theorem serveCore_unpicked (hfree : (s.core c).task = none) (hpick : pickFor s c = none) : serveCore t s c = s := by
  unfold serveCore
  rw [hfree, hpick]
  rfl

theorem serveCore_picked (hfree : (s.core c).task = none) {i : Nat} (hpick : pickFor s c = some (j, i)) :
    serveCore t s c = unspill (dispatch c j i t s) := by
  unfold serveCore
  rw [hfree, hpick]
  rfl

/-- Where no descriptor is spilled, a level's list is shorter by the one that a free core takes from it. -/
theorem serveCore_took (hfree : (s.core c).task = none) (hc : c < s.sch.cores.length) (hj : j < s.sch.lvls.length)
    (hpick : pickFor s c = some (j, 0)) (hready : (s.lvl j).ready = k :: more)
    (hspill : ∀ i, i < 8 → (s.lvl i).spill = []) : Took c j t k more s (serveCore t s c) := by
  obtain ⟨w, m, hdispatch⟩ := dispatch_first (c := c) (t := t) hready
  have hlvl : (dispatch c j 0 t s).lvl j =
      { s.lvl j with ready := more, wait := w (s.lvl j), waitMax := m (s.lvl j) } := by
    rw [hdispatch, lvl_modCore, lvl_modLvl_self hj, hready]
    rfl
  have hlvls (i : Nat) (hi : i ≠ j) : (dispatch c j 0 t s).lvl i = s.lvl i := by
    rw [hdispatch, lvl_modCore, lvl_modLvl_ne hi]
  have hcore : (dispatch c j 0 t s).core c = { s.core c with task := some { k with seen := true }, since := t } := by
    rw [hdispatch]
    exact core_modCore_self hc
  have hcores (i : Nat) (hi : i ≠ c) : (dispatch c j 0 t s).core i = s.core i := by
    rw [hdispatch, core_modCore_ne hi, core_modLvl]
  have hnone : unspill (dispatch c j 0 t s) = dispatch c j 0 t s := unspill_none fun i hi => by
    by_cases hij : i = j
    · rw [hij, hlvl]
      exact hspill j (hij ▸ hi)
    · rw [hlvls i hij]
      exact hspill i hi
  rw [serveCore_picked hfree hpick, hnone]
  exact ⟨congrArg Core.task hcore, congrArg Core.since hcore, congrArg Lvl.ready hlvl, hcores, hlvls⟩

theorem coreFree_idle (hc : 4 ≤ c) : coreFree c t s = s := if_neg (Nat.not_lt.mpr hc)

theorem coreFree_eq (hc : c < 4) : coreFree c t s = serveCores t (leaveCore c t (s.at t)).1 := if_pos hc

theorem coreFree_schForm : SchForm s (coreFree c t s) := by
  by_cases hc : c < 4
  · rw [coreFree_eq hc]
    exact ((at_schForm t s).trans (leaveCore_schForm ..)).trans (serveCores_schForm ..)
  · rw [coreFree_idle (Nat.le_of_not_lt hc)]
    exact .refl s

/-- A core that is freed while every other is busy is the one that is served. -/
theorem coreFree_serves (hc : c < 4) (hcores : c < s.sch.cores.length)
    (hothers : ∀ i, i < 4 → i ≠ c → (s.core i).task.isSome = true)
    (hstay : ∀ x, Freed c s x → ∀ i, i ≠ c → (serveCore t x c).core i = x.core i) :
    ∃ x, Freed c s x ∧ coreFree c t s = serveCore t x c := by
  obtain ⟨htask, hkept, hlvls, hcount⟩ := leaveCore_freed t (s := s.at t) hcores
  have hfreed : Freed c s (leaveCore c t (s.at t)).1 := ⟨htask, hkept, hlvls, hcount⟩
  refine ⟨_, hfreed, (coreFree_eq hc).trans (serveCores_one hc (fun i hi hne => ?_) (hstay _ hfreed))⟩
  rw [hfreed.others i hne]
  exact hothers i hi hne

/-- With no descriptor waiting the core stays free. -/
theorem coreFree_free (hc : c < 4) (hcores : c < s.sch.cores.length)
    (hothers : ∀ i, i < 4 → i ≠ c → (s.core i).task.isSome = true)
    (hempty : ∀ i, i < 8 → (s.lvl i).ready = []) : Freed c s (coreFree c t s) := by
  have hserve (x : State) (hx : Freed c s x) : serveCore t x c = x :=
    serveCore_unpicked hx.task (pickFor_none fun i hi => hx.lvl i ▸ hempty i hi)
  obtain ⟨x, hx, heq⟩ := coreFree_serves hc hcores hothers fun x hx i _ => by rw [hserve x hx]
  rw [heq, hserve x hx]
  exact hx

/-- With descriptors waiting the core takes the first one of the highest level. -/
theorem coreFree_took (hc : c < 4) (hcores : c < s.sch.cores.length)
    (hothers : ∀ i, i < 4 → i ≠ c → (s.core i).task.isSome = true) (hj : j < 8) (hlvls : j < s.sch.lvls.length)
    (hready : (s.lvl j).ready = k :: more) (hruns : (classCores k.cls).contains c = true)
    (habove : ∀ i, j < i → i < 8 → (s.lvl i).ready = []) (hspill : ∀ i, i < 8 → (s.lvl i).spill = []) :
    Took c j t k more s (coreFree c t s) := by
  have htook (x : State) (hx : Freed c s x) : Took c j t k more x (serveCore t x c) := by
    have hready' : (x.lvl j).ready = k :: more := hx.lvl j ▸ hready
    exact serveCore_took hx.task (hx.count ▸ hcores) (hx.lvls ▸ hlvls)
      (pickFor_first hj hready' hruns fun i hi hi8 => hx.lvl i ▸ habove i hi hi8) hready'
      fun i hi => hx.lvl i ▸ hspill i hi
  obtain ⟨x, hx, heq⟩ := coreFree_serves hc hcores hothers fun x hx => (htook x hx).others
  obtain ⟨htask, hsince, hmore, hcores', hlvls'⟩ := htook x hx
  rw [heq]
  exact ⟨htask, hsince, hmore, fun i hi => (hcores' i hi).trans (hx.others i hi),
    fun i hi => (hlvls' i hi).trans (hx.lvl i)⟩

end

/-! ### A descriptor in its list, spilled, or stalled (R464, R469) -/

section
variable {cls l t : Nat} {k : Task} {s : State}

theorem preempt_none (hno : victim s cls l = none) : preempt cls l t s = s := by
  unfold preempt
  rw [hno]

/-- Where every core is busy and none may be preempted, a descriptor that joined its list waits there. -/
theorem readyServed_waits (hbusy : ∀ i, i < 4 → (s.core i).task.isSome = true) (hno : victim s cls l = none) :
    readyServed cls l t k s = readied l k s := by
  have hserved : serveCores t (readied l k s) = readied l k s := serveCores_busy hbusy
  have hkept : preempt cls l t (readied l k s) = readied l k s := preempt_none hno
  unfold readyServed
  simp only [hserved, hkept, ite_self]

theorem readied_lvl (hl : l < s.sch.lvls.length) (hspill : (s.lvl l).spill = []) : (readied l k s).lvl l =
    { s.lvl l with
      ready := (s.lvl l).ready ++ [k]
      depthMax := max (s.lvl l).depthMax ((s.lvl l).ready.length + 1) } := by
  rw [readied, depthMark, lvl_modLvl_self (by simpa using hl), lvl_modLvl_self hl]
  simp [hspill]

theorem readied_lvl_ne {j : Nat} (hj : j ≠ l) : (readied l k s).lvl j = s.lvl j :=
  (lvl_modLvl_ne hj).trans (lvl_modLvl_ne hj)

/-- A descriptor stands last in the spill queue of its level; the lists, the other levels and the cores are as they
were, and the first one spilled is reported. -/
structure Spilled (l : Nat) (k : Task) (s x : State) : Prop where
  cores  : x.sch.cores = s.sch.cores
  spill  : (x.lvl l).spill = (s.lvl l).spill ++ [k]
  ready  : (x.lvl l).ready = (s.lvl l).ready
  others : ∀ j, j ≠ l → x.lvl j = s.lvl j
  first  : (s.lvl l).spill = [] → Reported 0x12 l 3 s x

theorem spillMarked_lvl (hl : l < s.sch.lvls.length) : (spillMarked l s).lvl l =
    { s.lvl l with depthMax := max (s.lvl l).depthMax ((s.lvl l).ready.length + (s.lvl l).spill.length) } :=
  lvl_modLvl_self (s := { s with sch := { s.sch with spillMax := max s.sch.spillMax (spilled s) } }) hl

theorem spillMarked_lvl_ne {j : Nat} (hj : j ≠ l) : (spillMarked l s).lvl j = s.lvl j := lvl_modLvl_ne hj

theorem lvl_of_sch {x y : State} (h : x.sch = y.sch) (j : Nat) : x.lvl j = y.lvl j := by
  rw [State.lvl, h, State.lvl]

theorem spilledTo_spilled (hl : l < s.sch.lvls.length) : Spilled l k s (spilledTo l k s) := by
  have hreported (hempty : (s.lvl l).spill = []) : Reported 0x12 l 3 s (spilledTo l k s) :=
    ((raiseIf_reported (by rw [hempty]; rfl) ..).of_flt rfl).source rfl
  have hsch : (raiseIf (s.lvl l).spill.isEmpty 0x12 l 3 0 (spillJoined l k s)).sch = (spillJoined l k s).sch :=
    congrArg Engines.sch (raiseIf_eng ..)
  unfold spilledTo at hreported ⊢
  generalize raiseIf (s.lvl l).spill.isEmpty 0x12 l 3 0 (spillJoined l k s) = x at hreported hsch ⊢
  have hlen : l < x.sch.lvls.length := by
    rw [hsch]
    exact modLvl_length.symm ▸ hl
  have hcores : x.sch.cores = s.sch.cores := by
    rw [hsch]
    rfl
  have hlvl : x.lvl l = { s.lvl l with spill := (s.lvl l).spill ++ [k] } :=
    (lvl_of_sch hsch l).trans (lvl_modLvl_self hl)
  refine ⟨hcores, ?_, ?_, fun j hj => ?_, hreported⟩
  · rw [spillMarked_lvl hlen, hlvl]
  · rw [spillMarked_lvl hlen, hlvl]
  · exact (spillMarked_lvl_ne hj).trans ((lvl_of_sch hsch j).trans (lvl_modLvl_ne hj))

/-- A descriptor that cannot be enqueued is counted, and reported where it is the first one of its level in a frame. -/
structure Stalled (l : Nat) (s x : State) : Prop where
  count  : x.sch.stalls = satAdd 32 s.sch.stalls 1
  cores  : x.sch.cores = s.sch.cores
  level  : x.lvl l = { s.lvl l with stalls := (s.lvl l).stalls + 1 }
  others : ∀ j, j ≠ l → x.lvl j = s.lvl j
  first  : (s.lvl l).stalls = 0 → (s.lvl l).bp = false → Reported 0x12 l 2 s x

/-- A stall is counted in all and in its level. -/
def stallCounted (l : Nat) (s : State) : State :=
  { s with sch := { s.sch with stalls := satAdd 32 s.sch.stalls 1 } }.modLvl l
    (fun x => { x with stalls := x.stalls + 1 })

theorem stall_eq : stall l s =
    raiseIf (decide ((s.lvl l).stalls = 0) && !(s.lvl l).bp) 0x12 l 2 0 (stallCounted l s) := rfl

theorem stall_stalled (hl : l < s.sch.lvls.length) : Stalled l s (stall l s) := by
  have hsch : (stall l s).sch = (stallCounted l s).sch := congrArg Engines.sch (raiseIf_eng ..)
  have hcount : (stall l s).sch.stalls = satAdd 32 s.sch.stalls 1 := congrArg Sch.stalls hsch
  have hcores : (stall l s).sch.cores = s.sch.cores := by
    rw [hsch]
    rfl
  refine ⟨hcount, hcores, ?_, fun j hj => ?_, fun hnone hbp => ?_⟩
  · exact (lvl_of_sch hsch l).trans (modAt_getD_self _ _ _ _ hl)
  · exact (lvl_of_sch hsch j).trans (modAt_getD_ne _ _ _ _ _ hj)
  · rw [stall_eq]
    exact (raiseIf_reported (by simp [hnone, hbp]) ..).source rfl

end

/-! ### The load of the cores (R472, R474) -/

/-- What is reported behind messages that are only added to is reported from before them. -/
theorem FltGrows.reported {blk inst kind : Nat} {a b c : State} (h1 : FltGrows a b) (h2 : Reported blk inst kind b c) :
    Reported blk inst kind a c :=
  ⟨by have := h1.1; have := h2.1; omega, h2.2⟩

/-- The loads of a window kept, with the length and the warning of the next one. -/
def loadsKept (busy : List Nat) (s : State) : State :=
  { s with sch := { s.sch with
    cores := s.sch.cores.mapIdx (fun c x => { x with
      load := loadOf (busy.getD c 0) s.sch.loadWin
      loadMax := max x.loadMax (loadOf (busy.getD c 0) s.sch.loadWin) })
    loadWin := s.p 0x0309
    loadWarn := s.p 0x030A } }

/-- A core above the warning is reported. -/
def loadJudged (warn : Nat) (s : State) (c : Nat) : State :=
  raiseIf (decide (warn < (s.core c).load)) 0x12 c 5 0 s

section
variable {busy : List Nat} {s : State}

theorem schLoadWindowEnd_eq (busy : List Nat) (s : State) :
    schLoadWindowEnd busy s = [0, 1, 2, 3].foldl (loadJudged s.sch.loadWarn) (loadsKept busy s) := rfl

theorem foldl_loadJudged_eng (warn : Nat) (cs : List Nat) (s : State) :
    engines (cs.foldl (loadJudged warn) s) = engines s :=
  foldl_kept engines cs (loadJudged warn) s fun _ _ => raiseIf_eng ..

theorem foldl_loadJudged_grows (warn : Nat) (cs : List Nat) (s : State) : FltGrows s (cs.foldl (loadJudged warn) s) :=
  foldl_form FltGrows.refl (fun _ _ _ => FltGrows.trans) (loadJudged warn) (fun _ _ => raiseIf_grows ..) cs s

theorem loadsKept_load {i : Nat} (hi : i < s.sch.cores.length) :
    ((loadsKept busy s).core i).load = loadOf (busy.getD i 0) s.sch.loadWin := by
  simp [State.core, loadsKept, hi]

/-- Each core above the warning is reported, and the reports leave the blocks of the converter. -/
theorem schLoadWindowEnd_reports {i : Nat} (hi : i < 4) (hcores : i < s.sch.cores.length)
    (hwarn : s.sch.loadWarn < loadOf (busy.getD i 0) s.sch.loadWin) :
    Reported 0x12 i 5 s (schLoadWindowEnd busy s) := by
  have hmem : i ∈ [0, 1, 2, 3] := by simp; omega
  obtain ⟨before, after, hsplit⟩ := List.append_of_mem hmem
  rw [schLoadWindowEnd_eq, hsplit, List.foldl_append, List.foldl_cons]
  have hgrown := foldl_loadJudged_grows s.sch.loadWarn before (loadsKept busy s)
  have hsch := congrArg Engines.sch (foldl_loadJudged_eng s.sch.loadWarn before (loadsKept busy s))
  generalize before.foldl (loadJudged s.sch.loadWarn) (loadsKept busy s) = x at hgrown hsch ⊢
  have hload : (x.core i).load = loadOf (busy.getD i 0) s.sch.loadWin := by
    have hcore : x.core i = (loadsKept busy s).core i := congrArg (fun q : Sch => q.cores.getD i Core.reset) hsch
    rw [hcore, loadsKept_load hcores]
  have hreported : Reported 0x12 i 5 x (loadJudged s.sch.loadWarn x i) :=
    raiseIf_reported (decide_eq_true (hload ▸ hwarn)) ..
  exact ((hgrown.source rfl).reported hreported).grows (foldl_loadJudged_grows ..)

end

/-! ### The commands -/

/-- A command that changes the scheduler leaves the other blocks of the converter. -/
theorem does_sch {c : Instr} {s x : State} {P : State → Prop} (he : effect c { s with out := [] } = x)
    (hform : SchForm { s with out := [] } x) (hP : P (settle x)) :
    Does c s (fun t => engines t = { engines s with sch := t.sch } ∧ P t) :=
  does_effect he ⟨(settle_eng x).trans hform.eng, hP⟩

theorem supWdog_running {c : Nat} {s : State} (h : (s.core c).task.isSome = true) :
    supWdog c s = fatalLine 3 c 0 s := if_pos h

theorem supWdog_idle {c : Nat} {s : State} (h : (s.core c).task = none) : supWdog c s = s :=
  if_neg (by rw [h]; exact Bool.noConfusion)

/-- Settles O57: a descriptor waits, spills or stalls, a freed core takes the first descriptor or stays free, the
watchdog is line 3, and a load window keeps and judges the loads. The rounding of a load is the choice of log 3. -/
theorem coresTakeAndReleaseTasks : Obligations.CoresTakeAndReleaseTasks := by
  intro s cls src time c same only l k
  have hform : SchForm { s with out := [] } (taskEnqueue cls src time { s with out := [] }) :=
    taskEnqueue_schForm
  refine ⟨fun h => ?_, fun hcls hon hl => ⟨?_, fun hspill hslot hbusy hno => ?_, fun h hroom => ?_,
    fun hspill hslot hmode => ?_⟩, fun hc hcores hothers => ⟨fun hempty => ?_,
    fun j k more hj hlvls hready hruns habove hspill => ?_⟩, fun hc => ?_, fun hrun hreset hsync => ?_,
    fun hrun hreset hsync => ?_, fun hidle => ?_, fun busy => ?_⟩
  · exact does_nothing (taskEnqueue_idle (s := { s with out := [] }) h)
  · exact (does_sch (P := fun _ => True) rfl hform trivial).imp fun _ => And.left
  · have heq := (taskEnqueue_readies (s := { s with out := [] }) (src := src) (t := time) hcls hon hspill hslot).trans
      (readyServed_waits hbusy hno)
    exact does_sch heq (heq ▸ hform) ⟨rfl, readied_lvl hl hspill, fun j hj => readied_lvl_ne hj⟩
  · have heq := taskEnqueue_spills (s := { s with out := [] }) (src := src) (t := time) hcls hon h hroom
    obtain ⟨hcores, hspill, hready, hothers, hfirst⟩ :=
      spilledTo_spilled (k := k) (s := State.at time { s with out := [] }) hl
    exact does_sch heq (heq ▸ hform) ⟨hcores, hspill, hready, hothers, fun hempty => (hfirst hempty).settled rfl⟩
  · have heq := taskEnqueue_stalls (s := { s with out := [] }) (src := src) (t := time) hcls hon hspill hslot hmode
    obtain ⟨hcount, hcores, hlevel, hothers, hfirst⟩ := stall_stalled (s := State.at time { s with out := [] }) hl
    exact does_sch heq (heq ▸ hform)
      ⟨hcount, hcores, hlevel, hothers, fun hnone hbp => (hfirst hnone hbp).settled rfl⟩
  · obtain ⟨htask, hcores', hlvls, -⟩ :=
      coreFree_free (t := time) (s := { s with out := [] }) hc hcores hothers fun i hi => (hempty i hi).1
    exact does_sch rfl coreFree_schForm ⟨htask, hcores', hlvls⟩
  · obtain ⟨htask, hsince, hmore, hcores', hlvls'⟩ := coreFree_took (t := time) (s := { s with out := [] }) hc hcores
      hothers hj hlvls hready hruns habove hspill
    exact does_sch rfl coreFree_schForm ⟨htask, hsince, hmore, hcores', hlvls'⟩
  · exact does_nothing (coreFree_idle (t := time) (s := { s with out := [] }) hc)
  · exact fatal_darkens (l := 3) (supWdog_running (s := { s with out := [] }) hrun) hreset (by decide) hsync
  · exact (fatal_blocks (c := .supWdog c) (l := 3) (supWdog_running (s := { s with out := [] }) hrun) hreset (by decide)
      (.inr hsync)).imp fun t ⟨hstands, hlatch, hacted, heng⟩ => ⟨congrArg Engines.pwr heng, hstands.1, hlatch, hacted,
        congrArg Engines.sch heng⟩
  · exact does_nothing (supWdog_idle (s := { s with out := [] }) hidle)
  · refine does_effect rfl ⟨(settle_eng _).trans ?_, fun i hi hcores hwarn => ?_⟩
    · exact foldl_loadJudged_eng s.sch.loadWarn [0, 1, 2, 3] (loadsKept busy { s with out := [] })
    · exact (schLoadWindowEnd_reports (s := { s with out := [] }) hi hcores hwarn).settled rfl

end Sys2Proof
